-- ==== Sys2Proof/Word.lean ====
section
/-! DEFINITION. The word and byte types of the part and nothing else: parameters and registers are 32 bits (R395, R481). -/

namespace Sys2Proof

/-- A 32-bit register, parameter or payload word (R395). -/
abbrev Word := BitVec 32

/-- A byte. -/
abbrev Byte := BitVec 8

end Sys2Proof
end

