-- ==== Sys2Proof/Syntax.lean ====
section
/-! DEFINITION. The commands of the block: one constructor of Instr per row of the opcode table, with the
operands the rules say the command carries, and the plain types those operands are made of. -/

namespace Sys2Proof

/-- A channel (and its cell), CH00 to CH31. -/
abbrev Ch := Fin 32

/-- The twelve operating modes M0 to M11 (R70, Table 4-1). -/
inductive Mode where
  | m0 | m1 | m2 | m3 | m4 | m5 | m6 | m7 | m8 | m9 | m10 | m11
  deriving DecidableEq, Repr

/-- The functions of a channel (R119, Table 6-11). -/
inductive Func where
  | off | di | dout | aiv | aii | aih | aoa | aop | xsd
  deriving DecidableEq, Repr

/-- Where a packet comes from (R373, R378): the host port, a management session, the service port,
the CFG image executed at start-up, the manager's group message. -/
inductive Src where
  | host
  | udp (session : Nat)
  | service
  | cfg
  | group
  deriving DecidableEq, Repr

/-- What a packet carries beside its opcode and parameters (R371). -/
structure Ctx where
  src : Src
  alive : Byte
  tag : Byte
  deriving DecidableEq, Repr

/-- Which of the two CFW slots pass every boot ROM check (R469). -/
structure BootCheck where
  okA : Bool
  okB : Bool
  deriving DecidableEq, Repr

/-- How the migration of the CFG slot at start-up ended (R476, R477). -/
inductive MigResult where
  | none | migrated | failed
  deriving DecidableEq, Repr

/-- What the load found for one image at start-up (R472, R473). -/
inductive ImgCheck where
  | absent | failed | ok
  deriving DecidableEq, Repr

/-- A requested module reset: RESET_CAUSE.CAUSE, COLD and FS (R82, Table 4-8). -/
structure RstReq where
  cause : Nat
  cold : Bool
  fs : Nat
  deriving DecidableEq, Repr

/-- The blocks that a BLK or CHIP reaction resets, one settle window each (Table 18-4). -/
inductive Block where
  | cell (c : Ch) | headgate | network | engine | culvert | hostPort | security | module
  deriving DecidableEq, Repr

/-- Self-calibration factors a cell has found for one path: 0 AIV, 1 AII, 2 AIH, 3 AO stage, 4 shunt sense, 5 input
stage (chapter 11). -/
structure PathFactors where
  path : Fin 6
  ofs : Int
  gain : Nat
  deriving DecidableEq, Repr

/-- What one cell measures at a marker: V_Q in 0.1 V; the input current in µA or the load current in mA; P in mV; the
largest load current in mA since the previous marker or, where the inrush window has closed since, since then; energy through the
switch in µJ; the raw BOX and SINC3 results; the loop
current in nA, the terminal voltage in 10 mV, and whether the stage saturated. -/
structure CellSample where
  vq : Int := 0
  iq : Int := 0
  pMv : Int := 0
  iPk : Nat := 0
  enUj : Nat := 0
  box : Int := 0
  sinc : Int := 0
  iMeas : Int := 0
  vTerm : Int := 0
  sat : Bool := false
  deriving DecidableEq, Repr

/-- What the supply monitor gives each ms: the lowest and the highest VSYS of the last 1 ms and their average, and VIO, in mV;
coupler power over 100 ms and input power over 1 s, in mW (R57, R69). -/
structure SupplyIn where
  vsysMin : Nat
  vsysMax : Nat
  vsysMv : Nat
  vioMv : Nat
  cplMw : Nat
  inMw : Nat
  deriving DecidableEq, Repr

/-- A marker at the 32 cells: the cells that miss it, and what each cell measures, by channel. -/
structure SluiceIn where
  missed : BitVec 32
  samples : List CellSample
  deriving DecidableEq, Repr
/-- What the commit cutoff meets: the record writer misses its copy of the frame (FS36); an output frame misses the
downstream window (FS37). -/
structure CutoffIn where
  recMissed : Bool := false
  outMissed : Bool := false
  deriving DecidableEq, Repr
/-- One of the two station network ports. -/
inductive NetPort where
  | a | b
  deriving DecidableEq, Repr
/-- A PTP Announce message: the attributes its sender claims for the grandmaster, the UTC offset and the leap
indicators (R114, R306, R309). -/
structure Announce where
  domain : Nat
  priority1 : Nat
  clockClass : Nat
  accuracy : Nat
  variance : Nat
  priority2 : Nat
  gmId : Nat
  steps : Nat
  utcValid : Bool
  utc : Int
  leap61 : Bool
  leap59 : Bool
  deriving DecidableEq, Repr
/-- A peer delay message: a request to answer, or the mean path delay a completed exchange gives, in ns (R306). -/
inductive PdelayMsg where
  | request
  | response (delayNs : Int)
  deriving DecidableEq, Repr
/-- What a cell EVENT frame carries: the oldest entry of a DI event queue, a CELL_CAUSE condition, the oldest injected
result, or a HART frame (Table 6-5, R159, R215). -/
inductive CellEvent where
  | edge
  | cause (bit : Fin 26)
  | inj
  | hart
  deriving DecidableEq, Repr
/-- A lane frame as its receiver sees it after SOF: HDR, the 8 bytes of PAYLOAD, the CRC, and whether every symbol decoded
(R124, R125, Table 6-4). -/
structure LaneRx where
  hdr : Byte
  payload : List Byte
  crc : BitVec 16
  coded : Bool
  deriving DecidableEq, Repr

/-- The timed diagnoses of a switch output (Table 8-6). -/
inductive DiagKind where
  | shortGnd | shortSupply | gate | extVoltage | openLoad
  deriving DecidableEq, Repr
/-- What a supervision pulse measured: when the current reached 0.8 mA, in µs from the start of the ramp; its smallest and
largest value from then to the end, and the largest of the whole pulse, in µA (R188, R189). -/
structure TcsResult where
  reachedUs : Option Nat
  minUa : Nat
  maxUa : Nat
  peakUa : Nat
  deriving DecidableEq, Repr
/-- What a received frame carries at the end of its header or of its last bit: the part of a frame a command stands
for (R302). -/
inductive RxPhase where
  | words
  | check (ok : Bool)
  deriving DecidableEq, Repr

/-- What a ring frame is to the transparent clock: no PTP message it corrects, an event message with its correction in it, an
event message whose Follow_Up carries it, or that Follow_Up; a message and its Follow_Up have one PTP sequence ID (R308). -/
inductive RingPtp where
  | none
  | oneStep
  | twoStep (seqId : BitVec 16)
  | followUp (seqId : BitVec 16)
  deriving DecidableEq, Repr

/-- A ring frame at NETA or NETB: its source address and sequence number, whether it is for this module alone, what it is to the
transparent clock, its content, its FCS verdict at the ingress, a link failure within it,
and its residence time (R298 to R301, R308). -/
structure RingFrame where
  port : NetPort
  src : BitVec 48
  seq : BitVec 16
  toUs : Bool
  ptp : RingPtp
  correction : Int
  express : Bool
  content : List Word
  fcsOk : Bool
  linkFail : Bool
  residenceNs : Nat
  deriving DecidableEq, Repr
/-- A GOOSE frame: the ports and addresses it matches on, the parts its template covers, its state and time, its members
by type and value words, and the redundancy key of an HSR or PRP frame (R304, R315). -/
structure GooseFrame where
  port : NetPort
  key : Option (BitVec 64)
  phase : RxPhase
  dst : BitVec 48
  appid : BitVec 16
  vlan : Option Nat
  refs : List Word
  confRev : Word
  ndsCom : Bool
  security : Bool
  sim : Bool
  test : Bool
  stNum : Word
  sqNum : Word
  ttlMs : Nat
  t : Nat
  types : List Nat
  vals : List Word
  deriving DecidableEq, Repr
/-- A mirror frame: addresses, the words of its PDU (Table 13-7), and the redundancy key of an HSR or PRP frame. -/
structure MirrorFrame where
  port : NetPort
  key : Option (BitVec 64)
  phase : RxPhase
  dst : BitVec 48
  etype : BitVec 16
  vlan : Option Nat
  pdu : List Word
  deriving DecidableEq, Repr
/-- A subscription: GOOSE or mirror, by index. -/
inductive SubRef where
  | goose (i : Fin 64)
  | mirror (i : Fin 16)
  deriving DecidableEq, Repr
/-- One part of a handshake message: part index and count, and the session ID (R327). -/
structure HsPart where
  idx : Nat
  count : Nat
  session : BitVec 32
  deriving DecidableEq, Repr
/-- What one peer reports at link training: its index, its CAS_M strap (true where it is tied low) and its TICK code. -/
structure CasReport where
  idx : Fin 8
  master : Bool
  code : Nat
  deriving DecidableEq, Repr

/-- The reports of the peers, in ring order from CAS_A (R335). -/
structure CasTraining where
  peers : List CasReport
  deriving DecidableEq, Repr
/-- A culvert tick image: its 128 words (Table 14-2), and how much of it has come. -/
structure CasImage where
  phase : RxPhase
  words : List Word
  deriving DecidableEq, Repr
/-- A culvert service frame: destination, source, bytes of its group datagram, the datagram's words (Table 14-6). -/
structure SvcFrame where
  dst : Fin 8
  src : Fin 8
  n : Nat
  words : List Word
  deriving DecidableEq, Repr
/-- What a group datagram carries: a packet to execute or its reply; PREPARE with the packet, or its answer; COMMIT with
the packet and T_ACT; a summary of FLT_SUMMARY, MODE, error pair state and TQ (R349 to R353). -/
inductive GroupBody where
  | packet (ws : List Word)
  | reply (ws : List Word)
  | prepare (ws : List Word)
  | prepared (status : Nat)
  | commit (ws : List Word) (tAct : Nat)
  | summary (ws : List Word)
  deriving DecidableEq, Repr

/-- A group datagram: the sender's ID_SERIAL, its sequence, the verdict on its tag, what it carries. -/
structure GroupMsg where
  serial : Nat
  seq : Nat
  tagOk : Bool
  body : GroupBody
  deriving DecidableEq, Repr
/-- A host port frame: HSCK at the falling edge of HSEL_N, its bit count, the whole words the host sent, whether a word
started while HRDY was low, and the word at which the stretch limit released HRDY (R357 to R362). -/
structure HostFrame where
  mode3 : Bool
  bits : Nat
  words : List Word
  rdyViol : Bool
  limitWord : Nat
  deriving DecidableEq, Repr
/-- The memories whose errors the module finds (R11, R263, R414). -/
inductive MemKind where
  | dram | flash | mram | sram | engine
  deriving DecidableEq, Repr
/-- The scrubbed memories (Table 18-1). -/
inductive ScrubMem where
  | dram | mram | sram
  deriving DecidableEq, Repr
/-- Verdicts of a verification: blocks read back from flash, the Kwaom pair, the owner pair (Table 20-5). -/
structure VerifyResult where
  flashOk : Bool
  kwaomOk : Bool
  ownerOk : Bool
  deriving DecidableEq, Repr
/-- A factory command: an injection at a point of R434 (an event of a source or cause bit, an error in a memory word, a corrupted check
value on a lane frame, a stopped destination clock), or an opcode the manual does not describe. -/
inductive FactoryOp where
  | inject (fs : Fin 96) (bit : Fin 26)
  | memoryWord (m : MemKind) (addr : Nat) (double : Bool)
  | laneCheck (ch : Fin 32) (toCell : Bool)
  | stopClock (row : Fin 8)
  | other (opcode : BitVec 4)
  deriving DecidableEq, Repr


/-- The commands of the block, one constructor per row of the opcode table, in its order. -/
inductive Instr where
  | vsysValid (mv : Nat)
  | vsysPowerFail (vbatMv : Nat)
  | powerFailComplete (inTime : Bool)
  | holdupCharged
  | presNLow
  | presNRelease
  | bootBegin (casM : Bool) (casId : BitVec 3) (cfw : BootCheck)
  | firmwareStart (caseT : Int) (coreT : Int) (vbatMv : Nat) (cmcOk : Bool) (mramOk : Bool)
  | startupLanesUp
  | startupSelfcalComplete (mig : MigResult) (cfg : ImgCheck)
  | configLoadComplete (lgp : ImgCheck)
  | armedTicksElapsed
  | moduleReset (r : RstReq)
  | thermalTrip
  | thermalTripRestart
  | vioRangeChange (mv : Nat)
  | vbatBrownout
  | vbatCheck (mv : Nat)
  | vsysSample (mv : Nat)
  | powerAverageUpdate (x : SupplyIn)
  | temperatureThreshold (caseT : Int) (coreT : Int)
  | powerStateEnter (horizonNs : Nat)
  | powerStateWake
  | cellPowerStateEnter (ch : Ch) (horizonNs : Nat)
  | removalRequest
  | mramFlushComplete
  | removalCancel
  | tamperSample (isOpen : Bool)
  | rtcDiscipline
  | tickMarkerLaunch (lateNs : Nat)
  | sluiceCommit (x : SluiceIn)
  | functionStart (ch : Ch)
  | rateChange
  | localImageComplete (inTime : Bool)
  | firstEvalComplete
  | replayPassComplete
  | commitCutoff (x : CutoffIn)
  | recordClose
  | gooseRetransmit (pub : Fin 16)
  | ptpSyncReceived (port : NetPort) (offsetNs : Int) (freq : Int)
  | ptpSourceTimeout
  | holdoverUpdate
  | stepApply
  | slewStart
  | slewEnd
  | ptpAnnounceReceived (port : NetPort) (a : Announce)
  | ptpMasterTransmit
  | ptpPdelayMessage (port : NetPort) (m : PdelayMsg)
  | leapSecondApply
  | syncInEdge (rising : Bool) (highNs : Nat) (lowNs : Nat) (errNs : Int) (freq : Int)
  | ppsMissing
  | laneCommaDetected (ch : Ch)
  | laneTrainTimeout (ch : Ch)
  | laneSymbolLoss (ch : Ch)
  | laneAck (ch : Ch) (toCell : Bool)
  | laneNak (ch : Ch) (toCell : Bool)
  | laneAnswerTimeout (ch : Ch) (toCell : Bool)
  | resultReceived (ch : Ch) (ok : Bool)
  | outFrameReceived (ch : Ch) (r : LaneRx)
  | cfgwReceived (ch : Ch) (r : LaneRx)
  | cfgrReceived (ch : Ch) (r : LaneRx)
  | applyReceived (ch : Ch) (r : LaneRx)
  | holdoverReceived (ch : Ch) (r : LaneRx)
  | ucodeReceived (ch : Ch) (r : LaneRx) (last : Bool) (crc : Nat)
  | cfgaReceived (ch : Ch) (r : LaneRx)
  | configWriteDeadline (ch : Ch)
  | configWriteLaneTimeout (ch : Ch)
  | helloReceived (ch : Ch) (ok : Bool)
  | helloRepeat (ch : Ch)
  | eventFrameReceived (ch : Ch) (ok : Bool) (ev : CellEvent)
  | statusReceived (ch : Ch) (dieT : Int) (swT : Int) (p20mv : Int) (mw : Nat) (ok : Bool)
  | statusSend (ch : Ch)
  | cellPowerUp (ch : Ch) (fld : Bool)
  | cellSupplyLoss (ch : Ch)
  | cellReset (ch : Ch) (why : BitVec 4)
  | wdLaneExpire (ch : Ch)
  | wdSeqExpire (ch : Ch)
  | holdoverExpire (ch : Ch)
  | cellSelfcalComplete (ch : Ch) (fs : List PathFactors)
  | diRawEdge (ch : Ch) (rising : Bool) (ageNs : Nat)
  | debounceExpire (ch : Ch)
  | chatterQuietExpire (ch : Ch)
  | wireBreakTimeout (ch : Ch) (absent : Bool)
  | sensorShortDetect (ch : Ch) (absent : Bool)
  | sensorSupplyRetry (ch : Ch) (supOn : Bool)
  | diOverrangeTimer (ch : Ch) (out : Bool)
  | eventQueueSpace (ch : Ch)
  | inputTestEnd (ch : Ch) (lo : Int) (hi : Int) (rawAfter : Bool)
  | doLimitTimeout (ch : Ch)
  | inrushWindowClose (ch : Ch) (iPkMa : Nat)
  | switchThermalShutdown (ch : Ch)
  | thermalLatchRelease (ch : Ch)
  | retryDelayExpire (ch : Ch)
  | overvoltDetect (ch : Ch) (absent : Bool)
  | clampWindowEnd (ch : Ch)
  | supplyDip (ch : Ch) (pMv : Nat)
  | supplyReturn (ch : Ch) (pMv : Nat)
  | dipMemExpire (ch : Ch)
  | backfeedDetect (ch : Ch)
  | doDiagTimer (ch : Ch) (d : DiagKind) (absent : Bool)
  | xsdProxyUpdate (ch : Ch) (iMa : Nat)
  | tcsPulseStart (ch : Ch)
  | tcsPulseEnd (ch : Ch) (r : TcsResult)
  | shuntDisconnect (ch : Ch)
  | shuntReconnect (ch : Ch) (clear : Bool)
  | aiOverrangeTimer (ch : Ch) (out : Bool)
  | refbConversion (ch : Ch) (ratio : Int)
  | replicaCycleEnd (ch : Ch) (lo : Int) (hi : Int) (zero : Int)
  | injTrigger (ch : Ch)
  | injEntryResult (ch : Ch) (raw : Int)
  | injFreezeTimeout (ch : Ch)
  | aoThermalLimit (ch : Ch)
  | aoThermalRelease (ch : Ch)
  | complianceTimer (ch : Ch) (beyond : Bool)
  | aoaOpenDetect (ch : Ch) (absent : Bool)
  | aoaExtVoltage (ch : Ch) (back : Bool)
  | aoaLowSupply (ch : Ch) (low : Bool)
  | aopStepDown (ch : Ch) (measNa : Nat)
  | aopLoopPowerUp (ch : Ch)
  | hartQuietElapsed (ch : Ch)
  | hartTxEnd (ch : Ch)
  | hartReplyTimeout (ch : Ch)
  | hartFrameReceived (ch : Ch) (bytes : List Byte) (ageNs : Nat) (parityOk : Bool) (laneOk : Bool)
  | hsrFrameForward (f : RingFrame)
  | dupEntryExpire (key : BitVec 64)
  | gooseFrameReceived (f : GooseFrame)
  | mirrorFrameReceived (f : MirrorFrame)
  | subFreshnessExpire (k : SubRef)
  | localFrameReceived (port : NetPort) (fcsOk : Bool) (session : Bool)
  | portLinkDown (port : NetPort)
  | portLinkUp (port : NetPort) (fullDuplex1G anComplete : Bool)
  | portsRestarted
  | redundancySupervisionSend
  | supervisionMissing (port : NetPort)
  | udpHandshakeMsg1 (part : HsPart)
  | udpHandshakeMsg3 (part : HsPart) (sigOk : Bool)
  | handshakeTimeout
  | udpDataDatagram (session : BitVec 32) (seq : BitVec 64) (tagOk : Bool) (ws : List Word)
  | sessionExpire (session : BitVec 32)
  | arpIcmpRequest (port : NetPort) (icmp : Bool)
  | casTrainingComplete (r : CasTraining)
  | casTickSymbol (num : Nat) (fromIdx : Fin 8)
  | casFlywheelTick
  | casReclaimHandover
  | casImageReceived (fromB : Bool) (img : CasImage) (crcOk : Bool)
  | casLinkBreak (portB : Bool)
  | casRingHealed
  | casServiceFrame (fromB : Bool) (f : SvcFrame) (crcOk : Bool) (g : GroupMsg)
  | groupDatagramReceived (g : GroupMsg)
  | groupWorkerTimeout (worker : Fin 63)
  | coordActivation
  | staggerBatchLimit
  | workerSummarySend
  | workerSummaryMissing (worker : Fin 63)
  | hpFrameNop (f : HostFrame)
  | hpFrameRegRead (f : HostFrame)
  | hpFrameRegWrite (f : HostFrame)
  | hpFramePkt (f : HostFrame)
  | hpFrameRsp (f : HostFrame)
  | hrdyStretchLimit (f : HostFrame)
  | rsPairLoRead (addr : BitVec 16)
  | injValRead (ch : Ch)
  | injStatRead (ch : Ch)
  | tiLock
  | tiUnlock
  | evtPendClear (idx : Fin 3) (val : Word)
  | evtSysClear (val : Word)
  | cellCauseClear (ch : Ch) (val : Word)
  | errAck (val : Word)
  | hpCtlClr
  | secCtlClearTamper (val : Word)
  | cuIn8 (u : Fin 4) (val : Word)
  | cuIn16 (u : Fin 4) (val : Word)
  | cuIn32 (u : Fin 4) (val : Word)
  | cuRestart (u : Fin 4) (val : Word)
  | cuCheck (u : Fin 4) (val : Word)
  | cuAliveFold (u : Fin 4) (byte : Byte)
  | cuAliveSetExpect (u : Fin 4) (byte : Byte)
  | cuValWrite (u : Fin 4) (val : Word)
  | cuStatClear (u : Fin 4) (val : Word)
  | registerWrite (addr : BitVec 16) (val : Word)
  | serviceFrame (ws : List Word)
  | serviceFrameGap
  | svcEnNHigh
  | factoryKeyPresented
  | partialRecordDiscard (src : Src) (opcode : Byte)
  | lockstepMismatch
  | processorWatchdogExpire
  | memoryEccError (m : MemKind) (addr : Nat) (double : Bool)
  | memoryScrubPass (m : ScrubMem) (corrected : List Nat)
  | crossingTimeout (row : Fin 8) (lost : Nat) (otherReset : Bool)
  | crossingProbe (row : Fin 8) (answered : Bool)
  | crossingPulseSaturate (row : Fin 8)
  | settleWindowClose (b : Block)
  | errHoldExpire (fs : Fin 96)
  | errDynToggle
  | lifeCounterSave
  | lifeCellCopy
  | selfcalComplete
  | calStoreWriteComplete (ch : Ch) (ok : Bool)
  | aoTrimTimeout (ch : Ch)
  | lpStageComplete (flashOk : Bool)
  | imgVerifyComplete (v : VerifyResult)
  | attestComplete
  | getInfo (c : Ctx) (ws : List Word)
  | setMode (c : Ctx) (ws : List Word)
  | getStatus (c : Ctx) (ws : List Word)
  | abort (c : Ctx) (ws : List Word)
  | reset (c : Ctx) (ws : List Word)
  | quiesce (c : Ctx) (ws : List Word)
  | setTick (c : Ctx) (ws : List Word)
  | sysConfig (c : Ctx) (ws : List Word)
  | chConfig (c : Ctx) (ws : List Word)
  | chReadConfig (c : Ctx) (ws : List Word)
  | chSetFailsafe (c : Ctx) (ws : List Word)
  | chForce (c : Ctx) (ws : List Word)
  | chClearLatch (c : Ctx) (ws : List Word)
  | inputTest (c : Ctx) (ws : List Word)
  | injSeqConfig (c : Ctx) (ws : List Word)
  | hartTx (c : Ctx) (ws : List Word)
  | hartRx (c : Ctx) (ws : List Word)
  | selfcal (c : Ctx) (ws : List Word)
  | calWrite (c : Ctx) (ws : List Word)
  | calExport (c : Ctx) (ws : List Word)
  | aoTrim (c : Ctx) (ws : List Word)
  | calRestore (c : Ctx) (ws : List Word) (sigOk : Bool)
  | lpStage (c : Ctx) (ws : List Word)
  | lpActivate (c : Ctx) (ws : List Word)
  | lpStats (c : Ctx) (ws : List Word)
  | lpReadVar (c : Ctx) (ws : List Word)
  | netConfig (c : Ctx) (ws : List Word)
  | ptpConfig (c : Ctx) (ws : List Word)
  | frameDef (c : Ctx) (ws : List Word)
  | netStats (c : Ctx) (ws : List Word)
  | casConfig (c : Ctx) (ws : List Word)
  | groupConfig (c : Ctx) (ws : List Word)
  | groupForward (c : Ctx) (ws : List Word)
  | recConfig (c : Ctx) (ws : List Word)
  | recTrigger (c : Ctx) (ws : List Word)
  | recRead (c : Ctx) (ws : List Word)
  | soeRead (c : Ctx) (ws : List Word)
  | lifeRead (c : Ctx) (ws : List Word)
  | clockSet (c : Ctx) (ws : List Word)
  | fltConfig (c : Ctx) (ws : List Word)
  | fltRead (c : Ctx) (ws : List Word)
  | fltClear (c : Ctx) (ws : List Word)
  | imgBegin (c : Ctx) (ws : List Word)
  | imgBlock (c : Ctx) (ws : List Word)
  | imgVerify (c : Ctx) (ws : List Word)
  | imgActivate (c : Ctx) (ws : List Word)
  | attest (c : Ctx) (ws : List Word)
  | ownerEnrol (c : Ctx) (ws : List Word) (sigOk : Bool)
  | factoryCommand (c : Ctx) (op : FactoryOp)
  | oscillatorMonitorFail (good : Bool)
  | couplerDriverSupplyFault (back : Bool)
  | holdupStoreFailure
  | announceReceiptTimeout (port : NetPort)
  | svcEnNLow
  | hpFrameMalformed (f : HostFrame)
  | seHealthTestFail (trng : Bool)
  | wetPulseEnd (ch : Ch) (ignoreOnly : Bool)
  deriving DecidableEq, Repr

end Sys2Proof
end

