-- ==== Sys2Proof/Decode.lean ====
section
/-! DEFINITION. The commands a word spells by the table's bits. The opcode table of this hardware gives its rows no
bits and no fields (every row's "fields" is empty and its width is absent), so no word spells a command. -/

namespace Sys2Proof

/-- The command that a word spells: none, because no row of the table gives bits. -/
def decodeTableWord (nbits w : Nat) : Option Instr :=
  match nbits, w with
  | _, _ => none

end Sys2Proof
end

