-- ==== Sys2Proof/Machine/Prog.lean ====
section
/-! DEFINITION. A logic program as data: operations, bundles, schedules, dependency map, initial values and carry map
(R263, R264, Table 12-2). How an LGP image encodes one is not in the manual (log 30). -/

namespace Sys2Proof.Machine

open Sys2Proof

/-- The six relations of CMP (Table 12-2). -/
inductive Rel where
  | eq | ne | lt | le | gt | ge
  deriving DecidableEq, Repr

/-- The operations of Table 12-2 with what is fixed in the instruction: positions and widths, the constants of R503, the
numbers of triggers and user events. -/
inductive EngCode where
  | and | or | xor | not | andn | and4 | or4 | bitx (p w : Nat) | bitins (p w : Nat)
  | add | sub | adds | subs | neg | abs | shl | shr | shra | min | max
  | mul | muls | div | mod
  | fadd | fsub | fmul | fmin | fmax | fabs | i2f | f2i | fdiv | fsqrt
  | cmp (rel : Rel) (fp : Bool) | cmph (fp : Bool)
  | sel | mux4 | limit | mov | movi (v : BitVec 32)
  | ton | tof | tp | ctu | ctd | ctud
  | sr | rs | rtrig | ftrig
  | roc (f : BitVec 32) | lag (a : BitVec 32) | pi (invF : BitVec 32)
  | rectrig (n : Fin 16) | uevt (c : Fin 1024) | uflt
  deriving DecidableEq, Repr

/-- An operation: its identity, common to the main and the replay schedule; its code; the data words it reads and writes;
its timer, counter or block number. -/
structure EngOp where
  id : Nat
  code : EngCode
  args : List Nat
  dst : List Nat
  inst : Nat
  deriving DecidableEq, Repr

/-- An instruction word: up to four operations and a wait count (R263). -/
structure Bundle where
  ops : List EngOp
  wait : Nat
  deriving DecidableEq, Repr

/-- A logic program (R263): TICK code, digest bits [511:480], version, I/O binding digest and the binding itself (channel,
function number), the resource figures of the header, which no check uses (R272), both schedules, the dependency map from a
remote word to the operations that depend on it, the remote words declared DEFERRED, the words declared as state, the initial
values and the carry map (words and blocks, old to new). -/
structure Program where
  code : Nat
  progId : BitVec 32
  ver : BitVec 32
  bind : Nat
  binding : List (Nat × Nat)
  figures : List (BitVec 32)
  main : List Bundle
  replay : List Bundle
  dep : List (Nat × List Nat)
  deferred : List Nat
  states : List Nat
  init : List (Nat × BitVec 32)
  carry : List (Nat × Nat)
  carryBlk : List (Nat × Nat)
  deriving DecidableEq, Repr

/-- A timer operation, and a counter operation. -/
def EngCode.isTimer : EngCode → Bool
  | .ton | .tof | .tp => true
  | _ => false
def EngCode.isCounter : EngCode → Bool
  | .ctu | .ctd | .ctud => true
  | _ => false

/-- The positions and widths of bit extract and insert (R502). -/
def EngCode.ok : EngCode → Bool
  | .bitx p w | .bitins p w => decide (p < 32) && decide (1 ≤ w) && decide (w ≤ 32)
  | _ => true

/-- A bundle is an instruction word: up to four operations, at most one of them a timer's and one a counter's, and a wait
count of 0 to 255 (R263, R264). -/
def Bundle.ok (b : Bundle) : Bool :=
  decide (b.ops.length ≤ 4) && decide (b.wait ≤ 255) && b.ops.all (fun o => o.code.ok)
    && decide ((b.ops.filter fun o => o.code.isTimer).length ≤ 1)
    && decide ((b.ops.filter fun o => o.code.isCounter).length ≤ 1)

/-- Both schedules are made of instruction words. -/
def Program.shapeOk (p : Program) : Bool := p.main.all Bundle.ok && p.replay.all Bundle.ok

end Sys2Proof.Machine
end

