-- ==== Sys2Proof/Config.lean ====
section
/-! DEFINITION. What an implementation fixes and the manual leaves open: free values. Each is an opaque constant, so
nothing about its value can be proved (log 32). -/

namespace Sys2Proof

/-- Word `i` of the factory signature pair of an entry of a channel's calibration set, as made at production (R258). -/
opaque Config.factorySig (ch entry i : Nat) : Word

/-- The program an LGP image holds in its payload blocks; the encoding is not in the manual (R263, log 30). -/
opaque Config.lgpDecode (blocks : List (List Word)) : Option Machine.Program

/-- NEG and ABS of −2^31, for which R265 states no result. -/
opaque Config.negMin : Word
opaque Config.absMin : Word

/-- Whether NEG or ABS of −2^31 counts as an arithmetic event. -/
opaque Config.negMinEvent : Bool

/-- The port and ring state word of the system image (Table 12-4), by NETA lost, NETB lost, culvert ring lost. -/
opaque Config.portRingWord (lostA lostB ring : Bool) : Word

/-- A number drawn at random or left open by the manual: the `n`-th drawn (session IDs, TRNG keys, RTC drift, counts). -/
opaque Config.free (n : Nat) : Nat

/-- Whether a read of a memory in which an access has failed meets the bad word, the `n`-th such read (R11, log 137). -/
opaque Config.readFails (n : Nat) : Bool

/-- Word `i` of a signature or of key material the manual gives no way to compute, the `n`-th drawn (R327, R479). -/
opaque Config.freeWord (n i : Nat) : Word

/-- The B-to-A ratio corrected for the die temperature in 1/64 °C, and the reading of the AII shunt so corrected, by COEF1 and COEF2,
whose units the manual does not give (R208, R218, Table 11-2, log 141). -/
opaque Config.refComp (coef1 coef2 dieT ratio : Int) : Int
opaque Config.shuntComp (coef1 coef2 dieT raw : Int) : Int

/-- Word `i` of the Kwaom device certificate pair and of the device identity public keys (Table 20-9). -/
opaque Config.identityWord (i : Nat) : Word

/-- Word `i` of the digest of the microcode image that production left in a CMC area (R466, log 24). -/
opaque Config.productionCmc (area i : Nat) : Word

/-- Header word `i` of the image production left in a slot of Table 20-7 whose content the state does not list (R486, log 24). -/
opaque Config.productionWord (slot i : Nat) : Word

/-- Parts of a COMTRADE .cfg line that neither the manual nor its own wording fixes: the name of an analogue channel, and
its smallest and largest value (R446, R447), by part and channel. -/
opaque Config.cfgText (part ch : Nat) : List Byte

end Sys2Proof
end

