-- ==== Sys2Proof/Machine/State.lean ====
section
/-! DEFINITION. The state of the module as plain data: every piece of state the spec gives it, one structure per
chapter, each field with its reset value; the queue of waiting commands; State.reset; Fault and Refusal. -/

namespace Sys2Proof.Machine

open Sys2Proof

/-- The command an operation or a pending change belongs to: what its completion event carries (R371). -/
structure CmdRef where
  src : Src
  opcode : Nat
  alive : Byte
  tag : Byte
  deriving DecidableEq, Repr

/-- Options of a fail-safe record (Table 6-9). -/
inductive FsOpt where
  | deenergise | hold | value
  deriving DecidableEq, Repr
/-- Lane states (Table 6-3). -/
inductive LaneState where
  | down | train | up
  deriving DecidableEq, Repr
/-- Output command kinds (Table 6-8). -/
inductive OutKind where
  | value | safe | hold | deenergise
  deriving DecidableEq, Repr
/-- States of a remote input within a frame (Table 12-7). -/
inductive RemState where
  | predicted | speculative | verified
  deriving DecidableEq, Repr
/-- What a remote input belongs to: a GOOSE subscription, a mirror subscription, a culvert peer. -/
inductive RemRef where
  | goose (i : Fin 64)
  | mirror (i : Fin 16)
  | peer (i : Fin 8)
  deriving DecidableEq, Repr
/-- Spring states (Table 5-5). -/
inductive SpringState where
  | unsync | acquiring | locked | holdover | freerun
  deriving DecidableEq, Repr
/-- CELL_STAT.WD (Table 6-11). -/
inductive WdState where
  | normal | expired | holdover
  deriving DecidableEq, Repr
/-- An accepted LP_ACTIVATE that waits for its frame start (R285). -/
structure ActPend where
  ref : CmdRef
  online : Bool
  deriving DecidableEq, Repr
/-- An ASDU of a sampled-value stream: smpCnt, smpSynch, and value and quality of each member (R320). -/
structure Asdu where
  smpCnt : Nat
  synch : Nat
  members : List (BitVec 32 × BitVec 32)
  deriving DecidableEq, Repr
/-- State of a function block: an elapsed count or counter value, an fp32 value, and its previous inputs or output
(R266). -/
structure BlkSt where
  val : Int := 0
  y : BitVec 32 := 0
  p1 : Bool := false
  p2 : Bool := false
  deriving DecidableEq, Repr
/-- A coordinated command a worker has prepared: its packet, and T_ACT once COMMIT has come (R353). -/
structure CoordPend where
  packet : List (BitVec 32)
  tAct : Option Nat
  deriving DecidableEq, Repr
/-- What an entry of a DI cell's event queue reports (R156, R159). -/
inductive DiKind where
  | edge | chatterOn | chatterOff | lost
  deriving DecidableEq, Repr

/-- An entry of a DI cell's event queue: time-stamp, STATE after it, flags, the count it carries and, for a LOST summary,
the time of the last discarded edge. -/
structure DiEvent where
  kind : DiKind
  ts : Option Nat
  st : Bool
  late : Bool
  test : Bool
  n : Nat
  ts2 : Option Nat
  deriving DecidableEq, Repr
/-- A definition in force: its kind and the words of its record (Tables 13-14 to 13-18). -/
structure FrameDef where
  kind : Nat
  words : List (BitVec 32)
  deriving DecidableEq, Repr
/-- The steps of a group action on the manager (R351, R353, R354). -/
inductive GroupStep where
  | forward | prepare | commit
  deriving DecidableEq, Repr

/-- A forward or coordinated action: its GROUP_FORWARD, the packet, the lead time in ms, the workers still awaited, the
answers received (worker, status, payload), the batch under way (R351 to R354, R409). -/
structure GroupAct where
  ref : CmdRef
  step : GroupStep
  coord : Bool
  stagger : Bool
  lead : Nat
  packet : List (BitVec 32)
  named : List Nat
  wait : List Nat
  got : List (Nat × Nat × List (BitVec 32))
  batch : Nat
  deriving DecidableEq, Repr
/-- A handshake under way: its session ID, the instant its state started, the parts of message 3 received (R327). -/
structure HsState where
  session : BitVec 32
  since : Nat
  parts : List Nat
  deriving DecidableEq, Repr
/-- A partial record: its source and opcode, what its first part named beside the offset, the words received, the
instant of the last part (R401). -/
structure Part where
  src : Src
  opcode : Nat
  key : Nat
  words : List (BitVec 32)
  since : Nat
  deriving DecidableEq, Repr
/-- A frame the module sends on the network ports. -/
inductive SentFrame where
  | goose (pub stNum sqNum ttlMs : Nat) (test : Bool) (vals : List (BitVec 32))
  | sv (stream : Nat) (test : Bool) (asdus : List Asdu)
  | mirror (pub : Nat) (pdu : List (BitVec 32))
  | supervision (seq : Nat)
  | ptpSync
  | ptpAnnounce (clockClass : Nat)
  | ptpPdelay
  | arp
  | icmp
  | forwarded (content : List (BitVec 32)) (stomped : Bool) (correction : Int)
  | message2 (session : BitVec 32) (part : Nat)
  | group (words : List (BitVec 32))
  deriving DecidableEq, Repr
/-- A frame as it left a port: its source address (R294), the HSR or PRP sequence number it carries (R296, R297), whether it
went in the express class (R299), and the frame. -/
structure NetOut where
  port : NetPort
  src : Nat
  seq : Option Nat
  express : Bool
  frame : SentFrame
  deriving DecidableEq, Repr
/-- The shadow registers of a cell: the data written, by register address, and whether APPLY has confirmed them (R130). The address
of a parameter is made of its R396 ID, and that of FUNC is 0 (log 46). -/
structure Shadow where
  regs : List (Nat × BitVec 32)
  ready : Bool
  deriving DecidableEq, Repr

/-- A tick record (Table 19-2), its time as the slot rebuilds it. -/
structure TickRec where
  cnt : Nat
  tk : Nat
  flags : BitVec 16
  valid : BitVec 32
  vals : Vector (BitVec 32) 32
  deriving DecidableEq, Repr
/-- An OUT frame: its tick tag, its command kind and its 32-bit value, read as signed (R128, R138, Table 6-5). -/
structure OutFrame where
  tag : Nat := 0
  kind : OutKind := .deenergise
  value : Int := 0
  deriving DecidableEq, Repr

/-- The frames of a lane and what they carry (Table 6-5); the block of a UCODE frame stands for its 6 data bytes too. -/
inductive LaneFrame where
  | out (o : OutFrame)
  | cfgw (addr : Nat) (data : BitVec 32)
  | cfgr (addr : Nat)
  | apply (n : Nat)
  | holdover (secs : Nat)
  | ucode (block : Nat)
  | result
  | event
  | cfga (addr : Nat) (data : BitVec 32) (stored : Bool)
  | hello
  | status
  deriving DecidableEq, Repr

/-- A frame that awaits its answer: its SEQ, the attempts made, and the instant of its first launch (R126, R131). -/
structure TxFrame where
  frame : LaneFrame
  seq : Nat
  tries : Nat
  launched : Nat
  deriving DecidableEq, Repr
/-- An open transfer: image type, slot of Table 20-7 it goes into (8: the patch buffer), blocks declared, blocks received
(R464, R465). -/
structure Xfer where
  ty : Nat
  slot : Nat
  blocks : Nat
  got : List Nat
  deriving DecidableEq, Repr

/-- One entry of the SOE logs (Table 19-6). -/
structure SoeEntry where
  ts : Option Nat
  tq : Nat
  st : Bool
  late : Bool
  test : Bool
  kind : Nat
  chan : Nat
  low : Nat
  deriving DecidableEq, Repr

/-- An open settle window: the block it follows and the instant it opened (R422). -/
structure SettleWin where
  block : Block
  since : Nat
  deriving DecidableEq, Repr

/-- A mode trigger decided in this frame (Tables 4-2, 4-3): a removal request, a SAFE reaction, a change of MODE.LOSS,
SET_MODE, the factory key, the end of the eight ticks of ARMED. -/
inductive PendMode where
  | removal
  | safe
  | loss
  | set (target : Mode) (ref : CmdRef)
  | factory
  | armedEnd
  deriving DecidableEq, Repr

/-- A TICK code change accepted and not yet in force: the code, the instant of its acceptance, the SET_TICK it came from (R93). -/
structure TickReq where
  code : Nat
  accepted : Nat
  ref : Option CmdRef
  deriving DecidableEq, Repr

/-- Self-calibration factors of one path (R206, R226). -/
structure CalFactors where
  ofs : Int := 0
  gain : Nat := 0x40000000
  deriving DecidableEq, Repr

/-- INJ_SEQ_CONFIG parameters waiting for their marker (R211). -/
structure InjCfg where
  en : Bool
  n : Nat
  mux : Vector Nat 4
  deriving DecidableEq, Repr

/-- An entry of the HART receive buffer: a burst frame or a reply, the start of its preamble, its bytes from the
delimiter to the last data byte (R241). -/
structure HartFrame where
  burst : Bool
  ts : Nat
  bytes : List Byte
  deriving DecidableEq, Repr

/-- The steps of a HART exchange (R238). -/
inductive HartPhase where
  | loading | waitQuiet | transmitting | waitReply
  deriving DecidableEq, Repr

/-- A HART exchange: its command, its step and the frame to send, from the preamble to the checksum (R237, R238). -/
structure HartEx where
  ref : CmdRef
  phase : HartPhase
  frame : List Byte
  deriving DecidableEq, Repr

/-- A calibration entry being written: which entry and what it becomes (R255). -/
structure CalPend where
  entry : Fin 6
  user : Bool
  date : Option Nat
  ofs : Int
  gain : Nat
  coef1 : Int
  coef2 : Int
  sig : List (BitVec 32)
  ref : CmdRef
  deriving DecidableEq, Repr

/-- An open two-point trim: its START command, the point it drives, the first reading, whether its entry is being
written, and the instant of its last step (R260). -/
structure TrimSt where
  ref : CmdRef
  drive : Nat
  m1 : Option Int
  writing : Bool
  lastAt : Nat
  deriving DecidableEq, Repr

/-- A RESULT frame: CELL_VALUE, CELL_AUX, whether the value is good, and the function counter the cell reports: edges
since the last result for DI, a total for the other functions (Table 6-5, R144). -/
structure ResFrame where
  value : BitVec 32
  aux : BitVec 32
  good : Bool
  cnt : Nat
  edge : Option Nat
  deriving DecidableEq, Repr

/-- What a configuration write of the core is for: a channel's configuration, its fail-safe record, a calibration entry,
the injected sequence, a HART request, or a service hold-over. -/
inductive WriteKind where
  | config (func : Func)
  | failsafe (opt : FsOpt) (value : Int)
  | calEntry
  | inj (cfg : InjCfg)
  | hart
  | holdover
  deriving DecidableEq, Repr

/-- A configuration write under way: its frames not yet confirmed, the first of them in flight, and the command it
belongs to; none for a rejoin (R81, R130, R132). -/
structure CfgWrite where
  kind : WriteKind
  frames : List LaneFrame
  since : Nat
  func : Func
  pars : List (Nat × Int)
  ref : Option CmdRef
  immediate : Bool
  deriving DecidableEq, Repr

/-- Sticky history of a source or a CELL_CAUSE bit (R429). -/
structure Hist where
  /-- events, saturating at 0xFFFFFFFF (R429 (18_faults)). -/
  count : Nat := 0
  /-- first occurrence, module time in ns; none = no time (R429,R9 (18_faults)). -/
  first : Option Nat := none
  /-- last occurrence (R429,R9 (18_faults)). -/
  last : Option Nat := none
  /-- TQ of the first occurrence (R102). -/
  firstTq : Nat := 0
  /-- TQ of the last occurrence (R102). -/
  lastTq : Nat := 0
  /-- whether the last event was consequence-tagged (R429 (18_faults)). -/
  tagged : Bool := false
  deriving DecidableEq, Repr

/-- One fault source of the collector (R412-R419). -/
structure FltSrc where
  /-- present state (R412,R417 (18_faults)). -/
  present : Bool := false
  /-- severe state (R415,R417 (18_faults)). -/
  severe : Bool := false
  /-- time-stamps of the last N counted events, newest first (R415 (18_faults)). -/
  weir : List Nat := []
  /-- N, 1 to 16 (R418, Table 18-2). -/
  n : Nat := 1
  /-- W in ms (R418, Table 18-2). -/
  w : Nat := 0
  /-- normal mask INT,TRAP,BLK,CHIP,ERR,SAFE from bit 0 (R418, Table 18-2). -/
  maskN : BitVec 6 := 0
  /-- severe mask (R418, Table 18-2). -/
  maskS : BitVec 6 := 0
  /-- sticky history, kept in MRAM (R429). -/
  hist : Hist := {}
  /-- instant of the last event that applied ERR while its error hold is in force (R426). -/
  holdFrom : Option Nat := none
  /-- ERR_ACK written after that event (R426). -/
  holdAcked : Bool := false
  /-- ERR_HOLD_EXPIRE has said that ERR_CTL.HOLD passed since that event (R426). -/
  holdPassed : Bool := false
  /-- consecutive good ticks or frames counted towards a clear condition (R117,R291,R414). -/
  clearCount : Nat := 0
  deriving DecidableEq, Repr

/-- The fault collector (18_faults). -/
structure FltCol where
  /-- open settle windows (R422 Table 18-4). -/
  settle : List SettleWin := []
  /-- FLT_LAST.SRC (R430 Table 18-9). -/
  lastSrc : Nat := 0
  /-- FLT_LAST.VALID (R430). -/
  lastValid : Bool := false
  /-- FLT_LAST.CONSEQ (R423). -/
  lastConseq : Bool := false
  /-- FLT_LAST.SEVERE (R430). -/
  lastSevere : Bool := false
  /-- FLT_LAST.INJ (R434). -/
  lastInj : Bool := false
  /-- FLT_LAST.DETAIL (R430 Table 18-9). -/
  lastDetail : Nat := 0
  /-- field dies whose four lanes made FS38 present (R414 FS38). -/
  dieDown : List Nat := []
  /-- FLT_SUMMARY.INJ (R434). -/
  injSeen : Bool := false
  /-- ERR_CTL.DYN (R427,R436). -/
  errDyn : Bool := false
  /-- the dynamic mode in effect since the last 500 us boundary (R427). -/
  errDynNow : Bool := false
  /-- ERR_CTL.LATCH (R426,R436). -/
  errLatch : Bool := true
  /-- ERR_CTL.HOLD, 10 ms units (R426,R436). -/
  errHold : Nat := 10
  /-- phase of the alternation (R427). -/
  errPhase : Bool := false
  /-- a configuration has come into force since the last module reset (R425). -/
  cfgCame : Bool := false
  /-- traps taken by the management processor (model's count) (R420). -/
  traps : Nat := 0
  /-- source recorded by the firmware at the last trap (R420). -/
  trapSrc : Nat := 0
  /-- a CHIP reaction is decided; later BLK and SAFE are void (R421). -/
  chipDecided : Bool := false
  /-- histories saved on entry to FACTORY_TEST (R435). -/
  saved : List Hist := []
  /-- MODE.STORM (R84,R85). -/
  stormHold : Bool := false
  deriving DecidableEq, Repr

/-- Supplies, heat, power state, hot plug (03). -/
structure Pwr where
  /-- PWR_STATE.VSYS_OK (R45,R69 Table 3-12). -/
  vsysValid : Bool := true
  /-- VSYS_MEAS [15:0] (R69,R6). -/
  vsysMv : Nat := 0
  /-- VSYS_MEAS [31:16], 1 s average input power (R69,R6). -/
  inMw : Nat := 0
  /-- the last VSYS sample was above 36.5 V (R57,R68). -/
  vHigh : Bool := false
  /-- SUP_MEAS [15:0] (R69,R6). -/
  vioMv : Nat := 0
  /-- PWR_STATE.VIO_OK (R69 Table 3-12). -/
  vioOk : Bool := true
  /-- SUP_MEAS [31:16] (R69,R6). -/
  vbatMv : Nat := 0
  /-- PWR_STATE.VBAT_OK (R69 Table 3-12). -/
  vbatOk : Bool := false
  /-- VBAT present (the power-fail sequence ends in M0) (R47,R74). -/
  vbatPresent : Bool := false
  /-- PWR_STATE.HOLDUP_OK (R67). -/
  holdupOk : Bool := false
  /-- brown-out latch of the backup domain (R47). -/
  brown : Bool := true
  /-- CPL_MEAS (R69,R6). -/
  cplMw : Nat := 0
  /-- PWR_CTL.LIMIT (R69 Table 3-13). -/
  limit : Nat := 4
  /-- PWR_CTL.TH_WARN (R69 Table 3-13). -/
  thWarn : Nat := 0x5F
  /-- PWR_STATE.STATE (R58 Table 3-12). -/
  pstate : Nat := 0
  /-- instant at which the exit from the power state starts (R58). -/
  wakeAt : Option Nat := none
  /-- TEMP_MEAS case, 1/64 degC (R69,R6). -/
  caseT : Int := 0
  /-- TEMP_MEAS core junction, 1/64 degC (R69,R6). -/
  coreT : Int := 0
  /-- BUDGET_A [15:0] mW (R69). -/
  budCpl : Nat := 0
  /-- BUDGET_A [31:16] mW (R69). -/
  budDiss : Nat := 0
  /-- BUDGET_B mW (R69). -/
  budIn : Nat := 0
  /-- power couplers running (R52,R82). -/
  couplers : Bool := false
  /-- HP_STAT.PRES (R63 Table 3-14). -/
  presLow : Bool := true
  /-- start of the 50 ms presence wait (R63). -/
  presSince : Option Nat := some 0
  /-- HP_STAT.QREQ (R64 Table 3-14). -/
  qreqLow : Bool := false
  /-- QACK driven high, HP_STAT.QACK (R64). -/
  qack : Bool := false
  /-- HP_STAT.SRC (Table 3-14). -/
  reqByCmd : Bool := false
  /-- HP_STAT.POLICY (Table 3-14). -/
  polHold : Bool := false
  /-- HP_STAT.LAST_EXIT (R66,R67 Table 3-14). -/
  lastExit : Nat := 0
  /-- HP_STAT.QACK_TIME, 10 us units (Table 3-14). -/
  qackTime : Nat := 0
  /-- instant of the removal request (R64). -/
  reqAt : Nat := 0
  /-- MRAM flush of the removal complete (R64). -/
  flushed : Bool := false
  /-- sluice commits since the request (T_{k+2} gates QACK) (R64 Table 3-8). -/
  quTicks : Nat := 0
  /-- power-fail sequence running (R66). -/
  failing : Bool := false
  /-- the power-fail sequence was started by PRES_N (R66 Table 3-14). -/
  failByPres : Bool := false
  /-- module holds itself in reset (R66). -/
  heldReset : Bool := false
  /-- completion marker of the last flush is in MRAM (R66,R67). -/
  marker : Bool := true
  /-- cause of the power-down under way, kept in MRAM for LAST_EXIT (R66 Table 3-14). -/
  exitWhy : Nat := 0
  /-- module time of a latched thermal trip (backup domain) (R62). -/
  trip : Option Nat := none
  /-- core clocks stopped by the thermal trip (R62). -/
  tripped : Bool := false
  /-- supply of the power coupler drivers out of range (R414 FS39). -/
  drvFault : Bool := false
  /-- internal rails ramping (R45). -/
  softStart : Bool := true
  /-- CAS_M (bit 3) and CAS_ID[2:0] read in BOOT (R36). -/
  straps : Nat := 0
  deriving DecidableEq, Repr

/-- Operating modes, resets (04). -/
structure ModeSt where
  /-- MODE.MODE (R70,R87). -/
  mode : Mode := .m1
  /-- MODE.PREV (R87 Table 4-7). -/
  prev : Nat := 0
  /-- MODE.LOSS (R74). -/
  loss : Bool := false
  /-- MODE.SAFE_WHY (R87). -/
  safeWhy : Nat := 0
  /-- mode triggers decided in this frame, oldest first (R73,R76). -/
  pend : List PendMode := []
  /-- ticks in ARMED (R74). -/
  armed : Nat := 0
  /-- mode before QUIESCE (R77). -/
  quFrom : Option Mode := none
  /-- the configuration load that start-up began has not ended (R78). -/
  loading : Bool := false
  /-- packets of the CFG image not yet complete, the first of them in execution (R473). -/
  cfgLeft : List (List (BitVec 32)) := []
  /-- the first of them has been carried out and its answer or completion is awaited (R473). -/
  cfgSent : Bool := false
  /-- the load has failed: no image, or a packet with a result that ends it (R472, R473). -/
  loadBad : Bool := false
  /-- the module waits in CONFIGURE under R80, outputs de-energised (R80). -/
  waitCfg : Bool := false
  /-- outputs stay as in QUIESCE until the next commit in RUN (R77 Table 4-4). -/
  quKeep : Bool := false
  /-- the module leaves QUIESCE at the next tick (R65,R77). -/
  quLeave : Bool := false
  /-- SAFE_WHY before QUIESCE (R77). -/
  quWhy : Nat := 0
  /-- SERVICE was entered with an authorised hold-over (R475,R138). -/
  svcHold : Bool := false
  /-- START as it stood at the entry to ARMED (R88). -/
  armedStart : Nat := 0
  /-- RESET_CAUSE.CAUSE (R87 Table 4-8). -/
  cause : Nat := 0
  /-- RESET_CAUSE.COLD (R87). -/
  causeCold : Bool := true
  /-- RESET_CAUSE.PREV_SLOT (R87). -/
  prevSlot : Bool := false
  /-- RESET_CAUSE.STORM (R87). -/
  causeStorm : Bool := false
  /-- RESET_CAUSE.FS (R87). -/
  causeFs : Nat := 0xFF
  /-- RESET_CAUSE.LAST_MODE (R87). -/
  lastMode : Nat := 0xF
  /-- RESET_COUNT.TOTAL (R87 Table 4-9). -/
  rstTotal : Nat := 0
  /-- RESET_COUNT.WINDOW (R87). -/
  rstWindow : Nat := 0
  /-- RTC times of fault-reaction resets, in MRAM (R84). -/
  rstTimes : List Nat := []
  /-- a requested module reset that has not taken effect (R403,R411,R420). -/
  rstDue : Option RstReq := none
  /-- instant of the last module reset (UPTIME counts from it) (R485). -/
  resetAt : Nat := 0
  /-- core firmware runs, host port accepts frames (R78,R39). -/
  fwUp : Bool := false
  /-- recovery loader runs (R469). -/
  recovery : Bool := false
  /-- BOOT has begun (R63,R78). -/
  bootRom : Bool := false
  /-- the start-up follows a warm module reset (R83). -/
  warm : Bool := false
  /-- processor watchdog not serviced (R427). -/
  wdogBad : Bool := false
  /-- lockstep comparator reports a mismatch (R427). -/
  lockBad : Bool := false
  deriving DecidableEq, Repr

/-- Module time, tick, PTP discipline (05). -/
structure Spring where
  /-- module time, ns since the PTP epoch (TAI) (R7,R118). -/
  mtNs : Nat := 0
  /-- fraction of a ns in 1e-9 ns (R98). -/
  frac : Nat := 0
  /-- RTC of the backup domain, ns (R28). -/
  rtcNs : Nat := 0
  /-- TIME_STAT.RTC_VALID (R116 Table 5-11). -/
  rtcValid : Bool := false
  /-- instant from which the RTC has run free without VSYS (R28). -/
  rtcFrom : Option Nat := none
  /-- TICK_CFG.CODE (R92 Table 5-10). -/
  code : Nat := 0
  /-- pending TICK code, its acceptance and its command (R93). -/
  next : Option TickReq := none
  /-- TICK_CFG.STRETCH (R104). -/
  stretch : Nat := 0
  /-- TICK_NUM.NUM (R91). -/
  num : Nat := 0
  /-- TICK_CNT (R91). -/
  cnt : Nat := 0
  /-- a first tick has occurred since the module reset (R91). -/
  ticked : Bool := false
  /-- T_k of the current tick, module time ns (R90,R96). -/
  tk : Nat := 0
  /-- marker k+1 launched and not yet arrived (R18). -/
  launched : Bool := false
  /-- module-time second in which the current tick lies (R90). -/
  sec : Nat := 0
  /-- time quality at T_k (R102, Table 12-9). -/
  tkTq : Nat := 0
  /-- the current frame is stretched by a step (R104). -/
  stretched : Bool := false
  /-- TIME_STAT.STATE (R100). -/
  state : SpringState := .unsync
  /-- the state ACQUIRING came from (R100). -/
  acqFrom : SpringState := .unsync
  /-- consecutive measurements within 200 ns (R100). -/
  good : Nat := 0
  /-- no valid measurement yet since the module reset (R103). -/
  firstMeas : Bool := true
  /-- PTP_OFFSET (R118). -/
  offset : Int := 0
  /-- PTP_FREQ, 0.001 ppm (R118). -/
  freq : Int := 0
  /-- HOLD_EST ns (R101). -/
  holdEst : Nat := 0
  /-- seconds since entry to HOLDOVER (R101). -/
  holdSecs : Nat := 0
  /-- case temperature at entry to HOLDOVER (R101). -/
  holdT0 : Int := 0
  /-- largest magnitude of case temperature change, 1/64 K (R101). -/
  holdDT : Nat := 0
  /-- TIME_STAT.LOCK_MIN (R118 Table 5-11). -/
  lockMin : Nat := 0
  /-- seconds of the LOCKED minute under way (Table 5-11). -/
  lockSecs : Nat := 0
  /-- decided step not yet applied (ns to add) (R103,R104). -/
  pendStep : Option Int := none
  /-- a slew is decided and has not started (R106). -/
  pendSlew : Bool := false
  /-- TIME_STAT.SLEWING (R106). -/
  slewing : Bool := false
  /-- offset still to be removed, module minus source, 1e-9 ns (R106). -/
  remain : Int := 0
  /-- what the slew still adds to module time within this tick period, 1e-9 ns (R106). -/
  slewLeft : Int := 0
  /-- STEP_CNT (R118). -/
  stepCnt : Nat := 0
  /-- SLEW_CNT (R118). -/
  slewCnt : Nat := 0
  /-- UTC_OFS.TAI_UTC (backup domain) (R114 Table 5-12). -/
  utcOfs : Int := 0
  /-- UTC_OFS.LEAP61 (Table 5-12). -/
  leap61 : Bool := false
  /-- UTC_OFS.LEAP59 (Table 5-12). -/
  leap59 : Bool := false
  /-- UTC_OFS.VALID, TIME_STAT.UTC_VALID (Table 5-12). -/
  utcValid : Bool := false
  /-- SYNC_CFG.PPS_REJ (R108 Table 5-13). -/
  ppsRej : Nat := 0
  /-- consecutive rejected edges (R117 FS51). -/
  ppsRejRun : Nat := 0
  /-- SYNC_IN_TS (R110). -/
  syncTs : Option Nat := none
  /-- oscillator monitor failed (R117 FS53). -/
  oscBad : Bool := false
  /-- PTP provides time (R109). -/
  ptpAlive : Bool := false
  /-- last PTP offset measured, ns (R109). -/
  ptpMt : Int := 0
  /-- consecutive ticks on time (R117 FS52). -/
  onTime : Nat := 0
  /-- instant of the last leap second, and whether it was inserted (R114, R447). -/
  leapAt : Option (Nat × Bool) := none
  deriving DecidableEq, Repr

/-- Fail-safe record in the cell store (R139, R140). -/
structure FailSafe where
  /-- function code the record was written for (R140). -/
  func : Func := .off
  /-- option (R139). -/
  opt : FsOpt := .deenergise
  /-- VALUE: 0/1 or nA (R139). -/
  value : Int := 0
  /-- the CRC-16 stored with it; the value given is that of the record of a new store (R140, log 10). -/
  crc : BitVec 16 := 0x0E10
  deriving DecidableEq, Repr

/-- One calibration set entry (R253). -/
structure CalEntry where
  /-- ORIGIN: false FACTORY, true USER (R253). -/
  user : Bool := false
  /-- WRITES, saturating (R253). -/
  writes : Nat := 0
  /-- DATE (R253). -/
  date : Option Nat := none
  /-- OFS (R253). -/
  ofs : Int := 0
  /-- GAIN, 2^30 is 1.0 (R253). -/
  gain : Nat := 0x40000000
  /-- COEF1 (R253). -/
  coef1 : Int := 0
  /-- COEF2 (R253). -/
  coef2 : Int := 0
  /-- CRC and ORIGIN pass (R254). -/
  ok : Bool := true
  /-- the signature words a CAL_RESTORE stored; empty: those of production (Config.factorySig) (R256,R259). -/
  sigWords : List (BitVec 32) := []
  deriving DecidableEq, Repr

/-- Calibration of a cell (11). -/
structure CalSt where
  /-- CELL_CAL.SELF_OK (R247,R248). -/
  selfOk : Bool := false
  /-- OFS_S and G_S in force, by path: AIV, AII, AIH, AO stage, shunt sense, input stage (R247). -/
  self : Vector CalFactors 6 := Vector.replicate 6 {}
  /-- new factors waiting for the marker (R247). -/
  newF : List PathFactors := []
  /-- self-calibration running (R250). -/
  busy : Bool := false
  /-- it did not finish before QUIESCE and is repeated on the return (R77 Table 4-4). -/
  again : Bool := false
  /-- the calibration set (R252). -/
  entries : Vector CalEntry 6 := #v[{}, {}, {}, {}, { ofs := 0x40000000 }, {}]
  /-- OFS_C and G_C in use since the last marker, by entry (R206,R255). -/
  inUse : Vector CalFactors 6 := Vector.replicate 6 {}
  /-- entry write under way (R255). -/
  pendW : Option CalPend := none
  /-- open two-point trim (R260). -/
  trim : Option TrimSt := none
  deriving DecidableEq, Repr

/-- Binary input (07). -/
structure DiSt where
  /-- raw input (R148). -/
  raw : Bool := false
  /-- debounced state STATE (R154). -/
  st : Bool := false
  /-- candidate_start of the open candidate, module time (R154). -/
  cand : Option Nat := none
  /-- a candidate is open, its timer runs (R154). -/
  candOpen : Bool := false
  /-- LATE flag of the candidate (R158). -/
  candLate : Bool := false
  /-- TEST flag of the candidate (R162). -/
  candTest : Bool := false
  /-- an edge was accepted since the previous tick (Table 7-5). -/
  edge : Bool := false
  /-- time of the first edge accepted in the tick (TI_TS) (Table 12-8). -/
  firstTs : Option Nat := none
  /-- an edge has been accepted since the function started (R163). -/
  edged : Bool := false
  /-- time-stamp of the last accepted edge (R163). -/
  lastEdge : Option Nat := none
  /-- chatter suppression in force (R156). -/
  chatter : Bool := false
  /-- times of accepted edges within CHAT_W (R156). -/
  chatWin : List Nat := []
  /-- suppressed edges (R156). -/
  chatSup : Nat := 0
  /-- STATE held by CHAT_MODE = FREEZE (R156). -/
  chatFreeze : Bool := false
  /-- STATE value held by FREEZE (R156). -/
  frz : Bool := false
  /-- state last reported in an event (R156). -/
  lastRep : Bool := false
  /-- event queue, oldest first (R159). -/
  queue : List DiEvent := []
  /-- edges discarded since the queue filled (R159). -/
  lostN : Nat := 0
  /-- time of the first discarded edge (R159). -/
  lostFirst : Option Nat := none
  /-- time of the last discarded edge (R159). -/
  lostLast : Option Nat := none
  /-- edges discarded since the previous tick (Table 7-5). -/
  lost : Bool := false
  /-- end of the running wetting pulse (R151). -/
  wetUntil : Option Nat := none
  /-- the sensor supply limit is ignored (R151,R152). -/
  wetIgnore : Bool := false
  /-- (time, charge nC) through Q in the last second (R151). -/
  wetLog : List (Nat × Nat) := []
  /-- WET_SKIP (Table 7-5). -/
  wetSkip : Bool := false
  /-- sensor supply switched off between retries (R152). -/
  supOff : Bool := false
  /-- INPUT_TEST in progress (R162). -/
  test : Bool := false
  /-- counted edges not yet delivered in a result (R160). -/
  cntTick : Nat := 0
  /-- times of the frequency edges, newest first (R161). -/
  edges : List Nat := []
  /-- frequency in mHz (R161). -/
  freq : Nat := 0
  /-- FREQ_LOW (R161). -/
  freqLow : Bool := false
  /-- V_Q at T_k, 0.1 V (Table 7-5). -/
  vin : Int := 0
  /-- I_Q at T_k, uA (Table 7-6). -/
  iin : Nat := 0
  deriving DecidableEq, Repr

/-- Switch output and external switch drive (08). -/
structure DoSt where
  /-- command applied at the last marker (Table 8-8). -/
  cmd : Bool := false
  /-- switch or gate drive on now (R169). -/
  on : Bool := false
  /-- ON at T_k (Table 8-8). -/
  onAt : Bool := false
  /-- readback of Q (R166). -/
  rb : Bool := false
  /-- inrush window open (R170). -/
  inrush : Bool := false
  /-- instant of the last turn-on (R170). -/
  onSince : Nat := 0
  /-- limiter regulates now (R171). -/
  limiting : Bool := false
  /-- LIMIT: limiter active during the tick (Table 8-8). -/
  limTick : Bool := false
  /-- the limiter was active in this tick before the inrush window closed (Table 8-8). -/
  limWin : Bool := false
  /-- the inrush window of the last turn-on has been open in this tick (R170, R195). -/
  inrOpen : Bool := false
  /-- de-energised: the switch off, the supervision pulses of XSD off (R41 Table 2-6). -/
  deen : Bool := true
  /-- the inrush event of this turn-on has been counted (R195). -/
  inrHit : Bool := false
  /-- thermal latch (R172). -/
  thl : Bool := false
  /-- protective latch (R174). -/
  platch : Bool := false
  /-- times of automatic restarts (R173). -/
  restarts : List Nat := []
  /-- an automatic restart is pending (R173). -/
  restart : Bool := false
  /-- RETRY_DELAY has elapsed since the protective turn-off (R169). -/
  retryOk : Bool := true
  /-- WAIT (R169). -/
  wait : Bool := false
  /-- field supply band: 3 >=16 V, 2 9-16 V, 1 6-9 V, 0 below 6 V (R178 Table 8-5). -/
  band : Nat := 3
  /-- DIP_POL = COMMIT waits for an off command (R179). -/
  needOff : Bool := false
  /-- P above the interlock threshold (R176). -/
  ov : Bool := false
  /-- turn-off clamp window open (R177). -/
  clamp : Bool := false
  /-- instant of the last turn-off (R177,R181). -/
  offSince : Nat := 0
  /-- SHORT_GND condition (Table 8-6). -/
  cShortGnd : Bool := false
  /-- GATE condition (XSD) (Table 8-6). -/
  cGate : Bool := false
  /-- load current at T_k, mA (Table 8-9). -/
  iLoad : Int := 0
  /-- V_Q at T_k, 0.1 V (Table 8-9). -/
  vq : Int := 0
  /-- XSD proxy rise dT in uK (R187). -/
  dT : Nat := 0
  /-- proxy junction temperature, 1/64 degC (R187). -/
  tPx : Int := 0
  /-- proxy power p in uW (R187,R195). -/
  proxyP : Nat := 0
  /-- supervision pulse in progress (R188). -/
  tcsRun : Bool := false
  /-- last supervision pulse passed (R190). -/
  tcsOk : Bool := false
  /-- consecutive failed pulses (R190). -/
  tcsFails : Nat := 0
  /-- start of the running TCS_PERIOD (R188,R191). -/
  tcsFrom : Nat := 0
  /-- turn-ons since module reset or function change (CELL_CNT of DO) (R193). -/
  trims : Nat := 0
  deriving DecidableEq, Repr

/-- Analogue input (09). -/
structure AiSt where
  /-- last result sent (R204,R219). -/
  value : Int := 0
  /-- last valid result before a restart (R204). -/
  validVal : Option Int := none
  /-- ticks still needed to fill the filter window (R204). -/
  fill : Nat := 0
  /-- INV (Table 9-14). -/
  inv : Bool := false
  /-- HELD (Table 9-14). -/
  held : Bool := false
  /-- OR (Table 9-14). -/
  orT : Bool := false
  /-- LO_ALM (Table 9-14). -/
  loAlm : Bool := false
  /-- HI_ALM (Table 9-14). -/
  hiAlm : Bool := false
  /-- AII: shunt disconnected, as it is in any other function (R41, R198). -/
  shuntOpen : Bool := true
  /-- last 16 reference deviations, 0.01 ppm (R208). -/
  devs : List Int := []
  /-- consecutive replica cycles with a failure (R209). -/
  repBad : Nat := 0
  /-- consecutive replica cycles without one (R209). -/
  repGood : Nat := 0
  /-- SUSPECT, background TEST_FAIL condition (R209). -/
  suspect : Bool := false
  /-- BOX results kept for LONG, newest first (R202). -/
  boxes : List Int := []
  deriving DecidableEq, Repr

/-- Injected sequence of a cell and its result pair (09). -/
structure InjSt where
  /-- INJ_EN (R211). -/
  en : Bool := false
  /-- N (R211). -/
  n : Nat := 1
  /-- MUX0 to MUX3 (R211). -/
  mux : Vector Nat 4 := Vector.replicate 4 0
  /-- parameters waiting for their marker (R211). -/
  cfgPend : Option InjCfg := none
  /-- a sequence runs (R213). -/
  running : Bool := false
  /-- entry being converted (R212). -/
  entry : Nat := 0
  /-- queued trigger, its instant (R213). -/
  queued : Option Nat := none
  /-- QDLY of the running sequence (R213). -/
  qdly : Nat := 0
  /-- SEQ (Table 9-11). -/
  seq : Nat := 0
  /-- LOST, saturating at 15 (R213 Table 9-11). -/
  lost : Nat := 0
  /-- interruptions in a row of the regular item (R214). -/
  breaks : Nat := 0
  /-- an item runs to completion; triggers wait for it (R214). -/
  itemEnd : Bool := false
  /-- instant at which the regular item in progress (re)started (R214). -/
  itemAt : Nat := 0
  /-- the regular item in progress, by its slot of Table 9-7 (R207). -/
  slot : Nat := 0
  /-- the next AUX item converts the P voltage, else the die temperature (R207 Table 9-7). -/
  auxP : Bool := false
  /-- INJ_RUN: a sequence ran in this tick (Table 9-14). -/
  ran : Bool := false
  /-- a lost EVENT frame: the next result carries OVR (R215). -/
  ovr : Bool := false
  /-- results whose EVENT frame is not yet delivered, oldest first (R215). -/
  sent : List (BitVec 32 × BitVec 32) := []
  /-- INJ_VAL (R216). -/
  val : BitVec 32 := 0
  /-- INJ_STAT (without LOST, kept in lost) (R216). -/
  stat : BitVec 32 := 0
  /-- instant of the INJ_VAL read that froze the pair (R217). -/
  frozen : Option Nat := none
  /-- LOST as it stood when the pair froze (R217). -/
  lostFrz : Nat := 0
  /-- result held pending (R217). -/
  pend : Option (BitVec 32 × BitVec 32) := none
  deriving DecidableEq, Repr

/-- Current output (10). -/
structure AoSt where
  /-- target, nA (R224). -/
  target : Int := 0
  /-- applied current, nA (R225). -/
  applied : Int := 0
  /-- last committed current: target of the last VALUE (R224,Table 6-9). -/
  lastT : Int := 0
  /-- that target was an alarm target (R224). -/
  lastAlarm : Bool := false
  /-- instant at which the applied current last moved towards its target (R225). -/
  rampAt : Nat := 0
  /-- the window since the last marker contains a change of the applied current (R233). -/
  moved : Bool := false
  /-- the last tick evaluated had a deficit beyond the bounds of R233. -/
  deficit : Bool := false
  /-- de-energised (R41 Table 2-6). -/
  deen : Bool := true
  /-- set-point of the adaptive supply of AOA, 10 mV; 0 while the supply is off (R227). -/
  vSup : Int := 0
  /-- ticks since the loop voltage was last measured (R230 Table 10-4). -/
  vAge : Nat := 0
  /-- thermal limit in force (R235). -/
  thlim : Bool := false
  /-- CLAMP (R224). -/
  clamped : Bool := false
  /-- ALARM (R224). -/
  alarm : Bool := false
  /-- SAT (R233). -/
  sat : Bool := false
  /-- I_MEAS nA (R233). -/
  iMeas : Int := 0
  /-- V_TERM 10 mV (Table 10-10). -/
  vTerm : Int := 0
  /-- stage held off by EXT_VOLTAGE (R229). -/
  extOff : Bool := false
  /-- the stage is restored at the next marker (R229). -/
  extRel : Bool := false
  /-- clock step (CELL_STAT.CLK) (R230 Table 10-4). -/
  clk : Nat := 0
  /-- step up due one tick after the marker (R231). -/
  stepUp : Option Nat := none
  /-- ticks with SAT = 1 (CELL_CNT of AO) (R242). -/
  satTicks : Nat := 0
  /-- DAC code (R226). -/
  dac : Nat := 0
  deriving DecidableEq, Repr

/-- HART modem of a channel (10). -/
structure HartSt where
  /-- exchange in progress (R238). -/
  ex : Option HartEx := none
  /-- receive buffer, oldest first (R241). -/
  buf : List HartFrame := []
  /-- LOST, saturating at 255 (R241). -/
  lost : Nat := 0
  deriving DecidableEq, Repr

/-- Core end of a lane: lane controller (06). -/
structure Lane where
  /-- CELL_STAT.LANE (R123). -/
  state : LaneState := .down
  /-- consecutive ticks with failed frames (R123). -/
  fails : Nat := 0
  /-- a frame has failed in this tick (R123). -/
  failTick : Bool := false
  /-- RETRY (Table 6-14). -/
  retry : Nat := 0
  /-- FAILED (Table 6-14). -/
  failed : Nat := 0
  /-- DOWN (Table 6-14). -/
  downs : Nat := 0
  /-- LAST_CAUSE (Table 6-14). -/
  lastCause : Nat := 0
  /-- downstream frame awaiting its answer (R126). -/
  tx : Option TxFrame := none
  /-- configuration frame, UCODE or HOLDOVER that an OUT frame has gone before (R126). -/
  txHeld : Option TxFrame := none
  /-- upstream frame awaiting its answer (R126). -/
  up : Option TxFrame := none
  /-- upstream frames that wait for it, by priority (R126). -/
  upWait : List TxFrame := []
  /-- trigger symbols sent to the cell and not yet arrived (R212). -/
  trigs : Nat := 0
  /-- SEQ of the next downstream frame (R124,R131). -/
  seqTx : Nat := 0
  /-- SEQ of the frame the cell last executed (R131). -/
  seqRx : Option Nat := none
  /-- configuration write under way (R130,R132). -/
  write : Option CfgWrite := none
  /-- configuration writes that wait for it, oldest first (R130). -/
  writes : List CfgWrite := []
  /-- write-sequence number of the next APPLY (Table 6-5). -/
  applyN : Nat := 0
  /-- instant the lane left UP (R132). -/
  downAt : Nat := 0
  /-- instant TRAIN was entered (R123). -/
  trainAt : Nat := 0
  deriving DecidableEq, Repr

/-- One cell: field side and headgate side. -/
structure Cell where
  /-- the cell has power (R41,R141). -/
  powered : Bool := false
  /-- CELL_STAT.SRC (Table 6-11). -/
  src : Nat := 0
  /-- boot ROM done, microcode runs (R133). -/
  running : Bool := false
  /-- CRC-32C of the running microcode (R83,R125). -/
  ucode : Nat := 0
  /-- microcode blocks written since the load began (R125). -/
  ucodeBlocks : Nat := 0
  /-- function in force (R119,Table 6-11). -/
  func : Func := .off
  /-- parameters in force in the cell (R396 IDs, step units) (R120,R405). -/
  cfg : List (Nat × Int) := []
  /-- shadow registers and whether APPLY confirmed them (R120,R130). -/
  shadow : Option Shadow := none
  /-- ticks of high impedance still due before the new function starts (R119). -/
  hiz : Option Nat := none
  /-- function that starts after them (R119). -/
  newFunc : Option Func := none
  /-- CELL_STAT.PSTATE (R122). -/
  pstate : Nat := 0
  /-- OUT frame held for the marker (R128). -/
  out : Option OutFrame := none
  /-- COMMITTED (R71,R138). -/
  committed : Bool := false
  /-- SAFE: outputs at the safe state (Table 6-11). -/
  safe : Bool := false
  /-- last committed value (Table 6-9). -/
  lastCmd : Int := 0
  /-- CELL_STAT.WD (R137,R143). -/
  wd : WdState := .normal
  /-- instant of the last feed of the lane stage (R135). -/
  wdFed : Nat := 0
  /-- HOLD_TIME of the hold-over in force, s (R143). -/
  holdTime : Nat := 0
  /-- receipt of HOLDOVER (R143). -/
  holdAt : Nat := 0
  /-- fail-safe record (R139). -/
  fs : FailSafe := {}
  /-- tag of the last marker received (R128). -/
  mkTag : Option Nat := none
  /-- module time of the last marker received since power-up (R157,R158). -/
  mkAt : Option Nat := none
  /-- instant of the last marker received (R158). -/
  mkClk : Nat := 0
  /-- foreground TEST_FAIL condition: the last INPUT_TEST failed (R162,R210). -/
  fgFail : Bool := false
  /-- the cell missed the marker of this tick (R129). -/
  missed : Bool := false
  /-- CELL_TEMP die, 1/64 degC (cell's own) (R144). -/
  dieT : Int := 0
  /-- CELL_TEMP switch (R144). -/
  swT : Int := 0
  /-- P relative to N, mV, last measured by the cell (R147,R178). -/
  pV : Int := 0
  /-- binary input (07_binary_inputs). -/
  di : DiSt := {}
  /-- switch output (08_switch_outputs). -/
  sw : DoSt := {}
  /-- analogue input (09_analogue_inputs). -/
  ai : AiSt := {}
  /-- injected sequence (09_analogue_inputs). -/
  inj : InjSt := {}
  /-- current output (10_current_loops). -/
  ao : AoSt := {}
  /-- HART (10_current_loops). -/
  hart : HartSt := {}
  /-- calibration (11_calibration). -/
  cal : CalSt := {}
  /-- lane controller (R123-R132). -/
  lane : Lane := {}
  /-- function of the configuration in force (core) (R405). -/
  cfgFunc : Func := .off
  /-- parameters of the configuration in force (core) (R405). -/
  cfgPar : List (Nat × Int) := []
  /-- function as accepted (counts changes not yet in force) (R398). -/
  accFunc : Func := .off
  /-- parameters as accepted (R398). -/
  accPar : List (Nat × Int) := []
  /-- the cell has rejoined (loaded, calibrated, configured) (R81). -/
  joined : Bool := false
  /-- the cell is loaded, calibrated and configured and joins at the next sluice commit (R81). -/
  joinNext : Bool := false
  /-- EPOCH (Table 6-13). -/
  epoch : Nat := 0
  /-- RST_WHY (Table 6-13). -/
  rstWhy : Nat := 0xF
  /-- cause the next HELLO of the cell carries (R133). -/
  whyNext : Nat := 0
  /-- the next HELLO carries the reset flag (R133). -/
  rstFlag : Bool := true
  /-- CELL_CAUSE (Table 6-12). -/
  cause : BitVec 26 := 0
  /-- conditions present in the cell itself, by CELL_CAUSE bit (R145). -/
  cond : BitVec 26 := 0
  /-- conditions present now, as the headgate knows them (R145). -/
  causeNow : BitVec 26 := 0
  /-- bits that set in this tick (composite event) (R412). -/
  tickBits : BitVec 26 := 0
  /-- the composite event of this tick has been counted untagged (R412). -/
  tickUntagged : Bool := false
  /-- history of each cause bit (R429). -/
  causeHist : Vector Hist 26 := Vector.replicate 26 {}
  /-- CELL_VALUE (Table 6-10). -/
  value : BitVec 32 := 0
  /-- CELL_AUX (Table 6-10). -/
  aux : BitVec 32 := 0
  /-- CELL_TEMP (R144). -/
  temp : BitVec 32 := 0
  /-- CELL_SUPPLY (R144). -/
  supply : BitVec 32 := 0
  /-- CELL_CNT (Table 6-10). -/
  cnt : Nat := 0
  /-- CELL_TSE (Table 6-10). -/
  tse : Option Nat := none
  /-- CELL_CAL as last taken from the cell (R144,Table 6-15). -/
  calReg : BitVec 32 := 0
  /-- VALID (Table 6-11). -/
  valid : Bool := false
  /-- value stale for this tick (R127). -/
  stale : Bool := false
  /-- tick-image values marked invalid until the cell rejoins (R133). -/
  invalid : Bool := false
  /-- result of this tick handled (R127,R269). -/
  gotRes : Bool := false
  /-- RESULT frame of the last marker, not yet received (R127,Table 6-5). -/
  res : Option ResFrame := none
  /-- time of the first edge of the tick, as the RESULT of this tick carried it (Table 12-8). -/
  tickEdge : Option Nat := none
  /-- the CELL_STAT fields that come from the cell, kept while the lane is not UP (R144). -/
  bits : BitVec 32 := 0
  /-- force in force (R406). -/
  force : Option Int := none
  /-- force change due at the next frame start (R406). -/
  forceNext : Option (Option Int) := none
  /-- simulation in force (R406). -/
  sim : Option (BitVec 32 × BitVec 4) := none
  /-- simulation change due at the next frame start (R406). -/
  simNext : Option (Option (BitVec 32 × BitVec 4)) := none
  /-- CH_CLEAR_LATCH options due at the next marker (R165,R194,R221). -/
  clearReq : BitVec 4 := 0
  /-- channel life counters (R453 Table 19-7). -/
  life : Vector Nat 7 := Vector.replicate 7 0
  /-- copy in the cell store (R455). -/
  lifeCopy : Vector Nat 7 := Vector.replicate 7 0
  /-- newest MRAM copy (R454). -/
  lifeSaved : Vector Nat 7 := Vector.replicate 7 0
  /-- on-time not yet a whole second, ns (R195). -/
  lifeOn : Nat := 0
  /-- energy not yet a whole mJ, 0.1 nJ units (R195). -/
  lifeEn : Nat := 0
  /-- time out of compliance not yet a whole second, ns (R245). -/
  lifeComp : Nat := 0
  deriving DecidableEq, Repr

/-- One remote input (subscription or culvert peer) of the engine (R270, R275). -/
structure RemIn where
  /-- first word in the remote region (R270,R313). -/
  base : Nat := 0
  /-- what the remote input belongs to (R270). -/
  ref : RemRef := .goose 0
  /-- value words; the status word follows (R270). -/
  len : Nat := 0
  /-- state within the frame (R275 Table 12-7). -/
  state : RemState := .predicted
  /-- state before the speculative value (R275). -/
  back : RemState := .predicted
  /-- value in use (values then status word) (R274). -/
  use : List (BitVec 32) := []
  /-- value its state gave it before the speculative one (R277). -/
  prev : List (BitVec 32) := []
  /-- latest verified value (R274). -/
  latest : Option (List (BitVec 32)) := none
  /-- value that its state gives it, in use or still to be applied (R275, R276). -/
  want : List (BitVec 32) := []
  /-- the value in use was applied while it was speculative and has not been verified since (R279). -/
  spec : Bool := false
  /-- value of the last verified arrival before C_k in this frame (R278). -/
  arrived : Option (List (BitVec 32)) := none
  /-- value that V reflects (R278). -/
  vUse : List (BitVec 32) := []
  deriving DecidableEq, Repr

/-- Logic engine (12). -/
structure Engine where
  /-- program of the active bank (R284,R285). -/
  active : Option Program := none
  /-- program of the staging bank (R284). -/
  staged : Option Program := none
  /-- program deactivated (R94,R290). -/
  deact : Bool := false
  /-- LE_STAT.ONLINE (R290). -/
  online : Bool := false
  /-- the engine runs (R286). -/
  running : Bool := false
  /-- first frame after the engine starts (LAG, ROC) (R266). -/
  fresh : Bool := true
  /-- committed data memory, canonical (a word not listed is 0) (R268). -/
  memC : List (Nat × BitVec 32) := []
  /-- what the first frame of a program starts from, until its commit (R285, R286): data memory and block state. -/
  start : Option (List (Nat × BitVec 32) × List (Nat × BlkSt)) := none
  /-- verified copy (R268,R279). -/
  memV : List (Nat × BitVec 32) := []
  /-- working copy (R268). -/
  memW : List (Nat × BitVec 32) := []
  /-- committed timers, counters and block state (R266). -/
  blkC : List (Nat × BlkSt) := []
  /-- verified copy (R266). -/
  blkV : List (Nat × BlkSt) := []
  /-- working copy (R266). -/
  blkW : List (Nat × BlkSt) := []
  /-- arithmetic events of V (R265). -/
  arithV : Nat := 0
  /-- arithmetic events of W (R265). -/
  arithW : Nat := 0
  /-- arithmetic events of W by operation (R265). -/
  arithOps : List (Nat × Nat) := []
  /-- V holds a result of this frame (R279). -/
  haveV : Bool := false
  /-- the most recent completed result is V (R280). -/
  vIsLast : Bool := false
  /-- first evaluation started for this frame (R274). -/
  window : Bool := false
  /-- the first evaluation of this frame has ended (R276). -/
  firstDone : Bool := false
  /-- a replay pass is running (R276). -/
  pass : Bool := false
  /-- dirty replay operations (R276). -/
  dirty : List Nat := []
  /-- uncorrectable engine memory error in this frame (R283). -/
  eccBad : Bool := false
  /-- single-bit errors of the engine memories corrected and counted (R263). -/
  eccFix : Nat := 0
  /-- remote inputs defined by frame and culvert configuration (R270). -/
  rems : List RemIn := []
  /-- accepted activation that waits for its frame start (R285). -/
  actPend : Option ActPend := none
  /-- LP_ACTIVATE that completes at the next commit (R285). -/
  actCtx : Option CmdRef := none
  /-- passes completed in this frame so far (R290). -/
  curPass : Nat := 0
  /-- end of this frame's last completed work, 100 ns units (R290). -/
  curEnd : Nat := 0
  /-- reverts since the last commit (R277, R290). -/
  revNew : Nat := 0
  /-- passes completed in the last committed frame (R290 LE_LAST). -/
  lastPass : Nat := 0
  /-- FALLBACK (R290 LE_LAST). -/
  lastFb : Bool := false
  /-- ABANDON (R290 LE_LAST). -/
  lastAb : Bool := false
  /-- end of the last completed work, 100 ns units (R290 LE_LAST). -/
  lastEnd : Nat := 0
  /-- most passes in one frame (R290 LE_PEAK). -/
  peakPass : Nat := 0
  /-- latest end of work (R290 LE_PEAK). -/
  peakEnd : Nat := 0
  /-- LE_FRAMES (R290). -/
  frames : Nat := 0
  /-- TICK_CNT of the frame of the committed state (R288). -/
  frameCnt : Nat := 0
  /-- LE_CNT_FALLBACK (R290). -/
  cFallback : Nat := 0
  /-- LE_CNT_LATE (R290). -/
  cLate : Nat := 0
  /-- LE_CNT_REVERT (R290). -/
  cRevert : Nat := 0
  /-- LE_CNT_REPLAY (R290). -/
  cReplay : Nat := 0
  /-- LE_ARITH (R290). -/
  cArith : Nat := 0
  /-- BLK of FS64-FS71: engine restarts at the next frame start (Table 18-4). -/
  blkWait : Bool := false
  deriving DecidableEq, Repr

/-- One tick image buffer (Table 12-8). -/
structure TiBuf where
  /-- TI_VALUE (R289). -/
  vals : Vector (BitVec 32) 32 := Vector.replicate 32 0
  /-- TI_STATUS (R289). -/
  stat : Vector (BitVec 32) 32 := Vector.replicate 32 0
  /-- TI_TS (R289). -/
  ts : Vector (BitVec 32) 32 := Vector.replicate 32 0xFFFFFFFF
  /-- TI_SEQ (R289). -/
  seq : Vector (BitVec 32) 32 := Vector.replicate 32 0
  /-- TO_VALUE (R289). -/
  outs : Vector (BitVec 32) 32 := Vector.replicate 32 0
  /-- TI_CNT (R289). -/
  cnt : Nat := 0
  /-- TI_TK (R289). -/
  tk : Option Nat := none
  /-- TI_FLAGS (Table 12-9). -/
  flags : BitVec 32 := 0
  deriving DecidableEq, Repr

/-- The double-buffered tick image (R289). -/
structure TickImg where
  /-- local input image of the frame in progress (R269). -/
  work : TiBuf := {}
  /-- latest complete frame (R289). -/
  live : TiBuf := {}
  /-- locked view (R289). -/
  view : Option TiBuf := none
  /-- TI_LOCK.AUTO (Table 12-9). -/
  auto : Bool := false
  /-- TI_LOCK.AGE (Table 12-9). -/
  age : Nat := 0
  deriving DecidableEq, Repr

/-- One network port (13). -/
structure Port where
  /-- EN (Table 13-13). -/
  en : Bool := false
  /-- LINK (Table 13-13). -/
  link : Bool := false
  /-- IF (Table 13-13). -/
  sgmii : Bool := false
  /-- AN_DONE (Table 13-13). -/
  anDone : Bool := false
  /-- PREEMPT (Table 13-13). -/
  preempt : Bool := false
  /-- DOWNS (Table 13-13). -/
  downs : Nat := 0
  /-- instant of the last link change (SINCE) (Table 13-13). -/
  changed : Nat := 0
  /-- counts as lost (R295). -/
  lost : Bool := false
  /-- supervision missing (R332 FS58). -/
  supMiss : Bool := false
  /-- portState per IEEE 1588 (R333 PTP_PORTS). -/
  role : Nat := 0
  /-- mean path delay ns (R333). -/
  pdelay : Nat := 0
  /-- frames received (R333 NET_STATS). -/
  rxN : Nat := 0
  /-- frames sent (R333 NET_STATS). -/
  txN : Nat := 0
  /-- FCS errors (R333 NET_STATS). -/
  fcsN : Nat := 0
  /-- stomped (R333 NET_STATS). -/
  stompN : Nat := 0
  /-- duplicates (R333 NET_STATS). -/
  dupN : Nat := 0
  /-- preemptions (R333 NET_STATS). -/
  preN : Nat := 0
  deriving DecidableEq, Repr

/-- GOOSE subscription (R313-R317). -/
structure GSub where
  /-- definition (R312). -/
  defn : Option FrameDef := none
  /-- VALID (R313). -/
  valid : Bool := false
  /-- NEW in this frame (R313). -/
  isNew : Bool := false
  /-- TEST (R313). -/
  test : Bool := false
  /-- NEVER (R313). -/
  never : Bool := true
  /-- instant of the last template failure (CONF_ERR for 1 s) (R313). -/
  confErr : Option Nat := none
  /-- freshness limit of the last verified copy through NETA, module time (R313). -/
  pathA : Option Nat := none
  /-- the same through NETB (R313). -/
  pathB : Option Nat := none
  /-- stNum of the last accepted frame (R316). -/
  stNum : Nat := 0
  /-- sqNum of the last accepted frame (R316). -/
  sqNum : Nat := 0
  /-- event or sampling time of the last accepted frame (R313 AGE). -/
  evT : Nat := 0
  /-- freshness limit, module time (R314,R316). -/
  limit : Nat := 0
  /-- accepted frames (R333). -/
  rx : Nat := 0
  /-- frames discarded for the test flag (R317). -/
  drops : Nat := 0
  /-- the copy in the speculative state: port, stNum, sqNum (R303). -/
  spec : Option (List Nat) := none
  /-- GOOSE copies held until it resolves, oldest first (R303). -/
  wait : List GooseFrame := []
  /-- the same for a mirror subscription (R303). -/
  waitM : List MirrorFrame := []
  deriving DecidableEq, Repr

/-- Publication: GOOSE, sampled values or mirror (R318-R322). -/
structure GPub where
  /-- definition (R312). -/
  defn : Option FrameDef := none
  /-- stNum (R319,R321). -/
  stNum : Nat := 1
  /-- sqNum (R319). -/
  sqNum : Nat := 0
  /-- dataset of the previous publication (R318). -/
  lastSet : Option (List (BitVec 32)) := none
  /-- the next publication is the first in a publishing mode (R319). -/
  first : Bool := true
  /-- present retransmission interval, ms (R318). -/
  interval : Nat := 0
  /-- a retransmission is due at the next commit (R318). -/
  due : Bool := false
  /-- ASDUs collected for the next frame (R320). -/
  asdus : List Asdu := []
  /-- frames sent (R333). -/
  sent : Nat := 0
  deriving DecidableEq, Repr

/-- Duplicate table entry (R304). -/
structure DupEntry where
  /-- source MAC address and sequence number (R304). -/
  key : Nat := 0
  /-- set index from SipHash-2-4 (R304). -/
  set : Nat := 0
  /-- verified (R304). -/
  verified : Bool := false
  /-- insertion instant (R305). -/
  ins : Nat := 0
  /-- instant of the last match (R305). -/
  used : Nat := 0
  /-- port of the first copy (R301,R303). -/
  port : NetPort := .a
  /-- the first copy has been handed to local reception (R303). -/
  loc : Bool := false
  /-- the first copy has been forwarded (R301). -/
  fwd : Bool := false
  deriving DecidableEq, Repr

/-- Management session (R325-R328). -/
structure Session where
  /-- session ID (R326). -/
  id : Nat := 0
  /-- opened (R328). -/
  openAt : Nat := 0
  /-- last accepted datagram (R328). -/
  lastAt : Nat := 0
  /-- highest sequence accepted (R328). -/
  seq : Nat := 0
  /-- datagrams (R328). -/
  count : Nat := 0
  deriving DecidableEq, Repr

/-- Station network block (13). -/
structure Net where
  /-- NET_CONFIG parameters in force (R293). -/
  cfg : List (Nat × Int) := []
  /-- NET_STAT.APPLIED (Table 13-12). -/
  applied : Bool := false
  /-- NET_CONFIG whose ports restart (R293). -/
  restart : Option CmdRef := none
  /-- ports restarting: neither forwards nor receives (R293). -/
  restarting : Bool := false
  /-- NETA (Table 13-13). -/
  a : Port := {}
  /-- NETB (Table 13-13). -/
  b : Port := {}
  /-- GOOSE subscriptions (R311). -/
  gsub : Vector GSub 64 := Vector.replicate 64 {}
  /-- mirror subscriptions (R311). -/
  msub : Vector GSub 16 := Vector.replicate 16 {}
  /-- GOOSE publications (R311). -/
  gpub : Vector GPub 16 := Vector.replicate 16 {}
  /-- sampled-value streams (R311). -/
  sv : Vector GPub 4 := Vector.replicate 4 {}
  /-- mirror publications (R311). -/
  mpub : Vector GPub 8 := Vector.replicate 8 {}
  /-- duplicate table (R304). -/
  dups : List DupEntry := []
  /-- key of the set index drawn at boot (free value) (R304). -/
  sipKey : Nat := 0
  /-- DD_STAT.EARLY (R305). -/
  early : Nat := 0
  /-- NET_CNT_FCS (R333). -/
  cFcs : Nat := 0
  /-- NET_CNT_STOMP (R333). -/
  cStomp : Nat := 0
  /-- NET_CNT_DUP (R333). -/
  cDup : Nat := 0
  /-- NET_CNT_AUTH [15:0] (R333). -/
  cAuth : Nat := 0
  /-- NET_CNT_AUTH [31:16] (R333). -/
  cHs : Nat := 0
  /-- NET_CNT_RATE (R333). -/
  cRate : Nat := 0
  /-- arrivals of limited frames in the last second (R330). -/
  rate : List Nat := []
  /-- open sessions (R328). -/
  sessions : List Session := []
  /-- handshake state (R327). -/
  hs : Option HsState := none
  /-- handshakes in the last second (R328). -/
  hsTimes : List Nat := []
  /-- supervision and HSR sequence number (R296). -/
  supSeq : Nat := 0
  /-- PTP_GMID (R333). -/
  gmId : Nat := 0
  /-- PTP_PORTS grandmaster clockClass (R333). -/
  gmClass : Nat := 0
  /-- PTP_PORTS stepsRemoved (R333). -/
  steps : Nat := 0
  /-- best Announce on NETA (R309). -/
  annA : Option Announce := none
  /-- best Announce on NETB (R309). -/
  annB : Option Announce := none
  /-- last LOCKED period was with SRC = PPS (R310 Table 13-4). -/
  lastPps : Bool := false
  /-- PTP_CONFIG parameters in force (R107,R306). -/
  ptp : List (Nat × Int) := []
  /-- frames the module has sent, newest first (its outputs), bounded (R296,R318,R320,R322). -/
  sent : List NetOut := []
  /-- sequence number of the next frame the module originates in HSR or PRP (R296, R297). -/
  seqNo : Nat := 0
  /-- corrections that wait for the Follow_Up of a forwarded two-step message: port, source, PTP sequence ID, ns (R308). -/
  tc : List (NetPort × BitVec 48 × BitVec 16 × Int) := []
  deriving DecidableEq, Repr

/-- A culvert peer (R346). -/
structure CasPeer where
  /-- VALID (R346). -/
  valid : Bool := false
  /-- NEVER (R346). -/
  never : Bool := true
  /-- TICK_CNT of the last verified copy on CAS_A (R346). -/
  pathA : Option Nat := none
  /-- on CAS_B (R346). -/
  pathB : Option Nat := none
  /-- TEST (R346). -/
  test : Bool := false
  /-- PMODE (R346). -/
  pmode : Nat := 0
  /-- TICK_CNT of the last verified image (R346). -/
  lastTick : Nat := 0
  /-- peer seen at training (R356). -/
  seen : Bool := false
  /-- the image copy in the speculative state: true from CAS_B (R303,R345). -/
  spec : Option Bool := none
  /-- the copy of the other direction held until it resolves (R303,R345). -/
  wait : Option CasImage := none
  deriving DecidableEq, Repr

/-- Culvert (14). -/
structure Cas where
  /-- CAS_CONFIG parameters in force (R336). -/
  cfg : List (Nat × Int) := []
  /-- MAP entries (R336). -/
  map : List (BitVec 32) := []
  /-- CAS_STAT.STATE (R356). -/
  state : Nat := 0
  /-- CAS_STAT.ROLE (R356). -/
  role : Nat := 0
  /-- NO_BKP (R334). -/
  noBkp : Bool := false
  /-- LOCAL (R338). -/
  localT : Bool := false
  /-- BRK_A (R347). -/
  brkA : Bool := false
  /-- BRK_B (R347). -/
  brkB : Bool := false
  /-- acting master index (R356). -/
  master : Nat := 0
  /-- peers by index (R346). -/
  peers : Vector CasPeer 8 := Vector.replicate 8 {}
  /-- CAS_ERR [15:0] (R345). -/
  errs : Nat := 0
  /-- CAS_ERR [31:16] (R338). -/
  fly : Nat := 0
  /-- RECLAIM that waits for tick 0 (R342). -/
  reclaim : Option CmdRef := none
  /-- ring counts as lost (R347). -/
  lost : Bool := false
  /-- peers in ring order from CAS_A, as trained (R335,R350). -/
  ring : List (Fin 8) := []
  /-- service frames queued on CAS_A (R350). -/
  queueA : List SvcFrame := []
  /-- service frames queued on CAS_B (R350). -/
  queueB : List SvcFrame := []
  /-- tick image last sent (R343). -/
  imgOut : Option CasImage := none
  /-- images forwarded this tick (sender, out port) (R343). -/
  fwd : List (Nat × Nat) := []
  /-- another acting master heard after a healed split (R342). -/
  doubleM : Bool := false
  /-- tick number the last culvert tick symbol announced (R337). -/
  symNum : Option Nat := none
  /-- tick number of the culvert tick symbol last sent or forwarded, an output (R337). -/
  symOut : Option Nat := none
  /-- service frames sent, newest first (outputs), bounded (R350). -/
  svcSent : List SvcFrame := []
  deriving DecidableEq, Repr

/-- A worker on the manager (R348-R354). -/
structure Worker where
  /-- worker number (R348). -/
  num : Nat := 0
  /-- batch (R348). -/
  batch : Nat := 0
  /-- path (R348). -/
  culvert : Bool := false
  /-- culvert index (R348). -/
  casIdx : Nat := 0
  /-- UDP port (R348). -/
  udpPort : Nat := 0
  /-- ID_SERIAL (R348). -/
  serial : Nat := 0
  /-- IP address (R348). -/
  ip : Nat := 0
  /-- alive counter (R351). -/
  alive : Nat := 0
  /-- cached reply (R351). -/
  cached : List (BitVec 32) := []
  /-- GRP_OK bit (R352). -/
  ok : Bool := false
  /-- consecutive summaries missing (R352). -/
  missing : Nat := 0
  /-- stored summary (R352). -/
  summary : List (BitVec 32) := []
  /-- sequence sent (R349). -/
  txSeq : Nat := 0
  /-- highest sequence accepted (R349). -/
  rxSeq : Nat := 0
  deriving DecidableEq, Repr

/-- Manager-worker group (14). -/
structure Group where
  /-- worker list, ascending number (R348). -/
  workers : List Worker := []
  /-- managed flag (R348). -/
  managed : Bool := false
  /-- manager ID_SERIAL (R348). -/
  mgr : Nat := 0
  /-- group key (R348). -/
  key : List (BitVec 32) := []
  /-- lowest sequence from the manager that is still accepted (R349). -/
  rxSeq : Nat := 0
  /-- sequence sent to the manager (R349). -/
  txSeq : Nat := 0
  /-- forward or coordinated action running on the manager (R351,R353). -/
  act : Option GroupAct := none
  /-- coordinated command prepared or committed on the worker (R353). -/
  coord : Option CoordPend := none
  /-- group datagrams sent, newest first (outputs), bounded (R352). -/
  sent : List (List (BitVec 32)) := []
  /-- replies to the manager that have not gone out yet, oldest first (R349, R350). -/
  out : List (List (BitVec 32)) := []
  /-- where the manager's last message came from: the culvert, from this ring index, or the station network (R350). -/
  via : Option (Fin 8) := none
  deriving DecidableEq, Repr

/-- Entry of the reply queue (R375, R376). -/
structure QEntry where
  /-- completion event (R366 HEAD_KIND). -/
  event : Bool := false
  /-- W0 to CRC (R371). -/
  words : List (BitVec 32) := []
  deriving DecidableEq, Repr

/-- Alive state of one packet source (R373). -/
structure AliveSt where
  /-- a packet has been accepted (R373). -/
  sync : Bool := false
  /-- last accepted alive counter (R373). -/
  last : BitVec 8 := 0
  /-- tag of the last accepted packet (Table 15-12). -/
  tag : BitVec 8 := 0
  /-- cached reply (R374). -/
  cached : List (BitVec 32) := []
  deriving DecidableEq, Repr

/-- Host port (15). -/
structure HostPort where
  /-- reply queue (R375). -/
  queue : List QEntry := []
  /-- entry most recently removed (R376). -/
  again : Option QEntry := none
  /-- packets in the input buffer (R375). -/
  inBuf : Nat := 0
  /-- MODE3 (Table 15-12). -/
  mode3 : Bool := false
  /-- PREV (R366). -/
  prev : BitVec 8 := 0
  /-- FNUM (R366). -/
  fnum : Nat := 0
  /-- LAST_ERR (Table 15-12). -/
  lastErr : BitVec 8 := 0
  /-- FRAMES_SINCE (Table 15-12). -/
  since : Nat := 0
  /-- HP_FRAMES, wraps (Table 15-12). -/
  frames : Nat := 0
  /-- HP_FRAME_ERR.FRAME (Table 15-12). -/
  eFrame : Nat := 0
  /-- HP_FRAME_ERR.LEN (Table 15-12). -/
  eLen : Nat := 0
  /-- HP_CHECK_ERR.REG (Table 15-12). -/
  eReg : Nat := 0
  /-- HP_CHECK_ERR.PKT (Table 15-12). -/
  ePkt : Nat := 0
  /-- HP_ALIVE_ERR.ERR (Table 15-12). -/
  eAlive : Nat := 0
  /-- HP_ALIVE_ERR.REPEAT (Table 15-12). -/
  eRepeat : Nat := 0
  /-- HP_BUSY.REFUSED (Table 15-12). -/
  eRefused : Nat := 0
  /-- HP_BUSY.STRETCH (Table 15-12). -/
  eStretch : Nat := 0
  /-- HP_RDY_VIOL (Table 15-12). -/
  eRdy : Nat := 0
  /-- frames since the last stretch limit (R386 FS78). -/
  noStretch : Nat := 0
  /-- HI shadows by LO address (R369). -/
  shadows : List (Nat × BitVec 32) := []
  /-- instant of the host's last read of EVT_PEND0-2 and EVT_SYS (R382). -/
  readAt : List (Nat × Nat) := []
  /-- words the module sent in the last frame (HSDO) (R364,R366). -/
  out : List (BitVec 32) := []
  /-- HRDY held low: the host port does not accept frames yet (R39, R78). -/
  hrdyLow : Bool := true
  deriving DecidableEq, Repr

/-- Event block (15). -/
structure Evt where
  /-- EVT_PEND0-2 (R380,R381). -/
  pend : BitVec 96 := 0
  /-- EVT_MASK0-2 (R380). -/
  mask : BitVec 96 := 0x7FFFFFFFFFFFFFFFFFFFFFFF
  /-- instant of the last event of a pending bit (0-95 sources, 97-100 EVT_SYS) (R382). -/
  setAt : List (Nat × Nat) := []
  /-- EVT_FIRST.SRC (R383). -/
  firstSrc : Nat := 100
  /-- EVT_FIRST.VALID (R383). -/
  firstValid : Bool := true
  /-- EVT_FIRST.TICK (R383). -/
  firstTick : Nat := 0
  /-- INT_CTL (R380 Table 15-10). -/
  intCtl : BitVec 6 := 0x2F
  /-- EVT_SYS MODE, CONFIG, TIME, RESET (bit 0 follows the queue) (R380 Table 15-11). -/
  sys : BitVec 5 := 0x10
  deriving DecidableEq, Repr

/-- A check unit (16). -/
structure Cu where
  /-- CU_CFG (R394). -/
  cfg : BitVec 7 := 0x7F
  /-- CU_POLY (R394). -/
  poly : BitVec 32 := 0x1EDC6F41
  /-- CU_INIT (R394). -/
  init : BitVec 32 := 0xFFFFFFFF
  /-- CU_XOROUT (R394). -/
  xorout : BitVec 32 := 0xFFFFFFFF
  /-- CU_VAL (R394). -/
  val : BitVec 32 := 0xFFFFFFFF
  /-- CU_ALIVE.EXPECT (R393). -/
  expect : BitVec 8 := 0
  /-- CU_ALIVE.LAST (R393). -/
  last : BitVec 8 := 0
  /-- CU_STAT.CHK (R392). -/
  chk : BitVec 2 := 0
  /-- CHK_FAIL (R392). -/
  chkFail : Bool := false
  /-- CU_STAT.ALIVE (R393). -/
  alive : BitVec 2 := 0
  /-- ALIVE_FAIL (R393). -/
  aliveFail : Bool := false
  /-- CU_STAT.BYTES (R391). -/
  bytes : Nat := 0
  deriving DecidableEq, Repr

/-- Record summary (Table 19-4). -/
structure RecSum where
  /-- record number (R445). -/
  num : Nat := 0
  /-- trigger mask (R445). -/
  mask : BitVec 16 := 0
  /-- T_k of the trigger tick (R445). -/
  trigT : Nat := 0
  /-- T_k of the first tick (R445). -/
  firstT : Nat := 0
  /-- ticks in the record (R445). -/
  ticks : Nat := 0
  /-- TICK code (R445). -/
  code : Nat := 0
  /-- worst TQ (R445). -/
  tq : Nat := 0
  /-- HELD (R445). -/
  held : Bool := false
  /-- READ (R445). -/
  read : Bool := false
  /-- RELEASED (R445). -/
  released : Bool := false
  /-- TRUNC (R444). -/
  trunc : Bool := false
  /-- GAP (R444). -/
  gap : Bool := false
  /-- LOST_PWR (R445). -/
  lostPwr : Bool := false
  /-- slot (R445). -/
  slot : Nat := 0
  /-- pre-trigger ticks held (R445). -/
  pre : Nat := 0
  /-- functions of the channels in the record (R447). -/
  funcs : List Func := []
  deriving DecidableEq, Repr

/-- Reservoir recording (19). -/
structure RecSt where
  /-- REC_CONFIG parameters in force (R441). -/
  cfg : List (Nat × Int) := []
  /-- waveform slots, newest tick record first (R437,R439). -/
  slots : Vector (List TickRec) 16 := Vector.replicate 16 []
  /-- writing slot (R442). -/
  wslot : Nat := 0
  /-- open record (R442). -/
  opened : Option RecSum := none
  /-- POST ticks still to write (R442). -/
  post : Nat := 0
  /-- summaries in MRAM, newest first (R445). -/
  sums : List RecSum := []
  /-- REC_LAST (since the module reset) (R457). -/
  lastNum : Nat := 0
  /-- number of the next record (R445). -/
  nextNum : Nat := 1
  /-- REC_STAT.REFUSED (R443). -/
  refused : Nat := 0
  /-- instant of the last REC_READ answered, by record number (R443). -/
  readAt : List (Nat × Nat) := []
  /-- REC_TRIGGER commands for the next commit (R442). -/
  trigReq : BitVec 16 := 0
  /-- bank-hash key drawn at boot (free value) (R438). -/
  bankKey : Nat := 0
  deriving DecidableEq, Repr

/-- SOE logs (19). -/
structure SoeSt where
  /-- DRAM ring, newest first (R449). -/
  ring : List SoeEntry := []
  /-- MRAM log, newest first (R449). -/
  mlog : List SoeEntry := []
  /-- SOE_IDX (R451). -/
  idx : Nat := 0
  /-- SOE_MIDX (R451). -/
  midx : Nat := 0
  /-- entries that wait, oldest first (R450). -/
  fifo : List SoeEntry := []
  /-- entries accepted in this tick (R450). -/
  tickN : Nat := 0
  /-- drops not yet reported by SOE_DROP (R450). -/
  dropped : Nat := 0
  /-- SOE_LOST.FIFO (R450). -/
  lostFifo : Nat := 0
  /-- SOE_LOST.USER (R450). -/
  lostUser : Nat := 0
  deriving DecidableEq, Repr

/-- Module life counters (19). -/
structure Life where
  /-- module counters in table order (R453 Table 19-8). -/
  ctrs : Vector Nat 17 := Vector.replicate 17 0
  /-- newest MRAM copy (R454). -/
  saved : Vector Nat 17 := Vector.replicate 17 0
  /-- instant of the last MRAM save (R457 LIFE_STAT). -/
  savedAt : Nat := 0
  /-- LIFE_STAT.VALID (R457). -/
  valid : Bool := false
  /-- LIFE_STAT.RESTORED (R455). -/
  restored : Bool := false
  /-- instant up to which powered time has been counted (R453). -/
  acc : Nat := 0
  /-- erases by flash region: slots 0-7, 8 patch buffer, 9 boot records, 10 owner record (R453 Table 19-8). -/
  erased : List (Nat × Nat) := []
  deriving DecidableEq, Repr

/-- An image slot in flash (20). -/
structure Slot where
  /-- blocks written, by block number (R459,R465). -/
  blocks : List (Nat × List (BitVec 32)) := []
  /-- VALID, VERIFIED, CONFIRMED, REJECTED (Table 20-7). -/
  state : BitVec 4 := 0
  /-- MIG (R477). -/
  mig : Bool := false
  /-- digest of the image in a CMC area after a patch (free value); empty: the image of production (Config.productionCmc) (R466,R459). -/
  cmcDigest : List (BitVec 32) := []
  deriving DecidableEq, Repr

/-- Images, boot records, security element (20). -/
structure Fw where
  /-- CFW A,B, LGP A,B, CFG A,B, CMC 0,1 (Table 20-7). -/
  slots : Vector Slot 8 := Vector.replicate 8 {}
  /-- CMC patch buffer (R458). -/
  patch : Slot := {}
  /-- boot record: CFW slot to boot (R467). -/
  actCfw : Nat := 0
  /-- boot record: LGP slot (R467). -/
  actLgp : Nat := 0
  /-- boot record: CFG slot (R467). -/
  actCfg : Nat := 0
  /-- boot record: CMC area (R467). -/
  actCmc : Nat := 0
  /-- boot record: TRIAL (R468). -/
  trial : Bool := false
  /-- boot record: ATTEMPT (R468). -/
  attempt : Nat := 0
  /-- CFW slot booted (Table 20-10). -/
  bootCfw : Nat := 0
  /-- LGP slot loaded at boot (Table 20-10). -/
  bootLgp : Nat := 0
  /-- BOOT_SLOT.PREV (Table 20-10). -/
  prevBoot : Bool := false
  /-- DIRTY (Table 20-10). -/
  dirty : Bool := false
  /-- FW_VER (R486). -/
  fwVer : BitVec 32 := 0
  /-- LGP_VER (R486). -/
  lgpVer : BitVec 32 := 0
  /-- CMC_VER (R486). -/
  cmcVer : BitVec 32 := 0
  /-- CRC-32C of the microcode of the current CMC image (R83). -/
  cmcCrc : Nat := 0
  /-- CFG_VER (R486). -/
  cfgVer : BitVec 32 := 0
  /-- CFW anti-rollback counter (R470). -/
  arbCfw : Nat := 0
  /-- LGP anti-rollback counter (R470). -/
  arbLgp : Nat := 0
  /-- open transfer (R464). -/
  xfer : Option Xfer := none
  /-- UPD_LAST (Table 20-11). -/
  updLast : BitVec 19 := 0
  /-- enrolled owner key pair (R474). -/
  owner : Option (List (BitVec 32)) := none
  /-- owner epoch (R474). -/
  ownerEpoch : Nat := 0
  /-- tamper latch (R478). -/
  tamper : Bool := false
  /-- loop open at the last sample (R478). -/
  loopOpen : Bool := false
  /-- TAMPER_TS (R480). -/
  tamperTs : Option Nat := none
  /-- SE_OK (R480). -/
  seOk : Bool := true
  /-- attestation report (R479). -/
  report : Option (List (BitVec 32)) := none
  /-- ATTEST under way (R479). -/
  reportCtx : Option CmdRef := none
  /-- its nonce (R479). -/
  reportNonce : List (BitVec 32) := []
  /-- ID_REV (R485). -/
  idRev : BitVec 24 := 0
  /-- ID_SERIAL (R485). -/
  serial : Nat := 0
  /-- order code: false YTN32-A, true YTN32-G (R2). -/
  orderG : Bool := false
  /-- base MAC address (R294). -/
  mac : Nat := 0
  /-- service port running (SVC_EN_N low and stable) (R461). -/
  svcOn : Bool := false
  /-- frames sent on the service port, newest first (outputs), bounded (R462). -/
  svcOut : List (List (BitVec 32)) := []
  /-- datagrams sent, newest first (outputs), bounded (R376). -/
  udpOut : List (Nat × List (BitVec 32)) := []
  deriving DecidableEq, Repr

/-- A long operation (R378, R397). -/
structure LongOp where
  /-- source, opcode, alive counter and tag of its command (R371,R379). -/
  ref : CmdRef := ⟨.host, 0, 0, 0⟩
  /-- channels in use (R249,R398). -/
  mask : BitVec 32 := 0
  /-- cells that have not finished (SELFCAL) (R249). -/
  left : BitVec 32 := 0
  /-- cells that failed (R249). -/
  bad : BitVec 32 := 0
  /-- lane cause of the first cell that failed by one (SELFCAL), 0 for none (R251). -/
  why : Nat := 0
  /-- its W1 (-). -/
  arg : BitVec 32 := 0
  deriving DecidableEq, Repr

/-- A request and acknowledge crossing of Table 1-8 (R26, R431-R433). -/
structure Xing where
  /-- timed out, destination not answering (R433). -/
  stopped : Bool := false
  /-- pulse accumulator (R431). -/
  acc : Nat := 0
  /-- saturation flag of the next transfer (R431). -/
  satF : Bool := false
  /-- FS35 has been raised for a loss of this stoppage (R433). -/
  lossSeen : Bool := false
  deriving DecidableEq, Repr

/-- Scrub state of a memory (R414). -/
structure Scrub where
  /-- words corrected in the previous pass (R414). -/
  last : List Nat := []
  /-- single-bit errors corrected and counted (R11). -/
  single : Nat := 0
  /-- addresses at which an access has failed with an uncorrectable error (R11). -/
  bad : List Nat := []
  deriving DecidableEq, Repr

/-- A source with the default classification N, W in ms and masks given (Table 18-2). -/
def dfltSrc (n w : Nat) (mn ms : BitVec 6) : FltSrc := { n := n, w := w, maskN := mn, maskS := ms }

/-- The default settings of a source, by its number (Table 18-2, R419); FS95 is reserved and never raised. -/
def defaultSrc (i : Nat) : FltSrc :=
  if i ≤ 31 then dfltSrc 3 10000 0x01 0x11
  else if i ≤ 39 then dfltSrc 3 1000 0x01 0x11
  else if i ≤ 47 then dfltSrc 2 60000 0x01 0x11
  else if i ≤ 55 then dfltSrc 4 60000 0x01 0x01
  else if i ≤ 63 then dfltSrc 8 60000 0x01 0x11
  else if i ≤ 71 then dfltSrc 16 1000 0x01 0x11
  else if i ≤ 75 then dfltSrc 4 60000 0x01 0x11
  else if i ≤ 79 then dfltSrc 16 1000 0x01 0x01
  else if i ≤ 87 then dfltSrc 2 86400000 0x11 0x13
  else if i ≤ 91 then dfltSrc 1 3600000 0x01 0x11
  else if i ≤ 93 then dfltSrc 1 600000 0x19 0x19
  else if i = 94 then dfltSrc 1 600000 0x11 0x11
  else dfltSrc 1 1 0 0

/-- Table 18-2 for all 96 sources. -/
def defaultSrcs : Vector FltSrc 96 := Vector.ofFn fun i => defaultSrc i.val

/-- The whole module. -/
structure State where
  /-- The commands that wait, first in, first out. -/
  pending : List Instr := []
  /-- elapsed time in ns (8 ns per idle step) (R24). -/
  clk : Nat := 0
  /-- supplies (03). -/
  pwr : Pwr := {}
  /-- modes and resets (04). -/
  md : ModeSt := {}
  /-- SYS_CONFIG settings in force (R88). -/
  sys : List (Nat × Int) := []
  /-- time (05). -/
  spring : Spring := {}
  /-- cells (06-11). -/
  cells : Vector Cell 32 := Vector.replicate 32 {}
  /-- engine (12). -/
  eng : Engine := {}
  /-- tick image (R289). -/
  ti : TickImg := {}
  /-- network (13). -/
  net : Net := {}
  /-- culvert (14). -/
  cas : Cas := {}
  /-- group (14). -/
  grp : Group := {}
  /-- host port (15). -/
  hp : HostPort := {}
  /-- alive state per packet source (R373). -/
  alives : List (Src × AliveSt) := []
  /-- running long operations, oldest first (R375,R378). -/
  ops : List LongOp := []
  /-- last completed operations (source, alive, tag), newest first (R379). -/
  done : List (Src × BitVec 8 × BitVec 8) := []
  /-- partial multi-part records (R401). -/
  parts : List Part := []
  /-- events (R380). -/
  evt : Evt := {}
  /-- check units (R388). -/
  cu : Vector Cu 4 := Vector.replicate 4 {}
  /-- fault collector (18). -/
  flt : FltCol := {}
  /-- fault sources (R412). -/
  srcs : Vector FltSrc 96 := defaultSrcs
  /-- crossings by row (Table 1-8). -/
  xing : Vector Xing 8 := Vector.replicate 8 {}
  /-- DRAM, MRAM, SRAM scrub (R414). -/
  scrub : Vector Scrub 3 := Vector.replicate 3 {}
  /-- records (19). -/
  recs : RecSt := {}
  /-- SOE logs (19). -/
  soe : SoeSt := {}
  /-- life counters (19). -/
  life : Life := {}
  /-- images and security (20). -/
  fw : Fw := {}
  /-- a valid configuration is in force (R74,R80). -/
  cfgOk : Bool := false
  /-- counter of free values drawn (Config.free*) ((model)). -/
  free : Nat := 0
  deriving DecidableEq, Repr

/-- The machine right after its power-on reset: in BOOT (M1) with VSYS valid, every register at the value the spec gives
and, where it gives none, at the value the assumption log names; no command waits. -/
def State.reset : State := {}

/-- No command of this module stops it with a fault: its fault sources are state (R412). The type is closed and has no
constructor, so that no meaning can raise one. -/
inductive Fault where
  deriving DecidableEq, Repr

/-- Why a command has no meaning. -/
inductive Refusal where
  /-- Raised by the arm of a command that is not modelled yet; safe. -/
  | notModelled (mnemonic : String)
  /-- Raised by FACTORY_COMMAND for a factory opcode whose effect the manual says it does not describe (R434); safe. -/
  | factoryOpcodeNotDescribed
  deriving DecidableEq, Repr

end Sys2Proof.Machine
end

