-- ==== Sys2Proof/Machine/Ops.lean ====
section
/-! DEFINITION. The named operations every meaning is built from: bit fields of words, saturating counts, TS64
encoding, CRC-32C, access to cells and fault sources, the modes' predicates and module time. -/

namespace Sys2Proof.Machine

open Sys2Proof

/-- What a command answers. -/
abbrev Outcome := Host.Outcome State Fault Refusal

/-! ### Words -/

/-- The field of `len` bits at bit `lo` of a word. -/
def field (w : Word) (lo len : Nat) : Nat := w.toNat / 2 ^ lo % 2 ^ len

/-- Bit `i` of a word. -/
def bitOf (w : Word) (i : Nat) : Bool := w.getLsbD i

/-- A register put together from its fields, each given as (lowest bit, width, value). -/
def packWord : List (Nat × Nat × Nat) → Word
  | [] => 0
  | (lo, len, v) :: r => BitVec.ofNat 32 (v % 2 ^ len * 2 ^ lo) ||| packWord r

/-- The two's complement value of the low `len` bits of an integer, as a natural number. -/
def intBits (len : Nat) (i : Int) : Nat := (i % (2 ^ len : Nat)).toNat

/-- The signed reading of the low `len` bits of a natural number. -/
def signedOf (len v : Nat) : Int :=
  let u := v % 2 ^ len
  if u < 2 ^ (len - 1) then (u : Int) else (u : Int) - (2 ^ len : Nat)

/-- The signed reading of a word. -/
def wordInt (w : Word) : Int := w.toInt

/-- A word from an integer, modulo 2^32. -/
def intWord (i : Int) : Word := BitVec.ofInt 32 i

/-- A count of `w` bits that saturates. -/
def satAdd (w a b : Nat) : Nat := min (a + b) (2 ^ w - 1)

/-- An integer held to a range. -/
def clampInt (lo hi i : Int) : Int := if i < lo then lo else if hi < i then hi else i

/-- Word `n` (from 1) of a packet's parameters, 0 where the packet is shorter. -/
def par (ws : List Word) (n : Nat) : Word := ws.getD (n - 1) 0

/-- The words `n` to the end (from 1) of a packet's parameters. -/
def parFrom (ws : List Word) (n : Nat) : List Word := ws.drop (n - 1)

/-- Set the value stored under a key of an association list kept in ascending key order. -/
def assocSet {α : Type} (k : Nat) (v : α) : List (Nat × α) → List (Nat × α)
  | [] => [(k, v)]
  | (k', v') :: r => if k' = k then (k, v) :: r else if k < k' then (k, v) :: (k', v') :: r else (k', v') :: assocSet k v r

/-- The value stored under a key of an association list. -/
def assocGet {α : Type} (k : Nat) : List (Nat × α) → Option α
  | [] => none
  | (k', v') :: r => if k' = k then some v' else assocGet k r

/-! ### TS64 (R7 to R9) -/

/-- The 64-bit form of a time in ns: seconds in [63:30], ns in [29:0]; all ones for no time. -/
def ts64 : Option Nat → Nat
  | none => 2 ^ 64 - 1
  | some t => (t / 1000000000 % 2 ^ 34) * 2 ^ 30 + t % 1000000000

/-- Word LO of a TS64 (R10). -/
def tsLo (t : Option Nat) : Word := BitVec.ofNat 32 (ts64 t)

/-- Word HI of a TS64 (R10). -/
def tsHi (t : Option Nat) : Word := BitVec.ofNat 32 (ts64 t / 2 ^ 32)

/-- A TS64 the host supplies as LO and HI: `none` when it is invalid (R8), else a time or no time (R9). -/
def tsParse (lo hi : Word) : Option (Option Nat) :=
  let v := hi.toNat * 2 ^ 32 + lo.toNat
  if v = 2 ^ 64 - 1 then some none
  else if 999999999 < v % 2 ^ 30 then none
  else some (some (v / 2 ^ 30 * 1000000000 + v % 2 ^ 30))

/-- The word pair of a 64-bit count. -/
def lo32 (n : Nat) : Word := BitVec.ofNat 32 n
def hi32 (n : Nat) : Word := BitVec.ofNat 32 (n / 2 ^ 32)

/-! ### CRC-32C (R365) -/

/-- `k` steps of the reflected CRC-32C register, polynomial 0x1EDC6F41 reflected. -/
def crcShift : Nat → BitVec 32 → BitVec 32
  | 0, c => c
  | k + 1, c => crcShift k (if c.getLsbD 0 then (c >>> 1) ^^^ 0x82F63B78#32 else c >>> 1)

/-- One byte fed to the reflected CRC-32C register. -/
def crcByte (c : BitVec 32) (b : Byte) : BitVec 32 := crcShift 8 (c ^^^ b.setWidth 32)

/-- The four bytes of a word, most significant first (R365). -/
def wordBytes (w : Word) : List Byte :=
  [(w >>> 24).setWidth 8, (w >>> 16).setWidth 8, (w >>> 8).setWidth 8, w.setWidth 8]

/-- The CRC register after a list of bytes. -/
def crcFold (c : BitVec 32) (bs : List Byte) : BitVec 32 := bs.foldl crcByte c

/-- CRC-32C over bytes. -/
def crcBytes (bs : List Byte) : Word := crcFold 0xFFFFFFFF#32 bs ^^^ 0xFFFFFFFF#32

/-- CRC-32C over words in transmission order (R365). -/
def crc32c (ws : List Word) : Word := crcBytes (ws.flatMap wordBytes)

/-! ### CRC-16 (R124) -/

/-- One byte fed to the CRC-16 register: polynomial 0x1021, no reflection. -/
def crc16Step (c : BitVec 16) (b : Byte) : BitVec 16 :=
  let x := c ^^^ (b.setWidth 16 <<< 8)
  (List.range 8).foldl (fun x _ => if x.getLsbD 15 then (x <<< 1) ^^^ 0x1021#16 else x <<< 1) x

/-- CRC-16 over bytes, from 0xFFFF. -/
def crc16 (bs : List Byte) : BitVec 16 := bs.foldl crc16Step 0xFFFF#16

/-! ### Cells and fault sources -/

/-- The cell of a channel. -/
def State.cell (s : State) (ch : Ch) : Cell := s.cells[ch]

/-- Change one cell and nothing else. -/
def State.modCell (s : State) (ch : Ch) (f : Cell → Cell) : State :=
  { s with cells := s.cells.set ch (f s.cells[ch]) }

/-- Change every cell by its channel number and nothing else. -/
def State.mapCells (s : State) (f : Ch → Cell → Cell) : State :=
  { s with cells := Vector.ofFn fun i => f i s.cells[i] }

/-- The source FSnn of a cell (R412). -/
def cellFs (ch : Ch) : Fin 96 := ⟨ch.val, by omega⟩

/-- The record of a fault source. -/
def State.fsrc (s : State) (n : Fin 96) : FltSrc := s.srcs[n]

/-- Change one fault source and nothing else. -/
def State.modSrc (s : State) (n : Fin 96) (f : FltSrc → FltSrc) : State :=
  { s with srcs := s.srcs.set n (f s.srcs[n]) }

/-- Set or clear the present state of a source. -/
def State.setPresent (s : State) (n : Fin 96) (b : Bool) : State :=
  s.modSrc n fun f => { f with present := b }

/-- All 32 channels, ascending. -/
def allCh : List Ch := List.finRange 32

/-- Number of elements of a list that satisfy a test. -/
def countIf {α : Type} (p : α → Bool) (l : List α) : Nat := (l.filter p).length

/-- Bit `c` of a channel mask is set where the test holds for channel `c` (R395). -/
def chMask (p : Ch → Bool) : Word :=
  allCh.foldr (fun c m => if p c then m ||| BitVec.ofNat 32 (2 ^ c.val) else m) 0

/-! ### Rounding and the two corrections (R206) -/

/-- `n / d` to the nearest integer, halves away from zero (R206). -/
def roundDiv (n : Int) (d : Nat) : Int :=
  if 0 ≤ n then ((2 * n.toNat + d) / (2 * d) : Nat) else -((2 * n.natAbs + d) / (2 * d) : Nat)

/-- One correction stage: `(raw − OFS) × G / 2^30` (R206). -/
def corrStage (raw ofs : Int) (g : Nat) : Int := roundDiv ((raw - ofs) * g) (2 ^ 30)

/-- The result of the two stages, before saturation: the self-calibration factors of a path, then an entry of the calibration set
(R206). -/
def correctedBy (c : Cell) (path entry : Fin 6) (raw : Int) : Int :=
  corrStage (corrStage raw c.cal.self[path].ofs c.cal.self[path].gain) c.cal.inUse[entry].ofs c.cal.inUse[entry].gain

/-- The two stages for a path whose entry has its number (Table 11-2). -/
def corrected (c : Cell) (p : Fin 6) (raw : Int) : Int := correctedBy c p p raw

/-- What the input stage of DI and of readback measures, and the shunt sense of XSD, both with entry 5 SENSE (Table 11-2, log 141). -/
def sensedInput (c : Cell) (raw : Int) : Int := correctedBy c 5 5 raw
def sensedShunt (c : Cell) (raw : Int) : Int := correctedBy c 4 5 raw

/-! ### Modes -/

/-- The number of a mode in MODE.MODE (R87). -/
def modeNum : Mode → Nat
  | .m0 => 0 | .m1 => 1 | .m2 => 2 | .m3 => 3 | .m4 => 4 | .m5 => 5
  | .m6 => 6 | .m7 => 7 | .m8 => 8 | .m9 => 9 | .m10 => 10 | .m11 => 11

/-- The mode of a number, where there is one. -/
def modeOfNum : Nat → Option Mode
  | 0 => some .m0 | 1 => some .m1 | 2 => some .m2 | 3 => some .m3 | 4 => some .m4 | 5 => some .m5
  | 6 => some .m6 | 7 => some .m7 | 8 => some .m8 | 9 => some .m9 | 10 => some .m10 | 11 => some .m11
  | _ => none

/-- RUN, DEGRADED and COMMISSION: the modes that commit to the field (Table 4-1). -/
def modeCommits : Mode → Bool
  | .m5 | .m6 | .m10 => true
  | _ => false

/-- The modes in which the engine runs (Table 4-1). -/
def modeEngineRuns : Mode → Bool
  | .m4 | .m5 | .m6 | .m10 => true
  | _ => false

/-- The modes that record (Table 4-1). -/
def modeRecords : Mode → Bool
  | .m4 | .m5 | .m6 | .m7 | .m10 => true
  | _ => false

/-- The modes in which GOOSE and mirror streams publish (Table 4-1). -/
def modePublishes : Mode → Bool
  | .m5 | .m6 | .m10 => true
  | _ => false

/-- The modes in which sampled-value streams publish (R70): from M4 onwards except M8 and M11. -/
def modeSvPublishes : Mode → Bool
  | .m4 | .m5 | .m6 | .m7 | .m9 | .m10 => true
  | _ => false

/-- The number of a function code, FUNC of Table 6-11 and CH_CONFIG. -/
def funcNum : Func → Nat
  | .off => 0 | .di => 1 | .dout => 2 | .aiv => 3 | .aii => 4 | .aih => 5 | .aoa => 6 | .aop => 7 | .xsd => 8

/-- The function of a code, where it is defined. -/
def funcOfNum : Nat → Option Func
  | 0 => some .off | 1 => some .di | 2 => some .dout | 3 => some .aiv | 4 => some .aii | 5 => some .aih
  | 6 => some .aoa | 7 => some .aop | 8 => some .xsd
  | _ => none

/-- A cell with outputs: DO, XSD, AOA, AOP (R135). -/
def isOut : Func → Bool
  | .dout | .xsd | .aoa | .aop => true
  | _ => false

/-- An analogue input: AIV, AII, AIH. -/
def isAi : Func → Bool
  | .aiv | .aii | .aih => true
  | _ => false

/-- A current output: AOA, AOP. -/
def isAo : Func → Bool
  | .aoa | .aop => true
  | _ => false

/-- A switch output: DO, XSD. -/
def isSw : Func → Bool
  | .dout | .xsd => true
  | _ => false

/-! ### Time -/

/-- Module time of a detection now (R413). -/
def State.now (s : State) : Nat := s.spring.mtNs

/-- The number of a spring state in TIME_STAT.STATE (Table 5-5). -/
def springNum : SpringState → Nat
  | .unsync => 0 | .acquiring => 1 | .locked => 2 | .holdover => 3 | .freerun => 4

/-- The time quality TQ of a time-stamp taken now (R102). -/
def State.tq (s : State) : Nat :=
  match s.spring.state with
  | .locked => 0
  | .holdover => 1
  | .freerun => 2
  | .unsync | .acquiring => 3

/-- Ticks per second of a TICK code (Table 5-1). -/
def tickRate : Nat → Nat
  | 0 => 1000 | 1 => 2000 | 2 => 4000 | 3 => 4800 | 4 => 8000 | 5 => 9600 | 6 => 14400 | _ => 16000

/-- Instant in ns after the second of tick `n` at rate `f`: round(n × 10^9 / f), halves up (R90). -/
def tickOffset (f n : Nat) : Nat := (2 * n * 1000000000 + f) / (2 * f)

/-- The nominal tick period in ns of a TICK code, rounded (Table 5-1). -/
def tickPeriod (code : Nat) : Nat := tickOffset (tickRate code) 1

/-- True while `span` ns or more have passed on the monotonic clock since `t0`. -/
def State.elapsed (s : State) (t0 span : Nat) : Bool := decide (t0 + span ≤ s.clk)

/-- An event not known in advance wakes the blocks that the core's power state has stopped (R60). -/
def State.wakeCore (s : State) : State := { s with pwr := { s.pwr with pstate := 0, wakeAt := none } }

/-- The core die is powered and clocked: not in DORMANT, not held in reset, not stopped by the thermal trip (R62, R66). -/
def coreOn (s : State) : Bool := s.md.mode != .m0 && !s.pwr.heldReset && !s.pwr.tripped

/-- Do `f` while the core runs. -/
def whenCore (f : State → State) (s : State) : State := if coreOn s then f s else s

/-- Draw the next free value's index (log 32). -/
def State.drawFree (s : State) : State := { s with free := s.free + 1 }

/-- A parameter of an association list of settings, its default where it was not set. -/
def setting (cfg : List (Nat × Int)) (id : Nat) (dflt : Int) : Int := (assocGet id cfg).getD dflt

end Sys2Proof.Machine
end

