-- ==== Sys2Proof/Machine/Flags.lean ====
section
/-! DEFINITION. The flags of the module: the event block (EVT_PEND, EVT_SYS, EVT_FIRST, INT_N), the error holds and the
error pair. -/

namespace Sys2Proof.Machine

open Sys2Proof

/-! ### Events (R380 to R384) -/

/-- Codes of the EVT_SYS bits in EVT_FIRST.SRC (Table 15-9). -/
abbrev evMode : Nat := 97
abbrev evConfig : Nat := 98
abbrev evTime : Nat := 99
abbrev evReset : Nat := 100

/-- All W1C bits of EVT_PEND0 to EVT_PEND2 and EVT_SYS are clear (R383). EVT_SYS.RSP follows the queue and is not stored. -/
def evtClear (e : Evt) : Bool := e.pend == 0 && e.sys == 0

/-- Set the bit of an event code: EVT_PEND for 0 to 95, EVT_SYS for 97 to 100; the first one after all were clear goes
into EVT_FIRST (R381, R383). -/
def evtRaise (code : Nat) (s : State) : State :=
  let e := s.evt
  let first := evtClear e
  let e1 : Evt :=
    if code < 96 then { e with pend := e.pend ||| BitVec.ofNat 96 (2 ^ code) }
    else { e with sys := e.sys ||| BitVec.ofNat 5 (2 ^ (code - 96)) }
  let e2 : Evt :=
    if first then { e1 with firstSrc := code, firstValid := true, firstTick := s.spring.cnt % 65536 } else e1
  { s with evt := { e2 with setAt := assocSet code s.clk e2.setAt } }

/-- EVT_FIRST.VALID clears when every W1C bit is clear again (R383). -/
def evtSettle (e : Evt) : Evt := if evtClear e then { e with firstValid := false } else e

/-- A new event of the code's source occurred after the host's last read of the register that holds its bit (R382): the
read forgets the instants of earlier events. -/
def newSinceRead (s : State) (reg code : Nat) : Bool := (assocGet reg s.hp.readAt).isSome && (assocGet code s.evt.setAt).isSome

/-- The host reads EVT_PEND0 to EVT_PEND2 or EVT_SYS (R382). -/
def noteRegRead (reg base width : Nat) (s : State) : State :=
  { s with hp := { s.hp with readAt := assocSet reg s.clk s.hp.readAt }
           evt := { s.evt with setAt := s.evt.setAt.filter fun x => x.1 < base || base + width ≤ x.1 } }

/-- The bits of a W1C write that clear: written 1 and with no event since the host's last read (R382). -/
def w1cMask (s : State) (reg base width : Nat) (val : Word) : Nat :=
  ((List.range width).filter fun i => bitOf val i && !newSinceRead s reg (base + i)).foldl (fun m i => m + 2 ^ i) 0

/-- Write of EVT_PEND`i` (R382, R383). -/
def evtPendClear (i : Fin 3) (val : Word) (s : State) : State :=
  let m := w1cMask s (0x0100 + 4 * i.val) (32 * i.val) 32 val
  { s with evt := evtSettle { s.evt with pend := s.evt.pend &&& ~~~ (BitVec.ofNat 96 (m * 2 ^ (32 * i.val))) } }

/-- Write of EVT_SYS: bits 1 to 4 are W1C (Table 15-11, R382). -/
def evtSysClear (val : Word) (s : State) : State :=
  let m := w1cMask s 0x0120 96 5 val
  { s with evt := evtSettle { s.evt with sys := s.evt.sys &&& ~~~ (BitVec.ofNat 5 m) } }

/-- EVT_SYS as it reads: bit 0 follows the reply queue (Table 15-11). -/
def evtSysRead (s : State) : BitVec 5 :=
  s.evt.sys ||| (if s.hp.queue.isEmpty then 0 else 1)

/-- A cause of INT_N is present: R384 with EN = 1 (R387). -/
def intCause (s : State) : Bool :=
  (s.evt.pend &&& s.evt.mask) != 0 || (evtSysRead s &&& (s.evt.intCtl >>> 1).setWidth 5) != 0

/-- The host-side pins do their functions: the host port accepts frames (Table 2-5). -/
def pinsLive (s : State) : Bool := s.md.fwUp

/-- INT_N is low (R384); it stays released until the host port accepts frames (R39). -/
def intLow (s : State) : Bool := pinsLive s && s.evt.intCtl.getLsbD 0 && intCause s

/-! ### Error holds and the error pair (R425 to R427) -/

/-- ERR_CTL.HOLD in ns. -/
def holdNs (s : State) : Nat := s.flt.errHold * 10000000

/-- Everything but the acknowledgement is met to end a hold (R426). -/
def holdRipe (s : State) (f : FltSrc) : Bool :=
  match f.holdFrom with
  | some t => !f.present && (f.holdPassed || s.elapsed t (holdNs s))
  | none => false

/-- A hold ends: its source is not present, ERR_CTL.HOLD has passed and, with LATCH, ERR_ACK was written (R426). -/
def holdEnds (s : State) (f : FltSrc) : Bool := holdRipe s f && (!s.flt.errLatch || f.holdAcked)

/-- A source whose hold has ended. -/
def noHold (f : FltSrc) : FltSrc := { f with holdFrom := none, holdAcked := false, holdPassed := false }

/-- End every error hold whose conditions are met. -/
def endHolds (s : State) : State :=
  { s with srcs := s.srcs.map fun f => if holdEnds s f then noHold f else f }

/-- End the hold of one source when its conditions are met. -/
def endHold (n : Fin 96) (s : State) : State :=
  s.modSrc n fun f => if holdEnds s f then noHold f else f

/-- ERR_ACK with its code acknowledges every hold in force (Table 18-8, R426). -/
def ackHolds (s : State) : State :=
  endHolds { s with srcs := s.srcs.map fun f => if f.holdFrom.isSome then { f with holdAcked := true } else f }

/-- At least one error hold is in force. -/
def anyHold (s : State) : Bool := s.srcs.toList.any fun f => f.holdFrom.isSome

/-- ERR_CTL.ACK_WAIT: only the acknowledgement is missing to end every hold (Table 18-7). -/
def ackWait (s : State) : Bool :=
  anyHold s && s.flt.errLatch && s.srcs.toList.all fun f => f.holdFrom.isNone || (holdRipe s f && !f.holdAcked)

/-- The error pair shows OK (R425). -/
def errOk (s : State) : Bool := s.flt.cfgCame && s.md.mode != .m11 && !anyHold s

/-- The alternation of the dynamic mode runs: the processor watchdog is serviced and lockstep matches (R427). -/
def errAlternates (s : State) : Bool := s.flt.errDynNow && !s.md.wdogBad && !s.md.lockBad

/-- (ERR_A, ERR_B): (0, 0) without power, error is (0, 1), OK is (1, 0) or alternates (R39, R425, R427). The hold-up carries the
pins through a power-fail sequence. -/
def errPair (s : State) : Bool × Bool :=
  if (!s.pwr.vsysValid && !s.pwr.failing) || s.md.mode == .m0 then (false, false)
  else if !pinsLive s || !errOk s then (false, true)
  else if s.flt.errDynNow then (if s.flt.errPhase then (false, true) else (true, false))
  else (true, false)

end Sys2Proof.Machine
end

