-- ==== Sys2Proof/Machine/LaneFrames.lean ====
section
/-! DEFINITION. The frames of a coupler lane as bytes (R124, Tables 6-4, 6-5), the register addresses of a cell, and the two
directions of a lane with their order of priority (R126). -/

namespace Sys2Proof.Machine

open Sys2Proof

/-! ### Register addresses of a cell (log 46) -/

/-- The register address of FUNC. -/
abbrev regFunc : Nat := 0

/-- The register address of a parameter, from its R396 ID: the chapter in the high byte, the number in the low byte. -/
def cellRegAddr (id : Nat) : Nat := id / 65536 * 256 + id % 256

/-- The R396 ID of a register address. -/
def cellRegId (a : Nat) : Nat := if a < 256 then a else a / 256 * 65536 + 256 + a % 256

/-- Registers that are not part of a cell's configuration: option and value of the fail-safe record, the injected sequence, the
words of a calibration entry, the bytes of a HART request. -/
abbrev regFsOpt : Nat := 0xF000
abbrev regFsValue : Nat := 0xF001
abbrev regInj : Nat := 0xF010
abbrev regCal : Nat := 0xF030
abbrev regHart : Nat := 0xF100

/-- The frames that write registers, in order, with the APPLY that ends them (R130). -/
def writeFrames (regs : List (Nat × BitVec 32)) : List LaneFrame := (regs.map fun r => .cfgw r.1 r.2) ++ [.apply 0]

/-! ### The bytes of a frame (Tables 6-4, 6-5) -/

/-- The number of a command kind in an OUT frame (Table 6-8). -/
def outKindNum : OutKind → Nat
  | .value => 1 | .safe => 2 | .hold => 3 | .deenergise => 4

/-- The command kind of a number, where Table 6-8 has one. -/
def outKindOf : Nat → Option OutKind
  | 1 => some .value | 2 => some .safe | 3 => some .hold | 4 => some .deenergise | _ => none

/-- The TYPE of a frame (Table 6-5). -/
def frameType : LaneFrame → Nat
  | .out _ => 0x1 | .cfgw _ _ => 0x2 | .cfgr _ => 0x3 | .apply _ => 0x4 | .holdover _ => 0x5 | .ucode _ => 0x6
  | .result => 0x8 | .event => 0x9 | .cfga _ _ _ => 0xA | .hello => 0xB | .status => 0xC

/-- A 16-bit field, most significant byte first. -/
def bytes2 (n : Nat) : List Byte := [BitVec.ofNat 8 (n / 256), BitVec.ofNat 8 n]

/-- The eight bytes of PAYLOAD, reserved ones 0; what the RESULT, EVENT, HELLO and STATUS frames carry and the data of a UCODE
frame stand elsewhere in the state. -/
def framePayload : LaneFrame → List Byte
  | .out o => BitVec.ofNat 8 o.tag :: BitVec.ofNat 8 (outKindNum o.kind) :: (wordBytes (intWord o.value) ++ [0, 0])
  | .cfgw a d => bytes2 a ++ wordBytes d ++ [0, 0]
  | .cfga a d stored => bytes2 a ++ wordBytes d ++ [if stored then 0 else 1, 0]
  | .cfgr n | .apply n | .holdover n | .ucode n => bytes2 n ++ [0, 0, 0, 0, 0, 0]
  | .result | .event | .hello | .status => [0, 0, 0, 0, 0, 0, 0, 0]

/-- A frame as it leaves its sender: HDR, PAYLOAD and the CRC over both (R124). -/
def laneWire (f : LaneFrame) (seq : Nat) : LaneRx :=
  let h := BitVec.ofNat 8 (frameType f * 16 + seq % 16)
  ⟨h, framePayload f, crc16 (h :: framePayload f), true⟩

/-- SEQ of a received frame. -/
def rxSeq (r : LaneRx) : Nat := r.hdr.toNat % 16

/-- The word in bytes `i` to `i + 3` of a payload. -/
def payWord (p : List Byte) (i : Nat) : BitVec 32 :=
  p.getD i 0 ++ p.getD (i + 1) 0 ++ p.getD (i + 2) 0 ++ p.getD (i + 3) 0

/-- The 16-bit field that starts a payload. -/
def payAddr (p : List Byte) : Nat := (p.getD 0 0).toNat * 256 + (p.getD 1 0).toNat

/-- What a frame of a TYPE carries; an OUT frame of a kind Table 6-8 does not have, and a reserved TYPE, are nothing (R124). -/
def laneFrameOf (ty : Nat) (p : List Byte) : Option LaneFrame :=
  match ty with
  | 0x1 => (outKindOf (p.getD 1 0).toNat).map fun k => .out ⟨(p.getD 0 0).toNat, k, (payWord p 2).toInt⟩
  | 0x2 => some (.cfgw (payAddr p) (payWord p 2))
  | 0x3 => some (.cfgr (payAddr p))
  | 0x4 => some (.apply (payAddr p))
  | 0x5 => some (.holdover (payAddr p))
  | 0x6 => some (.ucode (payAddr p))
  | 0x8 => some .result
  | 0x9 => some .event
  | 0xA => some (.cfga (payAddr p) (payWord p 2) (p.getD 6 0 == 0))
  | 0xB => some .hello
  | 0xC => some .status
  | _ => none

/-- The check value and the symbol coding pass (R124, R125). -/
def rxOk (r : LaneRx) : Bool := r.coded && r.payload.length == 8 && crc16 (r.hdr :: r.payload) == r.crc

/-- The frame a receiver takes; one that fails its check, and one of a reserved TYPE, is discarded (R124, R125). -/
def rxFrame (r : LaneRx) : Option LaneFrame := if rxOk r then laneFrameOf (r.hdr.toNat / 16) r.payload else none

/-- The fields of a lane frame fit the bytes Table 6-5 gives them. -/
def laneFields : LaneFrame → Prop
  | .out o => o.tag < 256 ∧ -0x80000000 ≤ o.value ∧ o.value ≤ 0x7FFFFFFF
  | .cfgw a _ | .cfga a _ _ | .cfgr a | .apply a | .holdover a | .ucode a => a < 65536
  | .result | .event | .hello | .status => True

/-! ### Frames that await their answer (R126) -/

/-- The frames of a configuration write, UCODE and HOLDOVER, which an OUT frame goes before. -/
def waitsForOut : LaneFrame → Bool
  | .cfgw _ _ | .cfgr _ | .apply _ | .holdover _ | .ucode _ => true
  | .out _ | .result | .event | .cfga _ _ _ | .hello | .status => false

/-- The headgate starts an OUT frame: a frame of lower priority that awaits its answer is taken up again after it. -/
def startOut (t : TxFrame) (l : Lane) : Lane :=
  match l.tx with
  | some u => if waitsForOut u.frame then { l with tx := some t, txHeld := some u } else { l with tx := some t }
  | none => { l with tx := some t }

/-- The frame to the cell is over: the one that an OUT frame went before awaits its answer again. -/
def endTx (l : Lane) : Lane := { l with tx := l.txHeld, txHeld := none }

/-- The order in which the cell starts frames. -/
def upRank : LaneFrame → Nat
  | .result => 1 | .cfga _ _ _ => 2 | .hello => 3 | .event => 4 | .status => 5
  | .out _ | .cfgw _ _ | .cfgr _ | .apply _ | .holdover _ | .ucode _ => 6

/-- A frame takes its place among those that wait, by rank. -/
def upInsert (t : TxFrame) : List TxFrame → List TxFrame
  | [] => [t]
  | u :: r => if upRank t.frame < upRank u.frame then t :: u :: r else u :: upInsert t r

/-- The cell starts a frame when its direction is free, else the frame waits; a RESULT, whose window is reserved, goes before one
that awaits its answer, and a new one replaces an old one. -/
def startUp (t : TxFrame) (l : Lane) : Lane :=
  match l.up with
  | none => { l with up := some t }
  | some u =>
    if t.frame = .result then { l with up := some t, upWait := if u.frame = .result then l.upWait else upInsert u l.upWait }
    else { l with upWait := upInsert t l.upWait }

/-- A running cell has something to send in an EVENT frame: an edge or an injected result (R125, R159, R215). -/
def eventWaits (c : Cell) : Bool :=
  c.lane.state == .up && c.running && (!c.di.queue.isEmpty || !c.inj.sent.isEmpty)

/-- An EVENT frame of the cell awaits its answer or waits. -/
def eventOpen (l : Lane) : Bool := l.up.any (fun t => t.frame == .event) || l.upWait.any fun t => t.frame == .event

/-- The next frame of the cell starts when its direction is free. -/
def nextUp (l : Lane) : Lane :=
  match l.up, l.upWait with
  | none, t :: r => { l with up := some t, upWait := r }
  | _, _ => l

/-- The cell starts what it has to send, an EVENT frame for a waiting edge or injected result among it. -/
def cellLaunch (clk : Nat) (c : Cell) : Cell :=
  { c with lane := nextUp (if eventWaits c && !eventOpen c.lane then startUp ⟨.event, 0, 1, clk⟩ c.lane else c.lane) }

/-- The frame of the cell that awaits its answer is over, and the next one starts. -/
def endUp (clk : Nat) (c : Cell) : Cell := cellLaunch clk { c with lane := { c.lane with up := none } }

/-- No frame of another type awaits its answer in the cell's direction. -/
def upIs (f : LaneFrame) (l : Lane) : Bool := l.up.all fun t => frameType t.frame == frameType f

end Sys2Proof.Machine
end

