-- ==== Sys2Proof/Machine/Blocks.lean ====
section
/-! DEFINITION. What a reset does to each block of Table 18-4: a cell, the headgate, the network block, the engine,
the culvert ports, the security element. Each is a change of that block's state alone. -/

namespace Sys2Proof.Machine

open Sys2Proof

/-- Numbers of the CELL_CAUSE bits (Table 6-12). -/
abbrev cbLane : Fin 26 := 0
abbrev cbLaneReset : Fin 26 := 1
abbrev cbWdLane : Fin 26 := 2
abbrev cbWdSeq : Fin 26 := 3
abbrev cbCellPwr : Fin 26 := 4
abbrev cbFsStore : Fin 26 := 5
abbrev cbUcode : Fin 26 := 6
abbrev cbRefWarn : Fin 26 := 7
abbrev cbRefFail : Fin 26 := 8
abbrev cbTestFail : Fin 26 := 9
abbrev cbCalFail : Fin 26 := 10
abbrev cbStore : Fin 26 := 11
abbrev cbThermal : Fin 26 := 12
abbrev cbOvercurrent : Fin 26 := 13
abbrev cbOpen : Fin 26 := 14
abbrev cbShortSupply : Fin 26 := 15
abbrev cbExtVoltage : Fin 26 := 16
abbrev cbBackfeed : Fin 26 := 17
abbrev cbCompliance : Fin 26 := 18
abbrev cbSensorShort : Fin 26 := 19
abbrev cbOvervolt : Fin 26 := 20
abbrev cbRetryExh : Fin 26 := 21
abbrev cbTcsFail : Fin 26 := 22
abbrev cbSupplyLow : Fin 26 := 23
abbrev cbSupplyLoss : Fin 26 := 24
abbrev cbOverrange : Fin 26 := 25

/-! ### The fail-safe record (R139, R140) -/

/-- The number of a fail-safe option in its record, as CH_SET_FAILSAFE gives it. -/
def fsOptNum : FsOpt → Nat
  | .deenergise => 0 | .hold => 1 | .value => 2

/-- The CRC-16 of a record: function code, option, value. -/
def fsCrc (f : Func) (o : FsOpt) (v : Int) : BitVec 16 :=
  crc16 (BitVec.ofNat 8 (funcNum f) :: BitVec.ofNat 8 (fsOptNum o) :: wordBytes (intWord v))

/-- A record as it is stored. -/
def fsRecord (f : Func) (o : FsOpt) (v : Int) : FailSafe := ⟨f, o, v, fsCrc f o v⟩

/-- The CRC of the stored record passes (R140). -/
def fsCrcOk (r : FailSafe) : Bool := fsCrc r.func r.opt r.value == r.crc

/-! ### Resets of the blocks -/

/-- The bits of a mask that has exactly one bit set. -/
def causeBit (b : Fin 26) : BitVec 26 := BitVec.ofNat 26 (2 ^ b.val)

/-- Conditions that a cell reset does not end: FS_STORE, CAL_FAIL and STORE; an entry write that it interrupts sets STORE
(R140, R255, R262). -/
def keptConds (c : Cell) : BitVec 26 :=
  (c.cond &&& (causeBit cbFsStore ||| causeBit cbCalFail ||| causeBit cbStore)) ||| (if c.cal.pendW.isSome then causeBit cbStore else 0)

/-- The parts of a cell that stand on the field side and are lost when the cell resets: its function starts again from
OFF with nothing measured, no edge waiting and no exchange running; what the cell store holds stays (R133, R41). A DO switch that
was on has turned off, which opens its clamp window (R177). -/
def fieldSideReset (c : Cell) : Cell :=
  { c with
    running := false, ucode := 0, ucodeBlocks := 0, func := .off, cfg := [], shadow := none, hiz := none, newFunc := none
    pstate := 0, out := none, committed := false, safe := false, lastCmd := 0
    wd := .normal, holdTime := 0, mkTag := none, mkAt := none, missed := false
    di := {}, sw := { clamp := c.sw.clamp || (c.sw.on && c.func == .dout) }, ai := {}
    inj := { val := c.inj.val, stat := c.inj.stat, lost := c.inj.lost, frozen := c.inj.frozen, lostFrz := c.inj.lostFrz }
    ao := {}, hart := {}, res := none
    cal := { c.cal with selfOk := false, busy := false, newF := [], self := Vector.replicate 6 {}, pendW := none, trim := none }
    cond := keptConds c, fgFail := false }

/-- Entry of the calibration set shown in CELL_CAL for a function (Table 11-2). -/
def entryOf : Func → Fin 6
  | .aiv => 0 | .aii => 1 | .aih => 2 | .aoa | .aop => 3 | .off => 4 | .di | .dout | .xsd => 5

/-- CELL_CAL from the cell (Table 6-15). -/
def calWord (c : Cell) : Word :=
  let e := c.cal.entries[entryOf c.func]
  packWord [(0, 1, c.cal.selfOk.toNat), (1, 1, e.ok.toNat), (2, 1, e.user.toNat), (16, 16, e.writes)]

/-- The number of a watchdog state in CELL_STAT.WD (Table 6-11). -/
def wdNum : WdState → Nat
  | .normal => 0 | .holdover => 1 | .expired => 2

/-- The CELL_STAT fields that come from the cell: FUNC, PSTATE, SRC, WD, COMMITTED, SAFE, CAL_IN_PROGRESS, OUT_ON and
CLK (R144, Table 6-11). -/
def cellStatBits (c : Cell) : Word :=
  packWord [(0, 4, funcNum c.func), (6, 2, c.pstate), (8, 2, if c.powered then c.src else 3), (10, 2, wdNum c.wd),
    (12, 1, c.committed.toNat), (13, 1, c.safe.toNat), (14, 1, c.cal.busy.toNat),
    (17, 1, (if isAo c.func then decide (0 < c.ao.applied) && !c.ao.extOff else isSw c.func && c.sw.on).toNat),
    (18, 3, if c.func = .aop then c.ao.clk else 0)]

/-- The headgate has the cell's content: its lane is UP, and no HELLO of a reset is still to come (R133, R144). -/
def fromCell (c : Cell) : Bool := c.lane.state == .up && !c.rstFlag

/-- When a lane leaves UP, or its cell resets, the registers whose content comes from the cell keep their last values
(R144). -/
def keepRegs (c : Cell) : Cell :=
  if fromCell c then { c with bits := cellStatBits c, calReg := calWord c } else c

/-- Cell reset (R133): outputs off, COMMITTED cleared, hold-over ended, the cell restarts from its boot ROM; its next
HELLO carries the reset flag and the cause `why` (RST_WHY of Table 6-13). What the headgate last had from the cell stays
(R144), and the de-energised outputs are the safe state of R71. -/
def resetCell (why : Nat) (c : Cell) : Cell :=
  { fieldSideReset (keepRegs c) with whyNext := why, rstFlag := true, joined := false, safe := true, valid := false }

/-- A cell that loses power: as a reset, and the cell is unpowered until power returns (R41). -/
def unpowerCell (why : Nat) (c : Cell) : Cell := { resetCell why c with powered := false }

/-- The core end of a lane restarts: the lane is DOWN and no frame is in flight (R123, Table 18-4). A configuration
write under way is kept, because R132 governs it from the loss of the lane. -/
def laneDrop (clk : Nat) (l : Lane) : Lane :=
  { l with state := .down, fails := 0, tx := none, txHeld := none, up := none, upWait := [], downAt := clk,
           downs := if l.state = .up then satAdd 8 l.downs 1 else l.downs,
           lastCause := if l.state = .up then 4 else l.lastCause }

/-- A lane goes DOWN; an OUT frame that waits in the cell never meets its marker (R123, R128, R144). -/
def dropLane (clk : Nat) (c : Cell) : Cell :=
  { keepRegs c with lane := laneDrop clk c.lane, valid := false, res := none, out := none }

/-- BLK of the headgate: all 32 lane controllers and the tick image buffers restart; cells run on (Table 18-4). -/
def headgateRestart (s : State) : State :=
  { s.mapCells (fun _ c => dropLane s.clk c) with ti := {} }

/-- BLK of the network block: both ports restart as after NET_CONFIG (Table 18-4, R293). -/
def networkRestart (s : State) : State :=
  { s with net := { s.net with restarting := true, a := { s.net.a with link := false }, b := { s.net.b with link := false } } }

/-- BLK of the engine: it restarts from initial values at the next frame start; frames until then commit nothing (Table 18-4). -/
def engineHold (s : State) : State :=
  { s with eng := { s.eng with blkWait := true, running := false, haveV := false, pass := false, window := false } }

/-- BLK of the culvert: its ports retrain (Table 18-4); CAS_STAT.STATE shows training. -/
def culvertRetrain (s : State) : State :=
  { s with cas := { s.cas with state := if s.cas.state = 0 then 0 else 1 } }

/-- BLK of the security element: it restarts with its self-test, which passes, so FS91 is no longer present and its hold
may end (Tables 18-1, 18-4, R426). -/
def securityRestart (s : State) : State :=
  let s1 := endHold 91 (s.setPresent 91 false)
  { s1 with fw := { s1.fw with seOk := true } }

/-- The block a BLK reaction of a source resets (Table 18-4); none where the table gives no block. -/
def blockOf (n : Fin 96) : Option Block :=
  if h : n.val < 32 then some (.cell ⟨n.val, h⟩)
  else if n.val ≤ 39 then some .headgate
  else if n.val ≤ 55 then none
  else if n.val ≤ 63 then some .network
  else if n.val ≤ 71 then some .engine
  else if n.val ≤ 75 then some .culvert
  else if n.val ≤ 79 then some .hostPort
  else if 88 ≤ n.val ∧ n.val ≤ 91 then some .security
  else none

/-- Whether an earlier BLK still holds the block in reset (R421). -/
def blockInReset (s : State) : Block → Bool
  | .cell c => (s.cell c).rstFlag && !(s.cell c).running
  | .network => s.net.restarting
  | .engine => s.eng.blkWait
  | .culvert => s.cas.state == 1
  | .headgate | .hostPort | .security | .module => false

/-- The reset of a block by a BLK reaction; the host port slave rejects the frame in progress, and none is in progress
between commands. -/
def resetBlock (s : State) : Block → State
  | .cell c => s.modCell c (resetCell 1)
  | .headgate => headgateRestart s
  | .network => networkRestart s
  | .engine => engineHold s
  | .culvert => culvertRetrain s
  | .security => securityRestart s
  | .hostPort | .module => s

end Sys2Proof.Machine
end

