-- ==== Sys2Proof/Machine/Faults.lean ====
section
/-! DEFINITION. The SOE writer, and the fault collector: events, consequence tags, weir counters, reactions, settle
windows, the cause bits of the cells (chapter 18, R449, R450). -/

namespace Sys2Proof.Machine

open Sys2Proof

/-! ### The SOE writer (R449 to R451) -/

/-- Put an entry into both logs: the DRAM ring of 1,048,576 and the MRAM log of 32,768 entries (R449, R451). -/
def soeCommit (e : SoeEntry) (q : SoeSt) : SoeSt :=
  { q with ring := (e :: q.ring).take 1048576, mlog := (e :: q.mlog).take 32768
           idx := q.idx + 1, midx := (q.midx + 1) % 2 ^ 32, tickN := q.tickN + 1 }

/-- An entry reaches the writer: 128 a tick are accepted, further ones wait in the FIFO of 4,096, and one that finds it
full is dropped and counted (R450). -/
def soePut (e : SoeEntry) (q : SoeSt) : SoeSt :=
  if q.tickN < 128 ∧ q.fifo = [] then soeCommit e q
  else if q.fifo.length < 4096 then { q with fifo := q.fifo ++ [e] }
  else { q with dropped := q.dropped + 1, lostFifo := satAdd 16 q.lostFifo 1 }

/-- Commit the oldest waiting entries, at most `k` of them. -/
def soeDrain : Nat → SoeSt → SoeSt
  | 0, q => q
  | k + 1, q =>
    match q.fifo with
    | [] => q
    | e :: r => soeDrain k (soeCommit e { q with fifo := r })

/-- Write an SOE entry. -/
def soeWrite (e : SoeEntry) (s : State) : State := { s with soe := soePut e s.soe }

/-- The TEST flag of an entry: an input test, or the module is in COMMISSION (Table 19-6). -/
def soeTest (s : State) (test : Bool) : Bool := test || s.md.mode == .m10

/-- A SYSTEM entry stamped now (Table 19-6). -/
def soeSystem (low : Nat) (s : State) : State :=
  soeWrite ⟨some s.now, s.tq, false, false, soeTest s false, 7, 0, low⟩ s

/-- A new tick lets 128 entries in again: the FIFO drains, and drops since then are reported with SOE_DROP and their
count in the next entry (R450). -/
def soeTick (s : State) : State :=
  let q := soeDrain 128 { s.soe with tickN := 0 }
  let s1 := { s with soe := q }
  if q.dropped = 0 ∨ 4094 < q.fifo.length then s1
  else soeSystem (q.dropped % 65536) (soeSystem (modeNum s.md.mode + 512) { s1 with soe := { q with dropped := 0 } })

/-! ### Sources and tags -/

/-- Sources whose "current state clears" reads "Event only" (Tables 3-10, 5-8, 12, 13, 14, 15-13, 18-1): never present. -/
def eventOnly (n : Fin 96) : Bool :=
  [33, 34, 35, 46, 50, 54, 59, 60, 63, 64, 66, 67, 68, 75, 76, 77, 79, 80, 81, 82, 83, 84, 85, 86, 87, 88, 89, 92, 93].contains n.val

/-- Whether a window's tagged set covers a source, for FS00 to FS31 with the cause bit (Table 18-4). -/
def windowTags (b : Block) (n : Fin 96) (bit : Nat) : Bool :=
  let cell := decide (n.val < 32)
  match b with
  | .cell c => (cell && n.val == c.val && [0, 1, 2, 4, 6, 10].contains bit) || n.val == 38
  | .headgate => (cell && [0, 2].contains bit) || [32, 36, 37, 38, 52, 65].contains n.val
  | .network => decide (56 ≤ n.val ∧ n.val ≤ 63) || n.val == 67
  | .engine => decide (64 ≤ n.val ∧ n.val ≤ 71)
  | .culvert => decide (72 ≤ n.val ∧ n.val ≤ 75) || n.val == 67
  | .hostPort => [76, 77, 78].contains n.val
  | .security => [88, 91].contains n.val
  | .module => (cell && [0, 2].contains bit) || decide (56 ≤ n.val ∧ n.val ≤ 62) || n.val == 72 || n.val == 74

/-- An event is tagged when any open window covers it (R422). -/
def isTagged (s : State) (n : Fin 96) (bit : Nat) : Bool := s.flt.settle.any fun w => windowTags w.block n bit

/-- Open the settle window of a block, or restart it (R422). -/
def openWindow (b : Block) (s : State) : State :=
  { s with flt := { s.flt with settle := ⟨b, s.clk⟩ :: s.flt.settle.filter fun w => w.block != b } }

/-- A history after an event at `t`, with the time quality of its time-stamps (R102, R429). -/
def histEvent (t tq : Nat) (tagged : Bool) (h : Hist) : Hist :=
  { count := satAdd 32 h.count 1, first := h.first <|> some t, last := some t, tagged := tagged
    firstTq := if h.first.isSome then h.firstTq else tq, lastTq := tq }

/-! ### Mode triggers and loss (R73, R74) -/

/-- A mode from which Table 4-2 permits a SAFE reaction to lead to SAFE_HOLD. -/
def safeAllowed : Mode → Bool
  | .m2 | .m3 | .m4 | .m5 | .m6 | .m9 | .m10 => true
  | _ => false

/-- A decided mode trigger waits for the sluice commit (R73, R76). -/
def decideMode (p : PendMode) (s : State) : State :=
  if s.md.pend.contains p then s else { s with md := { s.md with pend := s.md.pend ++ [p] } }

/-- A configured cell is lost: its lane is down, its self-calibration is not valid, its BLK is in progress or it has not
rejoined (R74, R81, R134, R248). A cell configured OFF is never lost. -/
def cellLost (c : Cell) : Bool :=
  c.cfgFunc != .off && (c.lane.state != .up || !c.joined || !c.cal.selfOk)

/-- MODE.LOSS as the lost cells, ports and the culvert ring give it (R74). -/
def lossNow (s : State) : Bool :=
  s.cells.toList.any cellLost || s.net.a.lost || s.net.b.lost || s.cas.lost

/-- MODE.LOSS follows; a change in RUN or DEGRADED is a mode trigger (Table 4-2). -/
def refreshLoss (s : State) : State :=
  let l := lossNow s
  if l = s.md.loss then s
  else
    let s := { s with md := { s.md with loss := l } }
    if s.md.mode = .m5 ∨ s.md.mode = .m6 then decideMode .loss s else s

/-! ### Reactions (R420, R421) -/

/-- INT: the source's EVT_PEND bit (R381). -/
def reactInt (n : Fin 96) (s : State) : State := evtRaise n.val s

/-- TRAP: the firmware records the source and resumes (Table 18-3). -/
def reactTrap (n : Fin 96) (s : State) : State :=
  { s with flt := { s.flt with traps := s.flt.traps + 1, trapSrc := n.val } }

/-- ERR: starts or restarts the source's error hold (R426). -/
def reactErr (n : Fin 96) (s : State) : State :=
  s.modSrc n fun f => { f with holdFrom := some s.clk, holdAcked := false, holdPassed := false }

/-- Do `f` when the mask has the bit. -/
def onBit (mask : BitVec 6) (i : Nat) (f : State → State) (s : State) : State :=
  if mask.getLsbD i then f s else s

/-- One event as the collector handles it: its source, cause bit or detail, tag, injection, instant, and the reactions
it may apply at all. -/
structure FaultEv where
  n : Fin 96
  detail : Nat := 0
  tagged : Bool := false
  inj : Bool := false
  t : Nat
  only : BitVec 6 := 0x3F
  deriving DecidableEq, Repr

/-- FLT_LAST after an event (Table 18-9). -/
def noteLast (e : FaultEv) (severe : Bool) (c : FltCol) : FltCol :=
  { c with lastSrc := e.n.val, lastValid := true, lastConseq := e.tagged, lastSevere := severe && !e.tagged
           lastInj := e.inj, injSeen := c.injSeen || e.inj, lastDetail := e.detail }

/-- The SOE entry of a fault event (Table 19-6). -/
def soeFault (e : FaultEv) (s : State) : SoeEntry :=
  ⟨some e.t, s.tq, false, false, soeTest s false, 6, e.n.val,
    (if e.n.val < 32 then e.detail % 32 else 0) + (if e.tagged then 256 else 0)⟩

/-- A consequence-tagged event of a source: recorded, and applied to INT alone (R423). -/
def taggedEvent (n : Fin 96) (s : State) : State :=
  let e : FaultEv := ⟨n, 0, true, false, s.now, 0x3F⟩
  let s1 := s.modSrc n fun f => { f with hist := histEvent e.t s.tq true f.hist }
  let f := s1.fsrc n
  onBit (if f.severe then f.maskS else f.maskN) 0 (reactInt n)
    (soeWrite (soeFault e s1) { s1 with flt := noteLast e f.severe s1.flt })

/-- The LANE bit of a cell whose lane a restart of the headgate took down; the event is tagged (R145, R412, R422). -/
def laneTagged (s : State) (ch : Ch) : State :=
  let s1 := s.modCell ch fun c =>
    { c with cause := c.cause ||| 1, causeNow := c.causeNow ||| 1, causeHist := c.causeHist.set 0 (histEvent s.now s.tq true c.causeHist[0])
             tickBits := c.tickBits ||| 1 }
  let s2 := s1.setPresent (cellFs ch) true
  if (s.cell ch).tickBits = 0 then taggedEvent (cellFs ch) s2 else s2

/-- FS38 of the field dies whose four lanes a restart of the headgate took down (Table 18-1, log 47). -/
def diesTagged (up : List Ch) (s : State) : State :=
  let dies := (List.range 8).filter fun d => up.any (fun c => c.val / 4 == d) && !s.flt.dieDown.contains d
  dies.foldl (fun s d =>
    taggedEvent 38 (State.setPresent { s with flt := { s.flt with dieDown := d :: s.flt.dieDown } } 38 true)) s

/-- What the detectors report when the headgate has restarted, under its settle window (R422, Table 18-4). -/
def headgateFell (up : List Ch) (s : State) : State := diesTagged up (up.foldl laneTagged s)

/-- BLK: resets the source's block unless an earlier BLK still holds it, and opens its settle window (R421, R422). The lanes
that a headgate restart takes down report LANE under that window, and MODE.LOSS follows (R74, R134). -/
def reactBlk (n : Fin 96) (s : State) : State :=
  match blockOf n with
  | none => s
  | some b =>
    if blockInReset s b then s
    else
      let s1 := openWindow b (resetBlock s b)
      refreshLoss (if b = .headgate then headgateFell (allCh.filter fun c => (s.cell c).lane.state == .up) s1 else s1)

/-- CHIP: a warm module reset is decided; every BLK and SAFE that has not acted is void (R420, R421). -/
def reactChip (n : Fin 96) (s : State) : State :=
  { s with
    flt := { s.flt with chipDecided := true }
    md := { s.md with pend := s.md.pend.filter (fun p => p != .safe)
                      rstDue := some ⟨if n.val = 93 then 4 else 3, false, n.val⟩ } }

/-- SAFE: SAFE_HOLD at the next sluice commit, in a mode that permits it (R420, R421). -/
def reactSafe (s : State) : State := if safeAllowed s.md.mode then decideMode .safe s else s

/-- The reactions of one event in the order of R421. CHIP and SAFE of an injected event are recorded only (R434). INT and TRAP wake
the core (R60). -/
def applyReactions (n : Fin 96) (mask : BitVec 6) (inj : Bool) (s : State) : State :=
  let s := if mask &&& 3 = 0 then s else s.wakeCore
  let s := onBit mask 4 (reactErr n) (onBit mask 1 (reactTrap n) (onBit mask 0 (reactInt n) s))
  let s := if inj then s else onBit mask 3 (reactChip n) s
  let s := if s.flt.chipDecided then s else onBit mask 2 (reactBlk n) s
  if inj || s.flt.chipDecided then s else onBit mask 5 reactSafe s

/-! ### Events -/

/-- The weir counters after a counted event: the last N time-stamps, newest first (R415). -/
def weirPut (f : FltSrc) (t : Nat) : List Nat := (t :: f.weir).take f.n

/-- The counted event makes its source severe: the last N lie within W (R415). -/
def weirSevere (f : FltSrc) (t : Nat) : Bool :=
  let l := weirPut f t
  l.length == f.n && decide (t - l.getLastD t ≤ f.w * 1000000)

/-- Classify an untagged event (R415); a tagged one is not counted (R423). -/
def classify (e : FaultEv) (f : FltSrc) : FltSrc :=
  if e.tagged then f
  else { f with weir := weirPut f e.t, severe := f.severe || weirSevere f e.t }

/-- The reaction mask in force for an event: of a tagged one only INT (R416, R423). -/
def eventMask (e : FaultEv) (f : FltSrc) : BitVec 6 :=
  (if f.severe then f.maskS else f.maskN) &&& e.only &&& (if e.tagged then 1 else 0x3F)

/-- Handle one event: history, classification, FLT_LAST, the SOE entry, then the reactions (R412 to R423). FS95 is
never raised (Table 18-1). -/
def handleEvent (e : FaultEv) (s : State) : State :=
  if e.n.val = 95 then s
  else
    let s := s.modSrc e.n fun f => classify e { f with hist := histEvent e.t s.tq e.tagged f.hist }
    let f := s.fsrc e.n
    let s := soeWrite (soeFault e s) { s with flt := noteLast e f.severe s.flt }
    applyReactions e.n (eventMask e f) e.inj s

/-- A source other than a cell's reports an event now; it becomes present unless it is event only (R412). -/
def raiseFault (n : Fin 96) (detail : Nat) (s : State) : State :=
  handleEvent ⟨n, detail, isTagged s n 0, false, s.now, 0x3F⟩
    (if eventOnly n || n.val == 95 then s else s.setPresent n true)

/-- The "current state clears" condition of a source holds (R412); an error hold may end (R426). -/
def clearFault (n : Fin 96) (s : State) : State := endHold n (s.setPresent n false)

/-- Raise a source when its set condition starts, and clear it when its clear condition holds. -/
def levelFault (n : Fin 96) (set clear : Bool) (s : State) : State :=
  if set && !(s.fsrc n).present then raiseFault n 0 s
  else if clear && (s.fsrc n).present then clearFault n s
  else s

/-! ### Cause bits of the cells (R145, R412) -/

/-- The composite source of a cell is present while CELL_STAT.FAULT is 1 (R412). -/
def refreshCellPresent (ch : Ch) (s : State) : State :=
  if (s.cell ch).causeNow = 0 then clearFault (cellFs ch) s else s.setPresent (cellFs ch) true

/-- The composite event of a bit that sets: the bits of one tick are one event, which is tagged only when all of them
are (R412). A bit that makes the event of this tick untagged has it counted and reacted to now. -/
def compositeEvent (ch : Ch) (bit : Fin 26) (tagged inj : Bool) (s : State) : State :=
  let c := s.cell ch
  let e : FaultEv := ⟨cellFs ch, bit.val, tagged, inj, s.now, 0x3F⟩
  if c.tickBits = 0 then handleEvent e s
  else if tagged || c.tickUntagged then s
  else
    let s := s.modSrc (cellFs ch) fun f => classify e { f with hist := { f.hist with last := some e.t, lastTq := s.tq, tagged := false } }
    let f := s.fsrc (cellFs ch)
    applyReactions (cellFs ch) (eventMask e f) inj { s with flt := noteLast e f.severe s.flt }

/-- A CELL_CAUSE bit sets, tagged or not: the bit, its own history and the composite event (R145, R412, R429). -/
def causeEventAs (ch : Ch) (bit : Fin 26) (tagged inj : Bool) (s : State) : State :=
  let s1 := s.modCell ch fun c =>
    { c with cause := c.cause ||| BitVec.ofNat 26 (2 ^ bit.val)
             causeHist := c.causeHist.set bit (histEvent s.now s.tq tagged c.causeHist[bit])
             tse := if c.cfgFunc = .di ∨ isSw c.cfgFunc = true ∨ c.lane.state ≠ .up then c.tse else some s.now }
  let s2 := compositeEvent ch bit tagged inj s1
  s2.modCell ch fun c =>
    { c with tickBits := c.tickBits ||| BitVec.ofNat 26 (2 ^ bit.val), tickUntagged := c.tickUntagged || !tagged }

/-- A CELL_CAUSE bit sets, tagged while a settle window covers it (R422). -/
def causeEvent (ch : Ch) (bit : Fin 26) (inj : Bool) (s : State) : State :=
  causeEventAs ch bit (isTagged s (cellFs ch) bit.val) inj s

/-- A condition occurs and does not last: its bit sets (R145). -/
def causePulse (ch : Ch) (bit : Fin 26) (s : State) : State := causeEvent ch bit false s

/-- A condition occurs and stays present (R145); while it is present already nothing new sets. -/
def causeOn (ch : Ch) (bit : Fin 26) (s : State) : State :=
  if (s.cell ch).causeNow.getLsbD bit.val then s
  else
    let s := s.modCell ch fun c => { c with causeNow := c.causeNow ||| BitVec.ofNat 26 (2 ^ bit.val) }
    causeEvent ch bit false (s.setPresent (cellFs ch) true)

/-- A condition ends; its sticky bit stays (R145). -/
def causeOff (ch : Ch) (bit : Fin 26) (s : State) : State :=
  refreshCellPresent ch (s.modCell ch fun c => { c with causeNow := c.causeNow &&& ~~~ (BitVec.ofNat 26 (2 ^ bit.val)) })

/-- Write 1 to CELL_CAUSE bits: a bit clears only when its condition is absent (R145). -/
def causeClear (ch : Ch) (val : Word) (s : State) : State :=
  s.modCell ch fun c => { c with cause := c.cause &&& ~~~ (val.setWidth 26 &&& ~~~ c.causeNow) }

/-! ### Conditions inside a cell -/

/-- A condition of the cell itself occurs and lasts: the cell knows it, and the headgate sets the bit when the lane is
UP; otherwise the cell reports it once its lane is UP again (R145). -/
def condOn (ch : Ch) (bit : Fin 26) (s : State) : State :=
  let s := s.modCell ch fun c => { c with cond := c.cond ||| BitVec.ofNat 26 (2 ^ bit.val) }
  if (s.cell ch).lane.state = .up then causeOn ch bit s else s

/-- A condition of the cell itself ends. -/
def condOff (ch : Ch) (bit : Fin 26) (s : State) : State :=
  let s := s.modCell ch fun c => { c with cond := c.cond &&& ~~~ (BitVec.ofNat 26 (2 ^ bit.val)) }
  if (s.cell ch).lane.state = .up then causeOff ch bit s else s

/-- Start or end a lasting condition of a cell. -/
def condSet (ch : Ch) (bit : Fin 26) (b : Bool) (s : State) : State := if b then condOn ch bit s else condOff ch bit s

/-- A condition of the cell itself that does not last. -/
def condPulse (ch : Ch) (bit : Fin 26) (s : State) : State :=
  if (s.cell ch).lane.state = .up then causePulse ch bit s else s

/-- A condition is present in the cell. -/
def hasCond (c : Cell) (bit : Fin 26) : Bool := c.cond.getLsbD bit.val

/-- The headgate sets the bits of every condition a cell reports as present, and clears those no longer present, once
its lane is UP (R145). -/
def reportConds (ch : Ch) (s : State) : State :=
  (List.finRange 26).foldl (fun s b =>
    if [0, 1, 6].contains b.val then s
    else if (s.cell ch).cond.getLsbD b.val then causeOn ch b s
    else if (s.cell ch).causeNow.getLsbD b.val then causeOff ch b s else s) s

/-! ### Windows that close (R424) -/

/-- One untagged event for a source whose last event was tagged and that is present when its window closes. -/
def closeSource (b : Block) (s : State) (n : Fin 96) : State :=
  let f := s.fsrc n
  if 32 ≤ n.val ∧ windowTags b n 0 = true ∧ f.present = true ∧ f.hist.tagged = true then
    handleEvent ⟨n, 0, false, false, s.now, 0x3F⟩ s
  else s

/-- The same for the cause bits of a cell (R424: a bit's own condition); the event is untagged whatever window is still open. -/
def closeBits (b : Block) (s : State) (ch : Ch) : State :=
  (List.finRange 26).foldl (fun s bit =>
    let c := s.cell ch
    if windowTags b (cellFs ch) bit.val ∧ c.causeNow.getLsbD bit.val ∧ c.causeHist[bit].tagged then
      causeEventAs ch bit false false s
    else s) s

/-- A settle window closes (R424). -/
def closeWindow (b : Block) (s : State) : State :=
  if s.flt.settle.any (fun w => w.block == b) then
    let s := { s with flt := { s.flt with settle := s.flt.settle.filter fun w => w.block != b } }
    allCh.foldl (closeBits b) ((List.finRange 96).foldl (closeSource b) s)
  else s

end Sys2Proof.Machine
end

