-- ==== Sys2Proof/Machine/Reply.lean ====
section
/-! DEFINITION. Packets of every source: replies and completion events, the alive counter, the reply queue, long
operations (R371 to R379, R397 to R400). -/

namespace Sys2Proof.Machine

open Sys2Proof

/-! ### Status and reason codes (Tables 15-7, 17-1) -/

abbrev stOk : Nat := 0x00
abbrev stAccepted : Nat := 0x01
abbrev stBusy : Nat := 0x02
abbrev stAlreadyDone : Nat := 0x03
abbrev stCheckFail : Nat := 0x10
abbrev stAliveErr : Nat := 0x11
abbrev stFrameErr : Nat := 0x12
abbrev stLenErr : Nat := 0x13
abbrev stBadOpcode : Nat := 0x20
abbrev stBadParam : Nat := 0x21
abbrev stWrongMode : Nat := 0x22
abbrev stDenied : Nat := 0x23
abbrev stResource : Nat := 0x24
abbrev stAborted : Nat := 0x30
abbrev stTimeout : Nat := 0x31
abbrev stFault : Nat := 0x40

abbrev rcLaneCrc : Nat := 0x01
abbrev rcLaneTimeout : Nat := 0x02
abbrev rcLaneReset : Nat := 0x03
abbrev rcLaneDown : Nat := 0x04
abbrev rcHartRxErr : Nat := 0x10
abbrev rcHartNoCur : Nat := 0x11
abbrev rcHartShed : Nat := 0x12
abbrev rcStore : Nat := 0x20
abbrev rcFlash : Nat := 0x21
abbrev rcEcc : Nat := 0x22
abbrev rcCalFail : Nat := 0x23
abbrev rcTestFail : Nat := 0x24
abbrev rcBlockCrc : Nat := 0x30
abbrev rcSignature : Nat := 0x31
abbrev rcOwnerSig : Nat := 0x32
abbrev rcRollback : Nat := 0x33
abbrev rcDigest : Nat := 0x34
abbrev rcGroup : Nat := 0x40

/-! ### Words of replies and completion events (R371) -/

/-- W0 of a packet, reply or completion event: top byte, alive counter, tag, length. -/
def headWord (top : Nat) (alive tag : Byte) (len : Nat) : Word :=
  packWord [(0, 8, len), (8, 8, tag.toNat), (16, 8, alive.toNat), (24, 8, top)]

/-- A message of W0, its words and their CRC-32C (Tables 15-5, 15-6). -/
def message (top : Nat) (alive tag : Byte) (payload : List Word) : List Word :=
  let ws := headWord top alive tag payload.length :: payload
  ws ++ [crc32c ws]

/-- W1 of a completion event or of a FAULT reply: the opcode and the reason code (Table 15-6). -/
def reasonWord (opcode reason : Nat) : Word := packWord [(0, 8, reason), (24, 8, opcode)]

/-! ### Sending -/

/-- The newest 64 of the messages sent on a path. -/
def keepSent {α : Type} (x : α) (l : List α) : List α := (x :: l).take 64

/-- Send a message to a packet source: into the reply queue, or out on its path (R376); what the manager gets waits for
`flushGroup`. The CFG image hears nothing. -/
def deliver (src : Src) (event : Bool) (ws : List Word) (s : State) : State :=
  match src with
  | .host => { s with hp := { s.hp with queue := s.hp.queue ++ [⟨event, ws⟩] } }
  | .udp n => { s with fw := { s.fw with udpOut := keepSent (n, ws) s.fw.udpOut } }
  | .service => { s with fw := { s.fw with svcOut := keepSent ws s.fw.svcOut } }
  | .group => { s with grp := { s.grp with out := s.grp.out ++ [ws] } }
  | .cfg => s

/-- The alive state of a source (R373). -/
def aliveOf (s : State) (src : Src) : AliveSt := ((s.alives.find? fun p => p.1 == src).map Prod.snd).getD {}

/-- Change the alive state of a source. -/
def setAlive (src : Src) (f : AliveSt → AliveSt) (s : State) : State :=
  { s with alives := (src, f (aliveOf s src)) :: s.alives.filter fun p => p.1 != src }

/-- An accepted packet advances the expected value (R374); HP_ALIVE shows its tag. -/
def acceptPacket (c : Ctx) (s : State) : State :=
  setAlive c.src (fun a => { a with sync := true, last := c.alive, tag := c.tag }) s

/-- Answer an accepted packet: the reply is sent and cached (R374). -/
def answer (c : Ctx) (status : Nat) (payload : List Word) (s : State) : State :=
  let ws := message status c.alive c.tag payload
  setAlive c.src (fun a => { a with cached := ws }) (deliver c.src false ws s)

/-- Answer FAULT with a reason code (R400). -/
def answerFault (c : Ctx) (opcode reason : Nat) (s : State) : State := answer c stFault [reasonWord opcode reason] s

/-- A command reads a memory (0 DRAM, 1 MRAM, 2 SRAM): where an access to it has failed the read may meet the bad word, returns no
data then, and the command answers FAULT, ECC; whether it meets it is free, because the manual gives no layout (R11, log 137). -/
def memoryRead (m : Fin 3) (c : Ctx) (opcode : Nat) (f : State → State) (s : State) : State :=
  if s.scrub[m].bad.isEmpty then f s
  else if Config.readFails s.free then answerFault c opcode rcEcc s.drawFree
  else f s.drawFree

/-! ### Long operations (R375, R378, R397 to R399) -/

/-- The reference of a command's completion event. -/
def ctxRef (c : Ctx) (opcode : Nat) : CmdRef := ⟨c.src, opcode, c.alive, c.tag⟩

/-- Operations of a source that run. -/
def opsOf (s : State) (src : Src) : Nat := countIf (fun o => o.ref.src == src) s.ops

/-- A long command of the host port that finds 8 running answers BUSY (R375). -/
def opsFull (s : State) (c : Ctx) : Bool := c.src == .host && decide (8 ≤ opsOf s .host)

/-- Answer ACCEPTED and start a long operation. -/
def startOp (c : Ctx) (o : LongOp) (s : State) : State :=
  answer c stAccepted [] { s with ops := s.ops ++ [o] }

/-- The operation of a reference, if it runs. -/
def findOp (s : State) (r : CmdRef) : Option LongOp := s.ops.find? fun o => o.ref == r

/-- Change one running operation. -/
def modOp (r : CmdRef) (f : LongOp → LongOp) (s : State) : State :=
  { s with ops := s.ops.map fun o => if o.ref == r then f o else o }

/-- A long operation of any source that completes with FAULT or TIMEOUT raises FS79 (Table 15-13). -/
def opFault (status : Nat) (s : State) : State :=
  if status = stFault ∨ status = stTimeout then raiseFault 79 0 s else s

/-- Remember an operation among the last 16 completed ones of its source (R379). -/
def noteDone (r : CmdRef) (s : State) : State :=
  let same := s.done.filter fun d => d.1 == r.src
  let other := s.done.filter fun d => d.1 != r.src
  { s with done := ((r.src, r.alive, r.tag) :: same).take 16 ++ other }

/-- An operation of a packet of the CFG image that does not complete with OK ends the configuration load (R473). -/
def loadResult (r : CmdRef) (status : Nat) (s : State) : State :=
  if r.src = .cfg ∧ status ≠ stOk then { s with md := { s.md with loadBad := true } } else s

/-- A running operation ends with exactly one completion event: its status, reason code and result payload (R397). An
operation that no longer runs sends nothing. -/
def finishOp (r : CmdRef) (status reason : Nat) (payload : List Word) (s : State) : State :=
  if (findOp s r).isSome then
    let s := { s with ops := s.ops.filter fun o => o.ref != r }
    loadResult r status <| opFault status (noteDone r
      (deliver r.src true (message status r.alive r.tag (reasonWord r.opcode reason :: payload)) s))
  else s

/-- The same for a reference that may be absent. -/
def finishOpt (r : Option CmdRef) (status reason : Nat) (payload : List Word) (s : State) : State :=
  match r with
  | none => s
  | some r => finishOp r status reason payload s

/-- Channel `ch` is used by a running long operation (R398). -/
def chInUse (s : State) (ch : Ch) : Bool := s.ops.any fun o => bitOf o.mask ch.val

/-- Some running operation has one of these opcodes (R398). -/
def opRuns (s : State) (codes : List Nat) : Bool := s.ops.any fun o => codes.contains o.ref.opcode

/-- The mask of one channel. -/
def chBit (ch : Ch) : Word := BitVec.ofNat 32 (2 ^ ch.val)

/-- A new operation of a command. -/
def newOp (c : Ctx) (opcode : Nat) (mask arg : Word) : LongOp := { ref := ctxRef c opcode, mask := mask, left := 0, bad := 0, arg := arg }

/-! ### The room for a packet (R375) -/

/-- Reply queue entries in use or reserved: held entries, packets in the input buffer, running operations of the host port. -/
def queueReserved (s : State) : Nat := s.hp.queue.length + s.hp.inBuf + opsOf s .host

/-- PKT_OK: a PKT frame sent now would be taken in. -/
def pktOk (s : State) : Bool := decide (s.hp.inBuf < 2) && decide (queueReserved s + 2 ≤ 16)

/-- A command passes the mode check of R372 step 6, or answers WRONG_MODE. -/
def inModes (allowed : Bool) (c : Ctx) (k : State → State) (s : State) : State :=
  if allowed then k s else answer c stWrongMode [] s

/-- A parameter check of R372 step 7: `bad` answers the status, and nothing else happens. -/
def refuseIf (bad : Bool) (status : Nat) (c : Ctx) (k : State → State) (s : State) : State :=
  if bad then answer c status [] s else k s

/-- The number of parameter words is that of the command's row: `base`, and from `need` to `opt` words more that only some of its
options use (log 58). -/
def wordCount (ws : List Word) (base need opt : Nat) : Bool := decide (base + need ≤ ws.length) && decide (ws.length ≤ base + opt)

/-- Reserved bits of a parameter word that are not 0 (R395). -/
def reservedBad (w used : Word) : Bool := (w &&& ~~~ used) != 0

/-- The channel a word names in its low byte, if it is at most 31 (R395). -/
def chOf (w : Word) : Option Ch :=
  let n := field w 0 8
  if h : n < 32 then some ⟨n, h⟩ else none

/-- Continue with the channel a parameter word names, or answer BAD_PARAM (R395). -/
def withCh (w : Word) (c : Ctx) (k : Ch → State → State) (s : State) : State :=
  match chOf w with
  | some ch => k ch s
  | none => answer c stBadParam [] s

/-- A configuration command has been accepted: a configuration is in force, and it differs from the CFG slot unless the
slot itself carried it (R80, R425, Table 20-10 DIRTY). -/
def noteConfig (src : Src) (s : State) : State :=
  { s with cfgOk := true, fw := { s.fw with dirty := s.fw.dirty || src != .cfg } }

end Sys2Proof.Machine
end

