-- ==== Sys2Proof/Machine/Di.lean ====
section
/-! DEFINITION. Binary inputs (chapter 7): raw edges, debounce, chatter, the event queue, wetting pulses, the sensor
supply, wire break, counting and frequency, the input test. -/

namespace Sys2Proof.Machine

open Sys2Proof

/-! ### Settings in force in the cell (Table 7-1) -/

/-- A parameter in force in a cell, by its R396 ID. -/
def cpar (c : Cell) (id : Nat) (dflt : Int) : Int := setting c.cfg id dflt

/-- I_LIM in µA (Table 7-1). -/
def diILimUa (i : Int) : Nat := if i = 0 then 500 else if i = 1 then 1000 else 2200

/-- The WET current in mA. -/
def diWetMa (i : Int) : Nat := if i = 1 then 10 else if i = 2 then 30 else 0

/-- SOE_EN of a DI cell; default ON. -/
def diSoeEn (c : Cell) : Bool := cpar c 0x00070115 1 == 1

/-- CNT_EDGE takes an edge of this direction (R160). -/
def diCounts (c : Cell) (rising : Bool) : Bool :=
  let e := cpar c 0x00070112 0
  e == 2 || (e == 0 && rising) || (e == 1 && !rising)

/-- The frequency is measured on falling edges when CNT_EDGE is FALLING, else on rising ones (R161). -/
def diFreqEdge (c : Cell) (rising : Bool) : Bool := if cpar c 0x00070112 0 = 1 then !rising else rising

/-- STATE as the cell reports it: held while FREEZE holds it (R156). -/
def diState (d : DiSt) : Bool := if d.chatFreeze then d.frz else d.st

/-- The command concerns a cell that runs as DI. -/
def isDi (s : State) (ch : Ch) : Bool := (s.cell ch).running && (s.cell ch).func == .di

/-! ### Time-stamps (R157, R158) -/

/-- An edge more than 2 ms after the last marker, or before any marker since power-up, is LATE (R158). -/
def edgeLate (s : State) (c : Cell) (age : Nat) : Bool :=
  match c.mkAt with
  | none => true
  | some _ => decide (c.mkClk + age + 2000000 < s.clk)

/-- Time-stamp of an edge that crossed `age` ns ago: the marker's tick time plus the offset rounded to 50 ns; no time
without a marker or more than 838 ms after it (R158). -/
def edgeTime (s : State) (c : Cell) (age : Nat) : Option Nat :=
  match c.mkAt with
  | none => none
  | some m =>
    if c.mkClk + age + 838000000 < s.clk then none
    else
      let off : Int := (s.now : Int) - age - m
      some ((m : Int) + (off + 25) / 50 * 50).toNat

/-! ### The event queue (R159) -/

/-- Queue an event of 32 entries; one that finds the queue full is discarded and remembered for the LOST summary. -/
def diQueue (e : DiEvent) (d : DiSt) : DiSt :=
  if d.queue.length < 32 ∧ d.lostN = 0 then { d with queue := d.queue ++ [e] }
  else { d with lostN := d.lostN + 1, lost := true, lostFirst := if d.lostN = 0 then e.ts else d.lostFirst, lostLast := e.ts }

/-- Space has returned: the LOST summary goes into the queue (R159). -/
def diLostSummary (d : DiSt) : DiSt :=
  if d.lostN = 0 ∨ 32 ≤ d.queue.length then d
  else { d with queue := d.queue ++ [⟨.lost, d.lostFirst, diState d, false, false, d.lostN, d.lostLast⟩]
                lostN := 0, lostFirst := none, lostLast := none }

/-! ### Accepted edges (R154 to R156, R160, R161) -/

/-- Chatter after an accepted edge: the window of CHAT_W, entry into suppression, suppressed edges, or the EDGE event
(R156, R159). A suppression in force lasts until it ends, whatever CHAT_N has become. -/
def diChatter (c : Cell) (clk : Nat) (e : DiEvent) (before : Bool) (d : DiSt) : DiSt :=
  let n := (cpar c 0x0007010D 0).toNat
  let win := clk :: d.chatWin.filter fun t => decide (clk < t + (cpar c 0x0007010E 10).toNat * 100000000)
  if d.chatter then { d with chatWin := win, chatSup := satAdd 16 d.chatSup 1 }
  else if n = 0 then (if diSoeEn c then { diQueue e d with lastRep := e.st } else d)
  else if n ≤ win.length then
    let frz := cpar c 0x00070110 0 == 1
    let d := { d with chatWin := win, chatter := true, chatSup := 1, chatFreeze := frz, frz := before }
    { diQueue ⟨.chatterOn, e.ts, diState d, e.late, e.test, win.length, none⟩ d with lastRep := diState d }
  else
    let d := { d with chatWin := win }
    if diSoeEn c then { diQueue e d with lastRep := e.st } else d

/-- Accept an edge: STATE takes the raw value, the edge is counted and reported (R154, R156, R160). An edge that carries no
time (R158) takes no part in the frequency. -/
def diAccept (clk : Nat) (c : Cell) : Cell :=
  let d := c.di
  let ts := d.cand
  let e : DiEvent := ⟨.edge, ts, d.raw, d.candLate, d.candTest, 0, none⟩
  let d1 := { d with
    st := d.raw, edge := true, firstTs := if d.edge then d.firstTs else ts, lastEdge := ts, edged := true
    cntTick := if diCounts c d.raw then d.cntTick + 1 else d.cntTick
    edges := match ts with
      | some t => if diFreqEdge c d.raw then t :: d.edges else d.edges
      | none => d.edges
    cand := none, candOpen := false, candLate := false, candTest := false }
  { c with di := diChatter c clk e d.st d1 }

/-- A raw edge: it opens a candidate, or closes the one that is open (R154). The candidate keeps the time of its first edge. -/
def diRaw (s : State) (rising test : Bool) (age : Nat) (c : Cell) : Cell :=
  let d := { c.di with raw := rising }
  if rising = d.st then { c with di := { d with cand := none, candOpen := false, candLate := false, candTest := false } }
  else if d.candOpen then { c with di := d }
  else { c with di := { d with cand := edgeTime s c age, candOpen := true, candLate := edgeLate s c age, candTest := test } }

/-- DEB_ON or DEB_OFF for a change towards the raw value, in ns (Table 7-1). -/
def diDebNs (c : Cell) : Nat :=
  (if c.di.raw then cpar c 0x0007010B 0 else cpar c 0x0007010C 0).toNat * 10000

/-- STATE has become 1: the wire-break condition is absent (R153). -/
def diOpenByState (ch : Ch) (s : State) : State :=
  if (s.cell ch).di.st then condOff ch cbOpen s else s

/-- A wetting pulse from a raw edge: skipped when the charge through Q in the last second, with this pulse, would exceed
I_LIM × 1 s; an edge inside a running pulse does not restart it (R151). -/
def diWet (clk : Nat) (c : Cell) : Cell :=
  let ma := diWetMa (cpar c 0x00070106 0)
  let d := c.di
  if ma = 0 ∨ d.wetUntil.isSome then c
  else
    let log := d.wetLog.filter fun p => decide (clk < p.1 + 1000000000)
    let used := log.foldl (fun n p => n + p.2) 0
    if diILimUa (cpar c 0x00070104 2) < used + 2 * ma then { c with di := { d with wetLog := log, wetSkip := true } }
    else { c with di := { d with wetLog := (clk, 2 * ma) :: log, wetUntil := some (clk + 2000000), wetIgnore := true } }

/-- A confirmed raw edge, `age` ns after its crossing (R148, R154); with debounce off it is accepted at once. During an
input test no edge is time-stamped (R162). -/
def diRawEdge (ch : Ch) (rising test : Bool) (age : Nat) (s : State) : State :=
  let c := s.cell ch
  if !isDi s ch || c.di.test || c.di.raw == rising then s
  else
    let c := diRaw s rising test age c
    let c := if c.di.candOpen && diDebNs c == 0 then diAccept s.clk c else c
    diOpenByState ch (s.modCell ch fun _ => cellLaunch s.clk (diWet s.clk { c with pstate := 0 }))

/-- V_ON or V_OFF has changed at a marker: a V_Q that the new thresholds place on the other side is a raw edge at that instant
(R120, R148, R155). V_Q is in 0.1 V. -/
def diThresholds (ch : Ch) (s : State) : State :=
  let c := s.cell ch
  if cpar c 0x00070102 110 < c.di.vin then diRawEdge ch true false 0 s
  else if c.di.vin < cpar c 0x00070103 90 then diRawEdge ch false false 0 s
  else s

/-- Q connects again after an input test: a raw input that differs from STATE is an edge at that instant, with the TEST flag (R162). -/
def diReconnect (ch : Ch) (raw : Bool) (s : State) : State :=
  diRawEdge ch raw true 0 (s.modCell ch fun c => { c with di := { c.di with test := false, raw := c.di.st } })

/-- CELL_TSE of a DI channel: the time-stamp of the last accepted edge, which may be no time (R158, R163). -/
def diTse (c : Cell) : Option Nat := if c.di.edged then c.di.lastEdge else c.tse

/-- The debounce timer expires: an open candidate is accepted (R154). -/
def diDebounceExpire (ch : Ch) (s : State) : State :=
  if isDi s ch && (s.cell ch).di.candOpen then
    diOpenByState ch (s.modCell ch fun c => cellLaunch s.clk (diAccept s.clk { c with pstate := 0 }))
  else s

/-- End of chatter suppression: CHATTER_OFF with the suppressed count and the current STATE; where STATE differs from
the state last reported, the event counts as the edge, in EDGE and its time-stamps too (R156, R163). -/
def diChatterEnd (s : State) (c : Cell) : Cell :=
  let d := c.di
  if d.chatter then
    let d1 := { d with chatter := false, chatFreeze := false, chatSup := 0 }
    let ts := edgeTime s c 0
    { c with di := { diQueue ⟨.chatterOff, ts, d.st, edgeLate s c 0, false, d.chatSup, none⟩ d1 with
                       lastRep := d.st, lastEdge := if d.st = d.lastRep then d.lastEdge else ts
                       edged := d.edged || d.st != d.lastRep, edge := d.edge || d.st != d.lastRep
                       firstTs := if d.edge || d.st == d.lastRep then d.firstTs else ts } }
  else c

/-- The option CHATTER of CH_CLEAR_LATCH: suppression ends and its window restarts (R165). -/
def diClearChatter (s : State) (c : Cell) : Cell :=
  let c := diChatterEnd s c
  { c with di := { c.di with chatWin := [] } }

/-! ### Frequency (R161) -/

/-- The frequency at T_k in mHz and FREQ_LOW, from the edge times newest first. -/
def diFrequency (tk gateNs tmoNs : Nat) (edges : List Nat) : Nat × Bool :=
  let win := edges.filter fun t => decide (tk < t + gateNs)
  match win with
  | t1 :: t2 :: r =>
    let first := (t2 :: r).getLastD t2
    (if t1 = first then 0 else (r.length + 1) * 1000000000000 / (t1 - first), false)
  | _ =>
    match edges with
    | t1 :: t2 :: _ => if tk ≤ t1 + tmoNs ∧ t2 < t1 then (1000000000000 / (t1 - t2), false) else (0, true)
    | _ => (0, true)

/-- Edges still needed: those within FREQ_GATE and the two latest ones (R161). -/
def diPrune (tk gateNs : Nat) (edges : List Nat) : List Nat :=
  edges.take 2 ++ (edges.drop 2).filter fun t => decide (tk < t + gateNs)

/-! ### The result of a tick (Tables 7-5, 7-6) -/

/-- CELL_VALUE of a DI cell at T_k. -/
def diValue (c : Cell) : Word :=
  let d := c.di
  let count := cpar c 0x00070111 0 == 1
  packWord [(0, 1, (diState d).toNat), (1, 1, d.edge.toNat), (2, 1, d.chatter.toNat), (3, 1, (hasCond c cbOpen).toNat),
    (4, 1, (hasCond c cbSensorShort).toNat), (5, 1, (hasCond c cbOverrange).toNat), (6, 1, d.wetSkip.toNat),
    (7, 1, d.lost.toNat), (8, 1, (count && d.freqLow).toNat), (16, 16, if count then 0 else intBits 16 d.vin)]

/-- CELL_AUX of a DI cell at T_k. -/
def diAux (c : Cell) : Word :=
  if cpar c 0x00070111 0 = 1 then BitVec.ofNat 32 c.di.freq else BitVec.ofNat 32 (min c.di.iin 65535)

/-- Sampling at the marker: V_Q and I_Q through the SENSE entry, and in COUNT the frequency (R147, R161, Table 11-2). -/
def diSample (tk : Nat) (vq : Int) (iq : Nat) (c : Cell) : Cell :=
  let gate := (cpar c 0x00070113 100).toNat * 1000000
  let tmo := (cpar c 0x00070114 10).toNat * 1000000000
  let f := diFrequency tk gate tmo c.di.edges
  { c with di := { c.di with vin := sensedInput c vq, iin := (sensedInput c iq).toNat, freq := f.1, freqLow := f.2, edges := diPrune tk gate c.di.edges } }

/-- What CELL_CNT still has to receive: at most 65,535 edges a result, the remainder carried on (R160). -/
def diTakeCount (d : DiSt) : Nat × DiSt :=
  let n := min d.cntTick 65535
  (n, { d with cntTick := d.cntTick - n })

/-- The flags "since the previous tick" start again after the result of a tick is formed (Table 7-5). -/
def diNewTick (d : DiSt) : DiSt := { d with edge := false, firstTs := none, wetSkip := false, lost := false }

/-! ### Meanings -/

/-- DI_RAW_EDGE (R148, R151, R154, R158). -/
def execDiRawEdge (ch : Ch) (rising : Bool) (ageNs : Nat) (s : State) : Outcome :=
  .next (diRawEdge ch rising false ageNs s)

/-- DEBOUNCE_EXPIRE (R154 to R156, R158 to R160). -/
def execDebounceExpire (ch : Ch) (s : State) : Outcome := .next (diDebounceExpire ch s)

/-- CHATTER_QUIET_EXPIRE: no raw edge for CHAT_Q ends chatter suppression (R156). -/
def execChatterQuietExpire (ch : Ch) (s : State) : Outcome :=
  .next (if isDi s ch then s.modCell ch fun c => cellLaunch s.clk (diChatterEnd s { c with pstate := 0 }) else s)

/-- WIRE_BREAK_TIMEOUT: STATE 0 and I_Q below WB_I for WB_TIME sets OPEN; I_Q at or above WB_I for 10 ms ends it (R153). STATE is the
debounced state, also while CHAT_MODE = FREEZE holds the one reported (DESIGN CHOICE, log 146). -/
def execWireBreakTimeout (ch : Ch) (absent : Bool) (s : State) : Outcome :=
  .next (if !isDi s ch then s
    else if absent then condOff ch cbOpen s
    else if cpar (s.cell ch) 0x00070108 0 = 1 ∧ (s.cell ch).di.st = false then condOn ch cbOpen s else s)

/-- The sensor supply of DI (SENS_SUP) or the transmitter supply of AII (SUP) is on (R152, R199). -/
def supplyOn (c : Cell) : Bool :=
  (c.func == .di && cpar c 0x00070107 0 == 1) || (c.func == .aii && cpar c 0x00090104 0 == 1)

/-- SENSOR_SHORT_DETECT: P in limit or low for 5 ms sets SENSOR_SHORT; P above 20 V and out of limit for 100 ms ends it
(R152, R199). A wetting pulse and the 0.5 ms after it do not count (R151). -/
def execSensorShortDetect (ch : Ch) (absent : Bool) (s : State) : Outcome :=
  .next (if !(s.cell ch).running then s
    else if absent then condOff ch cbSensorShort s
    else if supplyOn (s.cell ch) && !((s.cell ch).func == .di && (s.cell ch).di.wetIgnore) then condOn ch cbSensorShort s else s)

/-- SENSOR_SUPPLY_RETRY: the supply is switched off after 100 ms in limit, and tried for 10 ms every second (R152, R199). -/
def execSensorSupplyRetry (ch : Ch) (supOn : Bool) (s : State) : Outcome :=
  .next (if (s.cell ch).running && supplyOn (s.cell ch) then
      s.modCell ch fun c => { c with di := { c.di with supOff := !supOn } }
    else s)

/-- DI_OVERRANGE_TIMER: V_Q out of range, or back in it, for 10 ms (Table 7-7). -/
def execDiOverrangeTimer (ch : Ch) (out : Bool) (s : State) : Outcome :=
  .next (if isDi s ch then condSet ch cbOverrange out s else s)

/-- EVENT_QUEUE_SPACE: space has returned in the event queue, and the LOST summary is sent (R159). -/
def execEventQueueSpace (ch : Ch) (s : State) : Outcome :=
  .next (if isDi s ch then s.modCell ch fun c => cellLaunch s.clk { c with di := diLostSummary c.di } else s)

/-- WET_PULSE_END: the pulse ends after 2 ms; the current limit of the sensor supply is ignored 0.5 ms longer (R151, R152). -/
def execWetPulseEnd (ch : Ch) (ignoreOnly : Bool) (s : State) : Outcome :=
  .next (if !isDi s ch then s
    else if ignoreOnly then s.modCell ch fun c => { c with di := { c.di with wetIgnore := false } }
    else s.modCell ch fun c => { c with di := { c.di with wetUntil := none } })

end Sys2Proof.Machine
end

