-- ==== Sys2Proof/Machine/Do.lean ====
section
/-! DEFINITION. Switch outputs and external switch drive (chapter 8): turn-on and turn-off, current limits, retries and
latches, supply dips, diagnosis, the thermal proxy and trip-circuit supervision. -/

namespace Sys2Proof.Machine

open Sys2Proof

/-- The command concerns a cell that runs as DO or XSD. -/
def isSwCell (s : State) (ch : Ch) : Bool := (s.cell ch).running && isSw (s.cell ch).func

/-- Add to a channel life counter, saturating at 64 bits (Table 19-7, counted from 0). -/
def lifeAdd (i : Fin 7) (n : Nat) (c : Cell) : Cell := { c with life := c.life.set i (satAdd 64 c.life[i] n) }

/-! ### Turn-on (R169, R170) -/

/-- P is at or above 9 V and at or below the interlock threshold; XSD has no condition on P (R169, R185). -/
def swSupplyOk (c : Cell) : Bool := c.func == .xsd || (decide (2 ≤ c.sw.band) && !c.sw.ov)

/-- The conditions of R169 for a turn-on, and of DIP_POL = COMMIT (R179). -/
def swMayTurnOn (c : Cell) : Bool :=
  !c.sw.thl && !c.sw.platch && swSupplyOk c && (!c.sw.restart || c.sw.retryOk) && !c.sw.needOff

/-- Automatic restarts within the last 10 s (R173). -/
def swRecent (clk : Nat) (d : DoSt) : List Nat := d.restarts.filter fun t => decide (clk < t + 10000000000)

/-- A turn-on on a marker: the inrush window opens; a restart is counted in the 10 s window; CELL_CNT counts it (R170,
R173, R193, R195). -/
def swTurnOn (clk : Nat) (c : Cell) : Cell :=
  let d := c.sw
  lifeAdd 0 1 { c with sw := { d with
    on := true, inrush := true, inrOpen := true, limWin := false, onSince := clk, inrHit := false, limiting := false, wait := false
    clamp := false, trims := d.trims + 1
    restarts := if d.restart then clk :: swRecent clk d else d.restarts, restart := false } }

/-- The switch turns off; a DO cell clamps for 50 ms (R177). -/
def swOff (clk : Nat) (c : Cell) : Cell :=
  if c.sw.on then
    { c with sw := { c.sw with on := false, inrush := false, limiting := false, offSince := clk, clamp := c.func == .dout } }
  else c

/-- A supervision pulse in progress ends without a result (R191). -/
def tcsAbandon (c : Cell) : Cell := { c with sw := { c.sw with tcsRun := false } }

/-! ### The active limit (R170, R185) -/

/-- I_INR or V_INR / R_SHUNT inside the inrush window, I_SET or V_SET / R_SHUNT outside it, in mA; half of it for a DO cell while
P is in the 6–9 V band. -/
def activeLimit (c : Cell) (inrush : Bool) : Nat :=
  if c.func = .xsd then
    (if inrush then cpar c 0x00080105 160 else cpar c 0x00080104 100).toNat * 5000 / (cpar c 0x00080112 200).toNat
  else
    (if inrush then (cpar c 0x00080103 4).toNat * 250 else (cpar c 0x00080102 10).toNat * 50) / (if c.sw.band = 1 then 2 else 1)

/-- A current at the active limit: the cell regulates the switch (R171). -/
def atLimit (c : Cell) (inrush : Bool) (mA : Int) : Bool := decide ((activeLimit c inrush : Int) ≤ mA)

/-! ### Protective turn-off and retries (R169, R173, R174) -/

/-- The protective turn-off itself, at once; CELL_TSE takes its time when the lane is UP (R144, R193). -/
def swProtect (s : State) (c : Cell) : Cell :=
  { tcsAbandon (swOff s.clk c) with tse := if c.lane.state = .up then some s.now else c.tse, pstate := 0 }

/-- OVERCURRENT is present while SHORT_GND or GATE is (Table 8-6). -/
def refreshOvercurrent (ch : Ch) (s : State) : State :=
  condSet ch cbOvercurrent ((s.cell ch).sw.cShortGnd || (s.cell ch).sw.cGate) s

/-- The decision after a protective turn-off other than backfeed (R173). -/
def swRetry (ch : Ch) (s : State) : State :=
  let c := s.cell ch
  if !c.sw.cmd then s
  else if (swRecent s.clk c.sw).length < (cpar c 0x00080108 3).toNat then
    s.modCell ch fun c => { c with sw := { c.sw with restart := true, retryOk := false } }
  else condOn ch cbRetryExh (s.modCell ch fun c => { c with sw := { c.sw with platch := true } })

/-- Conditions that end when the switch is off: SHORT_GND and OPEN (Table 8-6). -/
def swOffConds (ch : Ch) (s : State) : State :=
  condOff ch cbOpen (refreshOvercurrent ch (s.modCell ch fun c => { c with sw := { c.sw with cShortGnd := false } }))

/-- A protective turn-off with its decision. Inside a supervision pulse it ends the pulse, with the gate at N and without a result
(R191); a switch that is off is not changed. -/
def swProtectiveOff (ch : Ch) (s : State) : State :=
  if (s.cell ch).sw.on then swRetry ch (swOffConds ch (s.modCell ch (swProtect s))) else s.modCell ch tcsAbandon

/-- The protective latch clears, and with it the conditions RETRY_EXH and BACKFEED (R174, Table 8-6). -/
def swUnlatch (ch : Ch) (s : State) : State :=
  condOff ch cbRetryExh (condOff ch cbBackfeed (s.modCell ch fun c => { c with sw := { c.sw with platch := false } }))

/-! ### The command at a marker (R169, R173, R174, R179) -/

/-- A marker applies an off command. -/
def swApplyOff (ch : Ch) (s : State) : State :=
  let c := s.cell ch
  let wasOn := c.sw.cmd
  let s1 := s.modCell ch fun c =>
    let c := swOff s.clk c
    { c with sw := { c.sw with cmd := false, wait := false, restart := false, needOff := false
                               tcsFrom := if wasOn then s.clk else c.sw.tcsFrom } }
  let s2 := if c.sw.on then swOffConds ch s1 else s1
  if c.sw.platch ∧ cpar c 0x0008010A 0 = 0 then swUnlatch ch s2 else s2

/-- A marker applies an on command: the switch turns on when every condition holds, else it waits (R169). The conditions
of an off switch end when it turns on; GATE ends only when normal gate current is drawn (Table 8-6). -/
def swApplyOn (ch : Ch) (s : State) : State :=
  let s1 := s.modCell ch fun c => { tcsAbandon c with sw := { (tcsAbandon c).sw with cmd := true } }
  let c := s1.cell ch
  if c.sw.on then s1
  else if swMayTurnOn c then
    condOff ch cbShortSupply (condOff ch cbExtVoltage (s1.modCell ch (swTurnOn s.clk)))
  else s1.modCell ch fun c => { c with sw := { c.sw with wait := true } }

/-- An on command outside a marker: the turn-on itself waits for the next marker (R169). -/
def swCommandOn (c : Cell) : Cell :=
  { tcsAbandon c with sw := { (tcsAbandon c).sw with cmd := true, wait := !c.sw.on } }

/-- De-energised: the switch off at once or at this marker, and the supervision pulses off (R41, R188, R191). -/
def swDeenergise (ch : Ch) (s : State) : State :=
  swApplyOff ch (s.modCell ch fun c => { tcsAbandon c with sw := { (tcsAbandon c).sw with deen := true } })

/-- The output is no longer de-energised. -/
def swEnergise (c : Cell) : Cell := { c with sw := { c.sw with deen := false } }

/-- The command state a marker applies. -/
def swApply (ch : Ch) (on : Bool) (s : State) : State := if on then swApplyOn ch s else swApplyOff ch s

/-! ### Field supply dips (R178, R179) -/

/-- The band of Table 8-5 with its hysteresis: falling thresholds 16, 9 and 6 V, rising ones 0.5 V higher. -/
def supplyBand (old pMv : Nat) : Nat :=
  let th (b v : Nat) : Bool := if b ≤ old then decide (v ≤ pMv) else decide (v + 500 ≤ pMv)
  if th 3 16000 then 3 else if th 2 9000 then 2 else if th 1 6000 then 1 else 0

/-- SUPPLY_LOW follows the band and LOW_WARN (R178). -/
def refreshSupplyLow (ch : Ch) (s : State) : State :=
  let c := s.cell ch
  let limit := if cpar c 0x00080111 1 = 1 then 2 else 1
  condSet ch cbSupplyLow (decide (c.sw.band ≤ limit)) s

/-- A new voltage on P of a DO cell: the band; below 6 V the switch goes off with its command kept; from 9.5 V on
SUPPLY_LOSS is absent (R178, R179). -/
def swSupply (ch : Ch) (pMv : Nat) (s : State) : State :=
  let c := s.cell ch
  let b := supplyBand c.sw.band pMv
  let s1 := s.modCell ch fun c => { c with pV := pMv, sw := { c.sw with band := b } }
  let s2 := if b = 0 ∧ c.sw.on then
      swOffConds ch (s1.modCell ch (swOff s.clk))
    else s1
  let s3 := if pMv < 9000 then condOff ch cbShortSupply s2 else s2
  refreshSupplyLow ch (if 9500 ≤ pMv then condOff ch cbSupplyLoss s3 else s3)

/-! ### Diagnosis (R181) -/

/-- DIAG: the present condition with the lowest number (Table 8-6). -/
def swDiag (c : Cell) : Nat :=
  if hasCond c cbBackfeed then 1 else if hasCond c cbThermal then 2 else if hasCond c cbRetryExh then 3
  else if hasCond c cbOvervolt then 4 else if hasCond c cbSupplyLoss then 5 else if c.sw.cShortGnd then 6
  else if hasCond c cbShortSupply then 7 else if c.sw.cGate then 8 else if hasCond c cbExtVoltage then 9
  else if hasCond c cbTcsFail then 10 else if hasCond c cbOpen then 11 else if hasCond c cbSupplyLow then 12 else 0

/-- V_P of a DO cell is at or above 9 V, as SHORT_SUPPLY and OPEN require; XSD has no condition on P (Table 8-6). -/
def swDiagSupply (c : Cell) : Bool := c.func == .xsd || decide (9000 ≤ c.pV)

/-- A timed diagnosis sets (Table 8-6). -/
def swDiagSet (ch : Ch) (d : DiagKind) (s : State) : State :=
  let c := s.cell ch
  match d with
  | .shortGnd =>
    if c.sw.on ∧ c.sw.cShortGnd = false then
      refreshOvercurrent ch (s.modCell ch fun c => lifeAdd 5 1 { c with sw := { c.sw with cShortGnd := true, limiting := true } })
    else s
  | .shortSupply => if c.sw.on = false ∧ swDiagSupply c then condOff ch cbExtVoltage (condOn ch cbShortSupply s) else s
  | .gate =>
    if c.func = .xsd ∧ c.sw.on then
      swProtectiveOff ch (refreshOvercurrent ch (s.modCell ch fun c => { c with sw := { c.sw with cGate := true } }))
    else s
  | .extVoltage => if c.sw.on = false ∧ hasCond c cbShortSupply = false then condOn ch cbExtVoltage s else s
  | .openLoad =>
    if cpar c 0x0008010B 0 = 1 ∧ c.sw.on ∧ c.sw.inrush = false ∧ swDiagSupply c then condOn ch cbOpen s else s

/-- A timed diagnosis ends (Table 8-6). -/
def swDiagClear (ch : Ch) (d : DiagKind) (s : State) : State :=
  match d with
  | .shortGnd => refreshOvercurrent ch (s.modCell ch fun c => { c with sw := { c.sw with cShortGnd := false } })
  | .shortSupply => condOff ch cbShortSupply s
  | .gate =>
    if (s.cell ch).sw.on then refreshOvercurrent ch (s.modCell ch fun c => { c with sw := { c.sw with cGate := false } }) else s
  | .extVoltage => condOff ch cbExtVoltage s
  | .openLoad => condOff ch cbOpen s

/-! ### The XSD proxy and trip-circuit supervision (R187 to R191) -/

/-- The proxy power p in µW (R187). -/
def proxyPower (c : Cell) (iMa : Nat) (limiting : Bool) : Nat :=
  if limiting then iMa * (cpar c 0x00080113 264).toNat * 1000 else iMa * iMa * (cpar c 0x00080114 50).toNat / 1000

/-- One update of the proxy every 100 µs (R187); its energy enters the life counters (R195). -/
def proxyUpdate (iMa : Nat) (c : Cell) : Cell :=
  let limiting := c.sw.on && atLimit c c.sw.inrush iMa
  let p := proxyPower c iMa limiting
  let rth := (cpar c 0x00080115 20).toNat
  let tau := (cpar c 0x00080116 100).toNat
  let dT : Int := (c.sw.dT : Int) + ((p * rth / 10 : Nat) - (c.sw.dT : Int)) / (10 * tau)
  let en := c.lifeEn + p
  lifeAdd 2 (en / 10000000) { c with
    lifeEn := en % 10000000
    sw := { c.sw with proxyP := p, dT := dT.toNat, tPx := c.dieT + dT.toNat * 64 / 1000000, limiting := limiting } }

/-- A pulse passes: 0.8 mA within 1.5 ms of the start of the ramp, then 0.8 to 1.2 mA to its end, and never above 10 mA
(R188, R189). -/
def tcsPass (r : TcsResult) : Bool :=
  match r.reachedUs with
  | none => false
  | some t => decide (t ≤ 1500 ∧ 800 ≤ r.minUa ∧ r.maxUa ≤ 1200 ∧ r.peakUa ≤ 10000)

/-! ### The result of a tick (Tables 8-8, 8-9) -/

/-- The raw readback of Q: above 50 % of P, and 5.0 V, it is 1; below 40 %, and 4.0 V, it is 0 (R166). -/
def swReadback (old : Bool) (vqDv : Int) (pMv : Nat) : Bool :=
  let v := vqDv * 100
  if (max (pMv / 2) 5000 : Nat) < v then true else if v < (max (pMv * 2 / 5) 4000 : Nat) then false else old

/-- DIP: a DO cell is off because P is below 6 V, with its command kept (R179, Table 8-8). -/
def swDip (c : Cell) : Nat := (c.func == .dout && c.sw.cmd && !c.sw.on && c.sw.band == 0).toNat

/-- CELL_VALUE of a DO or XSD cell. -/
def swValue (clk : Nat) (c : Cell) : Word :=
  let d := c.sw
  packWord [(0, 1, d.cmd.toNat), (1, 1, d.onAt.toNat), (2, 1, d.rb.toNat), (3, 1, d.inrush.toNat), (4, 1, d.limTick.toNat),
    (5, 1, d.thl.toNat), (6, 1, d.platch.toNat), (7, 1, swDip c), (8, 1, d.wait.toNat),
    (9, 1, (c.func == .dout && d.band == 1).toNat), (10, 4, min (swRecent clk d).length 15), (14, 1, d.tcsRun.toNat),
    (15, 1, d.tcsOk.toNat), (16, 4, swDiag c)]

/-- CELL_AUX of a DO or XSD cell. -/
def swAux (c : Cell) : Word :=
  packWord [(0, 16, intBits 16 c.sw.iLoad), (16, 16, intBits 16 (if c.func = .xsd then c.sw.tPx else c.sw.vq))]

/-- Sampling at a marker, before its command acts (R193): ON, RB, LIMIT, the load current and V_Q; on-time, energy and
inrush events enter the life counters: a turn-on counts once its current has reached I_INR, also where it tripped or its window
closed in this tick (R195). `span` is the time since the previous marker, `iPkMa` the largest current since then or since the inrush
window closed. -/
def swSample (span : Nat) (vqDv iMa : Int) (iPkMa : Nat) (pMv : Nat) (enUj : Nat) (c : Cell) : Cell :=
  let d := c.sw
  let i := if c.func = .xsd then sensedShunt c iMa else iMa
  let vq := sensedInput c vqDv
  let hit := d.inrOpen && atLimit c true iPkMa && !d.inrHit
  let on := if d.on then c.lifeOn + span else c.lifeOn
  let en := if c.func = .dout then c.lifeEn + enUj * 10000 else c.lifeEn
  let c1 := { c with
    lifeOn := on % 1000000000, lifeEn := en % 10000000
    sw := { d with onAt := d.on, rb := swReadback d.rb vq pMv, limTick := d.limWin || atLimit c d.inrOpen iPkMa
                   limiting := d.on && atLimit c d.inrush i, limWin := false, inrOpen := d.inrush
                   iLoad := i, vq := vq, inrHit := d.inrHit || hit, ov := d.ov && decide (65000 < pMv) } }
  lifeAdd 3 hit.toNat (lifeAdd 2 (en / 10000000) (lifeAdd 1 (on / 1000000000) c1))

/-! ### Meanings -/

/-- DO_LIMIT_TIMEOUT: regulation outside the inrush window for LIM_TIME: protective turn-off with OVERCURRENT (R171);
inside a supervision pulse it ends the pulse (R191). -/
def execDoLimitTimeout (ch : Ch) (s : State) : Outcome :=
  .next (if isSwCell s ch && (s.cell ch).sw.on && !(s.cell ch).sw.inrush then
      swProtectiveOff ch (if hasCond (s.cell ch) cbOvercurrent then s else condPulse ch cbOvercurrent s)
    else if isSwCell s ch && (s.cell ch).sw.tcsRun then s.modCell ch tcsAbandon else s)

/-- The inrush window closes after a largest current of `iPkMa`: LIMIT and the inrush event of the turn-on are settled. -/
def inrushClose (iPkMa : Nat) (c : Cell) : Cell :=
  let hit := c.sw.inrOpen && atLimit c true iPkMa
  lifeAdd 3 (hit && !c.sw.inrHit).toNat { c with
    pstate := 0
    sw := { c.sw with inrush := false, inrOpen := false, inrHit := c.sw.inrHit || hit, limWin := c.sw.limWin || hit } }

/-- INRUSH_WINDOW_CLOSE: T_INR has elapsed; the active limit becomes the steady one (R170, R171). -/
def execInrushWindowClose (ch : Ch) (iPkMa : Nat) (s : State) : Outcome :=
  .next (if isSwCell s ch && (s.cell ch).sw.inrush then s.modCell ch (inrushClose iPkMa) else s)

/-- Thermal shutdown: protective turn-off, the thermal latch and THERMAL (R172). -/
def swThermalOff (ch : Ch) (s : State) : State :=
  if (s.cell ch).sw.thl then s
  else swProtectiveOff ch (condOn ch cbThermal (s.modCell ch fun c => lifeAdd 4 1 { c with sw := { c.sw with thl := true } }))

/-- The thermal latch clears (R172). -/
def swThermalOn (ch : Ch) (s : State) : State :=
  condOff ch cbThermal (s.modCell ch fun c => { c with sw := { c.sw with thl := false } })

/-- The junction of an XSD channel is the proxy, which must lie where Table 8-2 lets the threshold lie (R185, R187). -/
def junctionHot (c : Cell) : Bool := c.func != .xsd || decide (165 * 64 ≤ c.sw.tPx)
def junctionCool (c : Cell) : Bool := c.func != .xsd || decide (c.sw.tPx < 150 * 64)

/-- SWITCH_THERMAL_SHUTDOWN: the junction has reached the shutdown temperature (R172, R187). -/
def execSwitchThermalShutdown (ch : Ch) (s : State) : Outcome :=
  .next (if isSwCell s ch && junctionHot (s.cell ch) then swThermalOff ch s else s)

/-- THERMAL_LATCH_RELEASE: the junction is below the release temperature (R172, R187). -/
def execThermalLatchRelease (ch : Ch) (s : State) : Outcome :=
  .next (if isSwCell s ch && junctionCool (s.cell ch) then swThermalOn ch s else s)

/-- RETRY_DELAY_EXPIRE: RETRY_DELAY has elapsed since the protective turn-off (R169). -/
def execRetryDelayExpire (ch : Ch) (s : State) : Outcome :=
  .next (if isSwCell s ch then s.modCell ch fun c => { c with sw := { c.sw with retryOk := true } } else s)

/-- OVERVOLT_DETECT: P above the interlock threshold of a DO cell, or at or below 65.0 V for 10 ms (R176). -/
def execOvervoltDetect (ch : Ch) (absent : Bool) (s : State) : Outcome :=
  .next (if isSwCell s ch && (s.cell ch).func == .dout then
      condSet ch cbOvervolt (!absent) (s.modCell ch fun c => { c with sw := { c.sw with ov := !absent } })
    else s)

/-- CLAMP_WINDOW_END: 50 ms after a turn-off the switch blocks 350 V again, whatever the cell has become since (R177). -/
def execClampWindowEnd (ch : Ch) (s : State) : Outcome :=
  .next (s.modCell ch fun c => { c with sw := { c.sw with clamp := false } })

/-- SUPPLY_DIP: P of a DO cell has fallen to `pMv` (R178). -/
def execSupplyDip (ch : Ch) (pMv : Nat) (s : State) : Outcome :=
  .next (if isSwCell s ch && (s.cell ch).func == .dout then swSupply ch pMv s else s)

/-- SUPPLY_RETURN: P of a DO cell has risen to `pMv` (R178, R179). -/
def execSupplyReturn (ch : Ch) (pMv : Nat) (s : State) : Outcome :=
  .next (if isSwCell s ch && (s.cell ch).func == .dout then swSupply ch pMv s else s)

/-- DIP_MEM_EXPIRE: P has stayed below 6 V for longer than DIP_MEM: SUPPLY_LOSS; with DIP_POL = COMMIT an off command must
come before the next turn-on (R179). -/
def execDipMemExpire (ch : Ch) (s : State) : Outcome :=
  .next (if isSwCell s ch && (s.cell ch).func == .dout && (s.cell ch).sw.band == 0 then
      condOn ch cbSupplyLoss (s.modCell ch fun c =>
        { c with sw := { c.sw with needOff := c.sw.needOff || (cpar c 0x00080110 0 == 1 && c.sw.cmd) } })
    else s)

/-- BACKFEED_DETECT: reverse current while on: the switch turns off and latches without a retry (R182); inside a supervision pulse
it ends the pulse (R191). -/
def execBackfeedDetect (ch : Ch) (s : State) : Outcome :=
  .next (if !isSwCell s ch then s
    else if (s.cell ch).sw.on then
      condOn ch cbBackfeed (swOffConds ch (s.modCell ch fun c =>
        { swProtect s c with sw := { (swProtect s c).sw with platch := true } }))
    else s.modCell ch tcsAbandon)

/-- DO_DIAG_TIMER: a timed diagnosis of Table 8-6 sets or ends. -/
def execDoDiagTimer (ch : Ch) (d : DiagKind) (absent : Bool) (s : State) : Outcome :=
  .next (if !isSwCell s ch then s else if absent then swDiagClear ch d s else swDiagSet ch d s)

/-- XSD_PROXY_UPDATE: the proxy moves, and a proxy beyond the highest shutdown or below the lowest release temperature of Table 8-2
acts at once (R187). -/
def execXsdProxyUpdate (ch : Ch) (iMa : Nat) (s : State) : Outcome :=
  .next (if isSwCell s ch && (s.cell ch).func == .xsd then
      let s1 := s.modCell ch (proxyUpdate iMa)
      if 175 * 64 ≤ (s1.cell ch).sw.tPx then swThermalOff ch s1
      else if (s1.cell ch).sw.thl && decide ((s1.cell ch).sw.tPx < 140 * 64) then swThermalOn ch s1 else s1
    else s)

/-- A supervision pulse may start: TCS_EN, the output not de-energised, the command off, not limiting, no restart pending, TCS_PERIOD
passed (R41, R188). -/
def tcsMayStart (s : State) (ch : Ch) : Bool :=
  let c := s.cell ch
  isSwCell s ch && c.func == .xsd && cpar c 0x00080117 0 == 1 && !c.sw.deen && !c.sw.cmd && !c.sw.on && !c.sw.limiting &&
    !c.sw.restart && !c.sw.tcsRun && s.elapsed c.sw.tcsFrom ((cpar c 0x00080118 10).toNat * 1000000000)

/-- TCS_PULSE_START (R188). -/
def execTcsPulseStart (ch : Ch) (s : State) : Outcome :=
  .next (if tcsMayStart s ch then
      s.modCell ch fun c => { c with sw := { c.sw with tcsRun := true, tcsFrom := s.clk } }
    else s)

/-- TCS_PULSE_END: the pulse passes or fails; after TCS_N failures TCS_FAIL sets, one pass ends it (R189, R190). -/
def execTcsPulseEnd (ch : Ch) (r : TcsResult) (s : State) : Outcome :=
  .next (if !(isSwCell s ch && (s.cell ch).sw.tcsRun) then s
    else if tcsPass r then
      condOff ch cbTcsFail (s.modCell ch fun c => { c with sw := { c.sw with tcsRun := false, tcsOk := true, tcsFails := 0 } })
    else
      let s1 := s.modCell ch fun c =>
        { c with sw := { c.sw with tcsRun := false, tcsOk := false, tcsFails := satAdd 4 c.sw.tcsFails 1 } }
      if cpar (s1.cell ch) 0x00080119 2 ≤ (s1.cell ch).sw.tcsFails then condOn ch cbTcsFail s1 else s1)

end Sys2Proof.Machine
end

