-- ==== Sys2Proof/Machine/Cal.lean ====
section
/-! DEFINITION. The two correction layers, self-calibration, the calibration set and the two-point trim (chapter 11). -/

namespace Sys2Proof.Machine

open Sys2Proof

/-! ### Paths and limits (R206, Table 11-2) -/

/-- The path of an analogue input or current output: entry and self-calibration factors share its number (Table 11-2). -/
def pathOf : Func → Fin 6
  | .aiv => 0 | .aii => 1 | .aih => 2 | .aoa | .aop => 3 | _ => 5

/-- "Range" of an entry or path in its result units: AIV µV, AII nA, AIH 10 µV, AO nA (R197, R223, Table 11-2). -/
def rangeUnits (p : Nat) : Nat := if p = 0 then 20480000 else if p = 1 then 24000000 else if p = 2 then 35000000 else 24000000

/-- Gain 1.0. -/
abbrev gainOne : Nat := 2 ^ 30

/-- A gain lies within 1.0 ± `permille` thousandths. -/
def gainWithin (permille g : Nat) : Bool :=
  decide ((1000 - permille) * 2 ^ 30 ≤ 1000 * g ∧ 1000 * g ≤ (1000 + permille) * 2 ^ 30)

/-- The limits of R206 and R226 on a calibration-set entry. The offset of the SENSE entry has no stated range, and the
REF entry holds a ratio (log 41). -/
def entryWithin (entry : Nat) (ofs : Int) (gain : Nat) : Bool :=
  entry == 4 || (gainWithin 10 gain && (entry == 5 || decide (ofs.natAbs * 1000 ≤ rangeUnits entry)))

/-- The factors a function uses from an entry: its own, or the neutral ones (R206, R254). -/
def entryFactors (e : CalEntry) : CalFactors := if e.ok then ⟨e.ofs, e.gain⟩ else {}

/-- At a marker a successful entry write and new self-calibration factors take effect (R120, R247, R255). -/
def calMarker (c : Cell) : Cell :=
  { c with cal := { c.cal with
      inUse := c.cal.entries.map entryFactors
      self := c.cal.newF.foldl (fun v f => v.set f.path ⟨f.ofs, f.gain⟩) c.cal.self
      newF := [] } }

/-! ### Checks of the set (R254) -/

/-- The check of one entry: its CRC and ORIGIN, and the limits. -/
def checkEntry (i : Fin 6) (e : CalEntry) : CalEntry := { e with ok := e.ok && entryWithin i.val e.ofs e.gain }

/-- Every entry passes (Table 11-5). -/
def setOk (c : Cell) : Bool := c.cal.entries.toList.all fun e => e.ok

/-- At power-up the cell checks every entry; STORE sets when one fails (R254, Table 11-5). -/
def checkSet (ch : Ch) (s : State) : State :=
  let s := s.modCell ch fun c => { c with cal := { c.cal with entries := Vector.ofFn fun i => checkEntry i c.cal.entries[i] } }
  condSet ch cbStore (!setOk (s.cell ch)) s

/-! ### Self-calibration (R246 to R251) -/

/-- Factors of one path pass: G_S from 0.95 to 1.05, and OFS_S within 2000 ppm of range where the range is stated (R247,
log 41). -/
def pathPasses (f : PathFactors) : Bool :=
  gainWithin 50 f.gain && (decide (3 < f.path.val) || decide (f.ofs.natAbs * 500 ≤ rangeUnits f.path.val))

/-- A self-calibration passes (R247). -/
def selfcalPasses (c : Cell) (fs : List PathFactors) : Bool := fs.all pathPasses && !hasCond c cbRefFail

/-- A cell has finished in a SELFCAL command: it leaves the set of cells that have not, and counts as failed if it did,
with the lane cause `why` when a lane loss or a cell reset is the reason (R249, R251). -/
def selfcalTick (ch : Ch) (failed : Bool) (why : Nat) (s : State) : State :=
  { s with ops := s.ops.map fun o =>
      if o.ref.opcode = 0x30 ∧ bitOf o.left ch.val then
        { o with left := o.left &&& ~~~ chBit ch, bad := if failed then o.bad ||| chBit ch else o.bad
                 why := if o.why = 0 then why else o.why }
      else o }

/-- The filter window of an analogue input in ticks (Table 9-4). -/
def aiWindow (c : Cell) : Nat :=
  let f := cpar c 0x00090102 0
  if f = 1 then 3 else if f = 2 then (cpar c 0x00090103 16).toNat else 1

/-- The filter of an analogue input restarts: HELD until the window holds only new samples; a restart between two markers
has one tick more to wait (R204). -/
def aiRestart (extra : Nat) (c : Cell) : Cell :=
  if isAi c.func then { c with ai := { c.ai with fill := aiWindow c + extra } } else c

/-- A cell starts self-calibration (R246, R250). -/
def selfcalBegin (c : Cell) : Cell := { c with cal := { c.cal with busy := true } }

/-- CELL_SELFCAL_COMPLETE: factors that pass wait for the marker and SELF_OK is 1; a failure sets CAL_FAIL and keeps the
old ones (R247, R248). -/
def cellSelfcalDone (ch : Ch) (fs : List PathFactors) (s : State) : State :=
  let c := s.cell ch
  if !c.cal.busy then s
  else
    let pass := selfcalPasses c fs
    let s := s.modCell ch fun c => aiRestart 1 { c with cal := { c.cal with
      busy := false, selfOk := c.cal.selfOk || pass, newF := if pass then fs else c.cal.newF } }
    refreshLoss (selfcalTick ch (!pass) 0 (condSet ch cbCalFail (!pass) s))

/-- Reason of a SELFCAL that fails: the lane cause of a cell that failed by one, else CAL_FAIL (R251, Table 17-3). -/
def selfcalReason (o : LongOp) : Nat := if o.why = 0 then rcCalFail else o.why

/-- SELFCAL_COMPLETE: every named cell has finished; OK, or FAULT with the mask of the failed cells (R249). -/
def execSelfcalComplete (s : State) : Outcome :=
  .next (match s.ops.find? fun o => o.ref.opcode == 0x30 && o.left == 0 with
    | some o => if o.bad = 0 then finishOp o.ref stOk 0 [] s else finishOp o.ref stFault (selfcalReason o) [o.bad] s
    | none => s)

/-! ### Writing an entry (R255, R256, R259) -/

/-- The entry a write makes current: WRITES counts it (R253, R255). -/
def writtenEntry (p : CalPend) (old : CalEntry) : CalEntry :=
  checkEntry p.entry { user := p.user, writes := satAdd 16 old.writes 1, date := p.date, ofs := p.ofs, gain := p.gain
                       coef1 := p.coef1, coef2 := p.coef2, ok := true
                       sigWords := p.sig }

/-- A trim whose entry has been written ends (R260). -/
def endTrimWrite (c : Cell) : Cell :=
  { c with cal := { c.cal with trim := c.cal.trim.filter fun t => !t.writing } }

/-! ### The two-point trim (R260) -/

/-- The new entry of a trim from its two readings in nA: with `d = M2 − M1`, `a = d / 16,000,000`,
`G_C = round(2^30 / a)` and `OFS_C = round(−b / a)`, where `−b / a = 4,000,000 − M1 / a` (R260). -/
def trimEntry (m1 m2 : Int) : Int × Nat :=
  let d := (m2 - m1).toNat
  (roundDiv (4000000 * d - m1 * 16000000) d, (roundDiv (2 ^ 30 * 16000000) d).toNat)

/-- AO_TRIM_TIMEOUT: a trim with no step for 600 s is abandoned and completes with TIMEOUT (R260). -/
def execAoTrimTimeout (ch : Ch) (s : State) : Outcome :=
  .next (match (s.cell ch).cal.trim with
    | some t =>
      if t.writing then s
      else finishOp t.ref stTimeout 0 [] (s.modCell ch fun c => { c with cal := { c.cal with trim := none } })
    | none => s)

end Sys2Proof.Machine
end

