-- ==== Sys2Proof/Machine/Ai.lean ====
section
/-! DEFINITION. Analogue inputs (chapter 9): filters, correction, the reference and replica checks, the AII shunt, the
injected sequence and its result pair; and the end of an input test. -/

namespace Sys2Proof.Machine

open Sys2Proof

/-- The command concerns a cell that runs as AIV, AII or AIH. -/
def isAiCell (s : State) (ch : Ch) : Bool := (s.cell ch).running && isAi (s.cell ch).func

/-! ### The result of a tick (R200 to R208) -/

/-- Nominal range (Table 9-2). -/
def aiNominal : Func → Int × Int
  | .aiv => (-10240000, 10240000)
  | .aii => (0, 24000000)
  | _ => (0, 35000000)

/-- Linear span (Table 9-2). -/
def aiSpan : Func → Int × Int
  | .aiv => (-10800000, 10800000)
  | .aii => (-1000000, 26000000)
  | _ => (-500000, 37000000)

/-- The sum of the first `n` values of a list. -/
def sumFirst : Nat → List Int → Int
  | 0, _ => 0
  | _, [] => 0
  | n + 1, x :: r => x + sumFirst n r

/-- The raw filter result of FILT: BOX, SINC3, or the mean of the last LONG_N BOX results (Table 9-4, log 42). -/
def aiRaw (c : Cell) (box sinc : Int) (boxes : List Int) : Int :=
  let f := cpar c 0x00090102 0
  let n := (cpar c 0x00090103 16).toNat
  if f = 1 then sinc else if f = 2 then roundDiv (sumFirst n boxes) n else box

/-- The AII shunt is disconnected (R198). -/
def shuntOff (c : Cell) : Bool := c.func == .aii && c.ai.shuntOpen

/-- Conditions that make every result of an analogue input invalid, injected INPUT results among them (R198, R208, R210, R248). -/
def aiInvalid (c : Cell) : Bool := shuntOff c || hasCond c cbRefFail || c.fgFail || !c.cal.selfOk

/-- The die temperature acts on the AII shunt by COEF1 and COEF2 of entry 1; coefficients of 0 correct nothing (R218, Table 11-2). -/
def aiComp (c : Cell) (raw : Int) : Int :=
  let e := c.cal.entries[1]
  if c.func = .aii ∧ (e.coef1 ≠ 0 ∨ e.coef2 ≠ 0) then Config.shuntComp e.coef1 e.coef2 c.dieT raw else raw

/-- Sampling at a marker: the corrected result with its flags; HELD while the filter fills, a test disconnects Q or the
cell self-calibrates (R200, R204, R210, R250). -/
def aiSample (box sinc : Int) (c : Cell) : Cell :=
  let a := c.ai
  let boxes := (box :: a.boxes).take 256
  let fill := a.fill - 1
  let v := corrected c (pathOf c.func) (aiComp c (aiRaw c box sinc boxes))
  let span := aiSpan c.func
  let nom := aiNominal c.func
  let v' := clampInt span.1 span.2 v
  let hold := decide (0 < fill) || c.di.test || c.cal.busy
  let inv := aiInvalid c || (!hold && v != v')
  let val := if hold then a.validVal.getD 0 else v'
  let alm := c.func == .aii && cpar c 0x00090105 1 == 1
  { c with ai := { a with
      boxes := boxes, fill := fill, value := val
      held := hold && a.validVal.isSome, inv := inv || (hold && a.validVal.isNone)
      validVal := if hold || inv then a.validVal else some v'
      orT := !hold && (decide (v < nom.1) || decide (nom.2 < v))
      loAlm := alm && decide (val < 3600000), hiAlm := alm && decide (21000000 < val) } }

/-- The mean of the last reference deviations, in 0.01 ppm (R208). -/
def refMean (a : AiSt) : Int := if a.devs.isEmpty then 0 else roundDiv (sumFirst 16 a.devs) (min a.devs.length 16)

/-- CELL_AUX of an analogue input (Table 9-14). -/
def aiAux (c : Cell) : Word :=
  let a := c.ai
  packWord [(0, 1, a.inv.toNat), (1, 1, a.held.toNat), (2, 1, a.orT.toNat), (3, 1, a.suspect.toNat),
    (4, 1, (hasCond c cbRefWarn).toNat), (5, 1, (shuntOff c).toNat), (6, 1, (hasCond c cbSensorShort).toNat),
    (7, 1, a.loAlm.toNat), (8, 1, a.hiAlm.toNat), (9, 1, c.inj.ran.toNat),
    (16, 16, intBits 16 (clampInt (-32767) 32767 (roundDiv (refMean a) 10)))]

/-! ### The regular sequence and injected sequences (R207, R211 to R215) -/

/-- The length of a regular item with the settling of the multiplexer, in ns (R207). -/
abbrev itemNs : Nat := 250500

/-- A sequence starts at `start`; a queued trigger came at `q` (R213, Table 9-11). -/
def injStart (start q : Nat) (j : InjSt) : InjSt :=
  { j with running := true, ran := true, entry := 0, queued := none, seq := (j.seq + 1) % 256
           qdly := min ((start - q) / 500) 255 }

/-- The regular item in progress has finished at `t`, and the next slot of Table 9-7 follows; AUX items alternate. Interruptions count
from 0 again, and a trigger that waited for the item starts its sequence 0.5 µs later (R207, R213, R214). -/
def injItemDone (t : Nat) (j : InjSt) : InjSt :=
  let j := { j with breaks := 0, itemEnd := false, itemAt := t, slot := (j.slot + 1) % 8
                    auxP := if j.slot = 7 then !j.auxP else j.auxP }
  match j.queued with
  | some q => if j.running then j else { injStart (t + 500) q j with breaks := 1 }
  | none => j

/-- The regular item has run its time since it (re)started: it has finished then (R207, R214). -/
def injSettle (clk : Nat) (j : InjSt) : InjSt :=
  if !j.running && decide (j.itemAt + itemNs ≤ clk) then injItemDone (j.itemAt + itemNs) j else j

/-- An item of a slot is known to finish now: the items before it have finished too (Table 9-7). -/
def injItemOf (slot clk : Nat) (j : InjSt) : InjSt := if j.running then j else injItemDone clk { j with slot := slot }

/-- The slot of the REFB item that finishes now: the one in progress, or the next one (Table 9-7). -/
def refbSlot (j : InjSt) : Nat := (j.slot + j.slot % 2) % 8

/-- A trigger: it starts a sequence, is queued one deep, or is dropped and counted (R213, R214). -/
def injTrigger (clk : Nat) (busyCal : Bool) (j0 : InjSt) : InjSt :=
  let j := injSettle clk j0
  if busyCal then { j with lost := satAdd 4 j.lost 1 }
  else if j.running || j.itemEnd then
    if j.queued.isSome then { j with lost := satAdd 4 j.lost 1 } else { j with queued := some clk }
  else { injStart clk clk j with breaks := j.breaks + 1 }

/-- The sequence ends: a queued trigger starts 0.5 µs later, or the regular item restarts; one interrupted 4 times in a
row runs to completion (R213, R214). -/
def injEnd (clk : Nat) (j : InjSt) : InjSt :=
  match j.queued with
  | some q => injStart (clk + 500) q j
  | none => { j with running := false, itemAt := clk + 500, itemEnd := decide (4 ≤ j.breaks) }

/-- INJ_VAL and INJ_STAT of an entry that has converted, NEW, OVR, TMO and LOST aside; an INPUT entry is no good conversion while every
result is invalid (R198, R208, R210, R213, Tables 9-9, 9-11; log 43). -/
def injResult (c : Cell) (raw : Int) : Word × Word :=
  let j := c.inj
  let code := j.mux.toList.getD j.entry 0
  let v := corrected c (pathOf c.func) (aiComp c raw)
  let span := aiSpan c.func
  let nom := aiNominal c.func
  let test := code == 0 && c.di.test
  let val := if code = 0 then clampInt span.1 span.2 v else raw
  (intWord val, packWord [(3, 1, (!test && !(code == 0 && aiInvalid c)).toNat), (4, 1, test.toNat),
    (5, 1, (code == 0 && (decide (v < nom.1) || decide (nom.2 < v))).toNat), (6, 2, j.entry),
    (8, 1, (j.entry + 1 == j.n).toNat), (9, 3, code), (12, 8, j.qdly), (20, 8, j.seq)])

/-- An entry finishes: its result waits for its EVENT frame, and the next entry or the end of the sequence follows (R215). -/
def injEntry (clk : Nat) (raw : Int) (c : Cell) : Cell :=
  let c := { c with inj := { c.inj with sent := c.inj.sent ++ [injResult c raw] } }
  cellLaunch clk (if c.inj.entry + 1 < c.inj.n then { c with inj := { c.inj with entry := c.inj.entry + 1 } }
    else { c with inj := injEnd clk c.inj })

/-! ### The result pair (R216, R217) -/

/-- Load a result: NEW, and OVR when NEW was still 1 (R217). -/
def injLoad (r : Word × Word) (tmo : Bool) (j : InjSt) : InjSt :=
  { j with val := r.1, stat := r.2 ||| packWord [(0, 1, 1), (1, 1, (bitOf j.stat 0).toNat), (2, 1, tmo.toNat)] }

/-- A result arrives: held pending during a freeze, else loaded at once; after a lost EVENT frame it carries OVR (R215, R217). -/
def injArrive (r : Word × Word) (j : InjSt) : InjSt :=
  let r := if j.ovr then (r.1, r.2 ||| 2) else r
  let j := { j with ovr := false }
  if j.frozen.isSome then { j with pend := some (if j.pend.isSome then (r.1, r.2 ||| 2) else r) }
  else injLoad r false j

/-- A freeze ends: a pending result is loaded with NEW = 1, and TMO = 1 after a timeout (R217). -/
def injUnfreeze (tmo : Bool) (j : InjSt) : InjSt :=
  let j' := { j with frozen := none, pend := none }
  match j.pend with
  | none => j'
  | some r => { j' with val := r.1, stat := r.2 ||| (if tmo then 5 else 1) }

/-- INJ_STAT as it reads, with LOST, which a freeze holds too (R217, Table 9-11). -/
def injStatRead (j : InjSt) : Word := j.stat ||| packWord [(28, 4, if j.frozen.isSome then j.lostFrz else j.lost)]

/-- Reading INJ_VAL freezes the pair; a further read during a freeze does not extend it (R217). -/
def injValRead (clk : Nat) (j : InjSt) : InjSt := if j.frozen.isSome then j else { j with frozen := some clk, lostFrz := j.lost }

/-- Reading INJ_STAT ends the freeze and clears NEW, OVR and TMO after its snapshot (R217, R370). -/
def injStatTaken (j : InjSt) : InjSt := injUnfreeze false { j with stat := j.stat &&& ~~~ 7 }

/-! ### Meanings -/

/-- The B-to-A ratio corrected for the die temperature by COEF1 and COEF2 of entry 4; coefficients of 0 correct nothing (R208). -/
def refRatio (c : Cell) (ratio : Int) : Int :=
  let e := c.cal.entries[4]
  if e.ok ∧ (e.coef1 ≠ 0 ∨ e.coef2 ≠ 0) then Config.refComp e.coef1 e.coef2 c.dieT ratio else ratio

/-- The deviation of the measured ratio from that of entry 4 REF, in 0.01 ppm; both in the unit of the entry's OFS, which is 1.0 at
2^30 where the entry fails its check (R208, Tables 11-2, 11-3, log 141). -/
def refDev (c : Cell) (ratio : Int) : Int :=
  let nominal := if c.cal.entries[4].ok then c.cal.entries[4].ofs else 0x40000000
  roundDiv ((refRatio c ratio - nominal) * 100000000) nominal.toNat

/-- REFB_CONVERSION: the deviation enters the last 16, and REF_WARN and REF_FAIL follow Table 9-8 (R208). AOA and AOP
cells run the check too, an AOP cell not below its 6 MHz step (R225, R230). -/
def execRefbConversion (ch : Ch) (ratio : Int) (s : State) : Outcome :=
  let c := s.cell ch
  let dev := refDev c ratio
  .next (if !(c.running && (isAi c.func || c.func == .aoa || (c.func == .aop && decide (c.ao.clk < 4)))) then s
    else
      let s1 := s.modCell ch fun c => { c with
        ai := { c.ai with devs := (dev :: c.ai.devs).take 16 }, inj := if isAi c.func then injItemOf (refbSlot c.inj) s.clk c.inj else c.inj }
      let a := (s1.cell ch).ai
      let m := (refMean a).natAbs
      let s2 := if 3000 < m then condOn ch cbRefWarn s1 else if m ≤ 2500 then condOff ch cbRefWarn s1 else s1
      if 20000 < m ∨ 100000 < dev.natAbs then condOn ch cbRefFail s2
      else if m ≤ 15000 ∧ a.devs.all (fun d => decide (d.natAbs ≤ 100000)) = true then condOff ch cbRefFail s2 else s2)

/-- TEST_FAIL is present while the background or the foreground condition is (Table 9-15). -/
def refreshTestFail (ch : Ch) (s : State) : State :=
  condSet ch cbTestFail ((s.cell ch).ai.suspect || (s.cell ch).fgFail) s

/-- REPLICA_CYCLE_END: deviations in ppm of range; two failing cycles in a row set SUSPECT and TEST_FAIL, two good ones end
them (R209). -/
def execReplicaCycleEnd (ch : Ch) (lo hi zero : Int) (s : State) : Outcome :=
  .next (if !isAiCell s ch then s
    else
      let fail := decide (1000 < lo.natAbs) || decide (1000 < hi.natAbs) || decide (100 < zero.natAbs)
      refreshTestFail ch (s.modCell ch fun c =>
        let bad := if fail then satAdd 2 c.ai.repBad 1 else 0
        let good := if fail then 0 else satAdd 2 c.ai.repGood 1
        { c with inj := injItemOf 5 s.clk c.inj
                 ai := { c.ai with repBad := bad, repGood := good
                                   suspect := if 2 ≤ bad then true else if 2 ≤ good then false else c.ai.suspect } }))

/-- SHUNT_DISCONNECT: the shunt opens, every result is invalid, OVERCURRENT sets (R198). -/
def execShuntDisconnect (ch : Ch) (s : State) : Outcome :=
  .next (if isAiCell s ch && (s.cell ch).func == .aii then
      condOn ch cbOvercurrent (s.modCell ch fun c => { c with ai := { c.ai with shuntOpen := true } })
    else s)

/-- SHUNT_RECONNECT: on a marker the shunt connects again and the filter restarts; with `clear` it has stayed connected at
26 mA or less for 100 ms, and the condition is absent (R198, R204). -/
def execShuntReconnect (ch : Ch) (clear : Bool) (s : State) : Outcome :=
  .next (if !(isAiCell s ch && (s.cell ch).func == .aii) then s
    else if clear then (if (s.cell ch).ai.shuntOpen then s else condOff ch cbOvercurrent s)
    else if (s.cell ch).ai.shuntOpen then
      s.modCell ch fun c => aiRestart 0 { c with ai := { c.ai with shuntOpen := false } }
    else s)

/-- The result lies outside the nominal range by more than 0.1 % of range, or within it (R200). -/
def aiFarOut (c : Cell) : Bool :=
  let n := aiNominal c.func
  let r : Int := rangeUnits (pathOf c.func).val
  decide (r < 1000 * (n.1 - c.ai.value)) || decide (r < 1000 * (c.ai.value - n.2))
def aiWithin (c : Cell) : Bool := decide ((aiNominal c.func).1 ≤ c.ai.value) && decide (c.ai.value ≤ (aiNominal c.func).2)

/-- AI_OVERRANGE_TIMER: 10 ms with the result far out of the nominal range set OVERRANGE, 10 ms within it end it (R200). -/
def execAiOverrangeTimer (ch : Ch) (out : Bool) (s : State) : Outcome :=
  .next (if !isAiCell s ch then s
    else if out then (if aiFarOut (s.cell ch) then condOn ch cbOverrange s else s)
    else if aiWithin (s.cell ch) then condOff ch cbOverrange s else s)

/-- INJ_TRIGGER: the trigger symbol of an accepted edge reaches a cell with INJ_EN = ON whose lane is UP (R212 to R214). -/
def execInjTrigger (ch : Ch) (s : State) : Outcome :=
  .next (if isAiCell s ch && (s.cell ch).inj.en && (s.cell ch).lane.state == .up && decide (0 < (s.cell ch).lane.trigs) then
      s.modCell ch fun c =>
        { c with inj := injTrigger s.clk c.cal.busy c.inj, lane := { c.lane with trigs := c.lane.trigs - 1 } }
    else s)

/-- INJ_ENTRY_RESULT (R213, R215). -/
def execInjEntryResult (ch : Ch) (raw : Int) (s : State) : Outcome :=
  .next (if isAiCell s ch then
      s.modCell ch fun c =>
        let c := { c with inj := injSettle s.clk c.inj }
        if c.inj.running then injEntry s.clk raw c else c
    else s)

/-- INJ_FREEZE_TIMEOUT: 100 µs after the INJ_VAL read the freeze ends (R217). -/
def execInjFreezeTimeout (ch : Ch) (s : State) : Outcome :=
  .next (if (s.cell ch).inj.frozen.isSome then s.modCell ch fun c => { c with inj := injUnfreeze true c.inj } else s)

/-- INJ_VAL_READ (R217). -/
def execInjValRead (ch : Ch) (s : State) : Outcome :=
  .next (s.modCell ch fun c => { c with inj := injValRead s.clk c.inj })

/-- INJ_STAT_READ (R217, R370). -/
def execInjStatRead (ch : Ch) (s : State) : Outcome :=
  .next (s.modCell ch fun c => { c with inj := injStatTaken c.inj })

/-! ### The end of an input test (R162, R210) -/

/-- A found threshold in 0.1 V lies within 1 % and 0.2 V of its setting in 0.1 V (R162). -/
def thresholdOk (found setv : Int) : Bool := decide (100 * (found - setv).natAbs ≤ setv.natAbs + 200)

/-- A converted level lies within 0.1 % of range of its expected value (R210). -/
def levelOk (f : Func) (level : Int) (pct : Nat) : Bool :=
  let r := rangeUnits (pathOf f).val
  decide (1000 * (level - ((aiNominal f).1 + ((r * pct / 100 : Nat) : Int))).natAbs ≤ r)

/-- The foreground condition of a test follows its result (R162, R210). -/
def testVerdict (ch : Ch) (pass : Bool) (s : State) : State :=
  refreshTestFail ch (s.modCell ch fun c => { c with fgFail := !pass })

/-- The running INPUT_TEST of a channel. -/
def testOp (s : State) (ch : Ch) : Option CmdRef :=
  (s.ops.find? fun o => o.ref.opcode == 0x15 && bitOf o.mask ch.val).map fun o => o.ref

/-- INPUT_TEST completes with the levels found (R162, R210, Table 17-3). -/
def testComplete (ch : Ch) (pass : Bool) (payload : List Word) (s : State) : State :=
  finishOpt (testOp s ch) (if pass then stOk else stFault) (if pass then 0 else rcTestFail) payload s

/-- INPUT_TEST_END: Q connects again; a raw input that has changed is treated as an edge with the TEST flag at that time;
an analogue filter restarts (R162, R204, R210). -/
def execInputTestEnd (ch : Ch) (lo hi : Int) (rawAfter : Bool) (s : State) : Outcome :=
  let c := s.cell ch
  .next (if !(c.running && c.di.test) then s
    else if c.func = .di then
      let pass := thresholdOk hi (cpar c 0x00070102 110) && thresholdOk lo (cpar c 0x00070103 90)
      testComplete ch pass [packWord [(0, 16, intBits 16 hi), (16, 16, intBits 16 lo)]]
        (testVerdict ch pass (diReconnect ch rawAfter s))
    else
      let pass := levelOk c.func lo 10 && levelOk c.func hi 90
      let s1 := s.modCell ch fun c => aiRestart 1 { c with di := { c.di with test := false } }
      testComplete ch pass [intWord lo, intWord hi] (testVerdict ch pass s1))

end Sys2Proof.Machine
end

