-- ==== Sys2Proof/Machine/Ao.lean ====
section
/-! DEFINITION. Current outputs and the HART modems (chapter 10): target and applied current, clock steps of AOP, the
thermal limit, compliance, HART exchanges and the receive buffer. -/

namespace Sys2Proof.Machine

open Sys2Proof

/-- The command concerns a cell that runs as AOA or AOP. -/
def isAoCell (s : State) (ch : Ch) : Bool := (s.cell ch).running && isAo (s.cell ch).func

/-! ### Targets (R224) -/

/-- Lowest current of the output range, in nA (Table 10-2). -/
def aoMin (f : Func) : Int := if f = .aop then 3200000 else 0

/-- ALM_LO and ALM_HI in nA (Table 10-1). -/
def almLo (c : Cell) : Int := cpar c 0x000A0106 3600 * 1000
def almHi (c : Cell) : Int := cpar c 0x000A0107 21600 * 1000

/-- Target, CLAMP and ALARM of a VALUE command (Table 10-3). -/
def valueTarget (c : Cell) (v : Int) : Int × Bool × Bool :=
  if v = -1 then (almLo c, false, true)
  else if v = -2 then (almHi c, false, true)
  else
    let lo := if cpar c 0x000A0105 0 = 1 then 3800000 else aoMin c.func
    let hi := if cpar c 0x000A0105 0 = 1 then 20500000 else 24000000
    (clampInt lo hi v, v != clampInt lo hi v, false)

/-- FLT_ALM replaces the target of a VALUE command while REF_FAIL is present (R225). -/
def faultTarget (c : Cell) (t : Int × Bool × Bool) : Int × Bool × Bool :=
  let f := cpar c 0x000A0108 0
  if f = 0 ∨ hasCond c cbRefFail = false then t
  else (if f = 1 then almLo c else almHi c, t.2.1, true)

/-! ### The applied current (R225, R226, R235) -/

/-- A HART exchange runs on the channel. -/
def hartRuns (c : Cell) : Bool := c.hart.ex.isSome

/-- SLEW_EFF in 0.01 mA/ms (R225). -/
def slewEff (c : Cell) : Nat :=
  let v := (cpar c 0x000A0103 0).toNat
  if hartRuns c ∧ (v = 0 ∨ 100 < v) then 100 else v

/-- Move towards a target by at most a step. -/
def moveTowards (x target : Int) (step : Nat) : Int :=
  if target < x then max target (x - step) else min target (x + step)

/-- The DAC code of an applied current (R226). -/
def dacCode (ofsC : Int) (gC : Nat) (ofsS : Int) (gS : Nat) (i : Int) : Nat :=
  let i1 := roundDiv (i * gC) (2 ^ 30) + ofsC
  let i2 := roundDiv (i1 * gS) (2 ^ 30) + ofsS
  (clampInt 0 (2 ^ 18 - 1) (roundDiv (i2 * 2 ^ 18) 25000000)).toNat

/-- The set-point of the adaptive supply of AOA in 10 mV: V_Q + 2.5 V within 5.0 V to 28.0 V; off while the output is de-energised
or its stage is held off (R227, R229). -/
def adaptiveSupply (c : Cell) : Int :=
  if c.func != .aoa || c.ao.deen || c.ao.extOff then 0 else clampInt 500 2800 (c.ao.vTerm + 250)

/-- The code the DAC is driven with, and the supply of the stage; during a trim entry 3 is neutral (R226, R227, R260). -/
def driveDac (c : Cell) : Cell :=
  let e : CalFactors := if c.cal.trim.isSome then ({} : CalFactors) else c.cal.inUse[3]
  let code := if c.ao.extOff then 0 else dacCode e.ofs e.gain c.cal.self[3].ofs c.cal.self[3].gain c.ao.applied
  { c with ao := { c.ao with dac := code, vSup := adaptiveSupply c } }

/-- The clock step of a current in nA (Table 10-4). -/
def clkBand (na : Int) : Nat :=
  if 8000000 ≤ na then 0 else if 5500000 ≤ na then 1 else if 4000000 ≤ na then 2 else if 3600000 ≤ na then 3 else 4

/-- The step a current permits on the way up: 0.10 mA above the lower bound of the higher band (R231). -/
def clkUp (na : Int) : Nat := clkBand (na - 100001)

/-- The clock step at a marker that has applied a current: down at once; up one tick after the marker that applied the higher current,
when the current measured over that tick permits it (R230, R231). -/
def aopClock (c : Cell) : Cell :=
  if c.func = .aop then
    let a := c.ao
    let i := min a.applied a.iMeas
    let base := match a.stepUp with
      | some k => if k < a.clk then min a.clk (max k (clkUp i)) else a.clk
      | none => a.clk
    let clk := max base (clkBand a.applied)
    { c with ao := { a with clk := clk, stepUp := if clkUp a.applied < clk then some (clkUp a.applied) else none } }
  else c

/-- The current that the thermal limit leaves of the target (R225, R235). -/
def aoLimited (a : AoSt) : Int := if a.thlim then min a.target 3600000 else a.target

/-- Move the applied current towards the target by SLEW_EFF over `p` ns, at once with SLEW_EFF = 0 (R225). -/
def aoMove (p : Nat) (c : Cell) : Cell :=
  let t := aoLimited c.ao
  let sl := slewEff c
  let applied := if sl = 0 then t else moveTowards c.ao.applied t (sl * p / 100)
  { c with ao := { c.ao with applied := applied, moved := c.ao.moved || applied != c.ao.applied } }

/-- Apply a target at a marker (R225); a stage that EXT_VOLTAGE held off is restored at the marker after the voltage went (R229). -/
def aoApply (clk p : Nat) (target : Int) (c : Cell) : Cell :=
  let c' := aoMove p { c with ao := { c.ao with target := target } }
  let rel := c.ao.extOff && c.ao.extRel
  aopClock { c' with ao := { c'.ao with extOff := c.ao.extOff && !rel, extRel := false, rampAt := clk } }

/-- OPEN is absent while the applied current is below 1.0 mA (R234). -/
def aoOpenByCurrent (ch : Ch) (s : State) : State :=
  if (s.cell ch).ao.applied < 1000000 then condOff ch cbOpen s else s

/-- The marker of an EXT_VOLTAGE that has gone: the condition is absent (R229). -/
def aoExtEnds (ch : Ch) (was : AoSt) (s : State) : State := if was.extRel then condOff ch cbExtVoltage s else s

/-! ### HART exchanges that end (R239) -/

/-- The exchange of a channel ends with a status and reason. -/
def hartEnd (ch : Ch) (status reason : Nat) (s : State) : State :=
  match (s.cell ch).hart.ex with
  | none => s
  | some e => finishOp e.ref status reason [] (s.modCell ch fun c => { c with hart := { c.hart with ex := none } })

/-- A clock step sheds the transmission at 6 MHz and the reception below; a running item stops at once (Table 10-4, R231). -/
def hartShed (ch : Ch) (s : State) : State :=
  let c := s.cell ch
  match c.hart.ex with
  | some e =>
    if c.func = .aop ∧ ((e.phase = .transmitting ∧ 3 ≤ c.ao.clk) ∨ (e.phase = .waitReply ∧ 4 ≤ c.ao.clk)) then
      hartEnd ch stFault rcHartShed s
    else s
  | none => s

/-- The command of a marker reaches a current output (R224, R225, R229, R231, R234). `p` is the tick period in ns. -/
def aoMarker (ch : Ch) (p : Nat) (target : Int) (s : State) : State :=
  let was := (s.cell ch).ao
  hartShed ch (aoOpenByCurrent ch (aoExtEnds ch was (s.modCell ch fun c => driveDac (aoApply s.clk p target c))))

/-- Without a marker the applied current follows its target by SLEW_EFF over the time since it last moved (R137, R225). -/
def aoRamp (ch : Ch) (s : State) : State :=
  hartShed ch (aoOpenByCurrent ch (s.modCell ch fun c =>
    let c' := aoMove (s.clk - c.ao.rampAt) c
    driveDac (aopClock { c' with ao := { c'.ao with rampAt := s.clk } })))

/-- A target taken outside a marker, the safe state on a watchdog expiry: the current starts to move (R137, R225). -/
def aoTarget (ch : Ch) (target : Int) (s : State) : State :=
  aoRamp ch (s.modCell ch fun c => { c with ao := { c.ao with target := target, rampAt := s.clk } })

/-- The thermal limit lowers the applied current at once, without SLEW; the target stays (R235). -/
def aoThermalCut (ch : Ch) (s : State) : State :=
  hartShed ch (aoOpenByCurrent ch (s.modCell ch fun c =>
    driveDac (aopClock { c with ao := { c.ao with applied := min c.ao.applied 3600000, moved := c.ao.moved || decide (3600000 < c.ao.applied) } })))

/-! ### The result of a tick (Tables 10-9, 10-10) -/

/-- The deficit of the tick exceeds both 1 % of the applied current and 10 µA (R233). -/
def aoDeficit (a : AoSt) : Bool :=
  decide (a.applied < 100 * (a.applied - a.iMeas)) && decide (10000 < a.applied - a.iMeas)

/-- The loop voltage is measured in this tick: every tick, and every 8 ticks at 12 MHz and below in AOP (Table 10-4). -/
def aoVoltageDue (c : Cell) : Bool := !(c.func == .aop && decide (2 ≤ c.ao.clk)) || decide (7 ≤ c.ao.vAge)

/-- Sampling at a marker: loop current, terminal voltage, saturation; a tick whose window contains a change of the applied current is
not evaluated; ticks with SAT are counted, and time out of compliance enters the life counter (R233, R242, R245). -/
def aoSample (span : Nat) (iMeas vTerm : Int) (sat : Bool) (c : Cell) : Cell :=
  let t := if hasCond c cbCompliance then c.lifeComp + span else c.lifeComp
  let a := { c.ao with
    iMeas := iMeas, sat := sat, satTicks := c.ao.satTicks + sat.toNat
    vTerm := if aoVoltageDue c then vTerm else c.ao.vTerm, vAge := if aoVoltageDue c then 0 else c.ao.vAge + 1 }
  lifeAdd 6 (t / 1000000000) { c with
    lifeComp := t % 1000000000, ao := { a with deficit := if a.moved then a.deficit else aoDeficit a, moved := false } }

/-- CELL_AUX of a current output (Table 10-10). -/
def aoAux (c : Cell) : Word :=
  let a := c.ao
  packWord [(0, 1, a.sat.toNat), (1, 1, a.thlim.toNat), (2, 1, (a.applied != aoLimited a).toNat), (3, 1, a.clamped.toNat),
    (4, 1, a.alarm.toNat), (5, 1, (hartRuns c).toNat), (6, 1, (c.func == .aop && decide (3 ≤ a.clk)).toNat),
    (7, 1, (hasCond c cbOpen).toNat), (8, 1, (hasCond c cbSupplyLow).toNat), (16, 16, intBits 16 a.vTerm)]

/-! ### HART frames (R237, R241) -/

/-- The XOR of the bytes of a frame. -/
def xorBytes (bs : List Byte) : Byte := bs.foldl (fun a b => a ^^^ b) 0

/-- The frame type of a delimiter (R237). -/
def hartType (bs : List Byte) : Nat := (bs.headD 0).toNat % 8

/-- The layout and checksum of a received frame, from its delimiter to its checksum: address of 1 or 5 bytes, 0 to 3
expansion bytes, command, byte count, data (R237). -/
def hartFrameOk (bs : List Byte) : Bool :=
  let d := (bs.headD 0).toNat
  let head := 1 + (if 128 ≤ d then 5 else 1) + d / 32 % 4
  let n := (bs.getD (head + 1) 0).toNat
  bs.length == head + 2 + n + 1 && xorBytes bs == 0

/-- The bytes of a HART request that its register writes have brought: their number, then the bytes, four in a register (R238,
Table 6-5, log 138). -/
def hartBytes (regs : List (Nat × BitVec 32)) : List Byte :=
  (((regs.filter fun r => decide (regHart < r.1 ∧ r.1 < regHart + 256)).map Prod.snd).flatMap wordBytes).take
    (((assocGet regHart regs).map fun w => w.toNat).getD 0)

/-- The frame a cell sends: PREAMBLE bytes of 0xFF before the request (Table 10-6). -/
def hartLine (c : Cell) (bs : List Byte) : List Byte := List.replicate (cpar c 0x000A010A 5).toNat 0xFF ++ bs

/-- APPLY brings a request to the modem (R238). -/
def hartLoad (regs : List (Nat × BitVec 32)) (c : Cell) : Cell :=
  if (assocGet regHart regs).isSome then
    { c with hart := { c.hart with ex := c.hart.ex.map fun e => { e with frame := hartLine c (hartBytes regs) } } }
  else c

/-- Store a frame in the receive buffer of 4; a full buffer drops it and counts it (R241). -/
def hartStore (f : HartFrame) (h : HartSt) : HartSt :=
  if h.buf.length < 4 then { h with buf := h.buf ++ [f] } else { h with lost := satAdd 8 h.lost 1 }

/-! ### Meanings -/

/-- AO_THERMAL_LIMIT: the applied current falls to 3.600 mA at once, THERMAL sets (R235). -/
def execAoThermalLimit (ch : Ch) (s : State) : Outcome :=
  .next (if isAoCell s ch && !(s.cell ch).ao.thlim then
      aoThermalCut ch (condOn ch cbThermal (s.modCell ch fun c => { c with ao := { c.ao with thlim := true }, pstate := 0 }))
    else s)

/-- AO_THERMAL_RELEASE: the limit ends; the next marker returns to the target (R235). -/
def execAoThermalRelease (ch : Ch) (s : State) : Outcome :=
  .next (if isAoCell s ch then
      condOff ch cbThermal (s.modCell ch fun c => { c with ao := { c.ao with thlim := false } })
    else s)

/-- COMPLIANCE_TIMER: T_COMP with a deficit in every evaluated tick sets COMPLIANCE, T_COMP without one ends it (R233). -/
def execComplianceTimer (ch : Ch) (beyond : Bool) (s : State) : Outcome :=
  .next (if isAoCell s ch && (s.cell ch).ao.deficit == beyond then condSet ch cbCompliance beyond s else s)

/-- AOA_OPEN_DETECT: T_COMP below 0.2 mA with the stage saturated, at 1.0 mA applied or more, sets OPEN; half the applied current for
10 ms ends it (R234). -/
def execAoaOpenDetect (ch : Ch) (absent : Bool) (s : State) : Outcome :=
  let a := (s.cell ch).ao
  .next (if !(isAoCell s ch && (s.cell ch).func == .aoa) then s
    else if absent then (if a.applied ≤ 2 * a.iMeas then condOff ch cbOpen s else s)
    else if 1000000 ≤ a.applied ∧ a.iMeas < 200000 ∧ a.sat = true then condOn ch cbOpen s else s)

/-- AOA_EXT_VOLTAGE: Q is driven out of range for 10 ms, and an on stage turns off; or it has been back for 10 ms, and the
next marker restores the applied current (R229). -/
def execAoaExtVoltage (ch : Ch) (back : Bool) (s : State) : Outcome :=
  .next (if !(isAoCell s ch && (s.cell ch).func == .aoa) then s
    else if back then s.modCell ch fun c => { c with ao := { c.ao with extRel := hasCond c cbExtVoltage } }
    else condOn ch cbExtVoltage (s.modCell ch fun c =>
      driveDac { c with ao := { c.ao with extOff := c.ao.extOff || decide (0 < c.ao.applied), extRel := false } }))

/-- AOA_LOW_SUPPLY, on FLD (R228). -/
def execAoaLowSupply (ch : Ch) (low : Bool) (s : State) : Outcome :=
  .next (if isAoCell s ch && (s.cell ch).func == .aoa && (s.cell ch).src == 1 then condSet ch cbSupplyLow low s else s)

/-- AOP_STEP_DOWN: the measured current has fallen into a lower band between markers (R231). -/
def execAopStepDown (ch : Ch) (measNa : Nat) (s : State) : Outcome :=
  .next (if isAoCell s ch && (s.cell ch).func == .aop then
      hartShed ch (s.modCell ch fun c => { c with ao := { c.ao with
        iMeas := measNa, clk := max c.ao.clk (clkBand measNa), stepUp := none } })
    else s)

/-- Applied current too low for a transmission that is due to start (Table 10-7). -/
def hartNoCurrent (c : Cell) : Bool :=
  (c.func == .aoa && decide (c.ao.applied < 1000000)) || (c.func == .aop && decide (c.ao.applied < 4000000))

/-- Set the step of the running exchange. -/
def hartPhase (ch : Ch) (p : HartPhase) (s : State) : State :=
  s.modCell ch fun c => { c with hart := { c.hart with ex := c.hart.ex.map fun e => { e with phase := p } } }

/-- The running exchange is at a step. -/
def hartAt (s : State) (ch : Ch) (p : HartPhase) : Bool :=
  match (s.cell ch).hart.ex with
  | some e => e.phase == p
  | none => false

/-- HART_QUIET_ELAPSED: the transmission starts, unless the current is too low or the clock step sheds it (R238, R239). -/
def execHartQuietElapsed (ch : Ch) (s : State) : Outcome :=
  .next (if !hartAt s ch .waitQuiet then s
    else if hartNoCurrent (s.cell ch) then hartEnd ch stFault rcHartNoCur s
    else hartShed ch (hartPhase ch .transmitting s))

/-- HART_TX_END: the wait for a reply begins (R238). -/
def execHartTxEnd (ch : Ch) (s : State) : Outcome :=
  .next (if hartAt s ch .transmitting then hartShed ch (hartPhase ch .waitReply s) else s)

/-- HART_REPLY_TIMEOUT (R239). -/
def execHartReplyTimeout (ch : Ch) (s : State) : Outcome :=
  .next (if hartAt s ch .waitReply then hartEnd ch stTimeout 0 s else s)

/-- Reception is on: HART is ON and the clock step of AOP does not shed it (Table 10-4). -/
def hartReceives (c : Cell) : Bool :=
  c.running && (isAo c.func || c.func == .aii) && cpar c 0x000A0109 0 == 1 && !(c.func == .aop && decide (4 ≤ c.ao.clk))

/-- A reply: stored with its exchange completed, or HART_RXERR; a full buffer drops it and counts it (R239, R241, log 45). -/
def hartReply (ch : Ch) (f : HartFrame) (good : Bool) (s : State) : State :=
  let full := decide (4 ≤ (s.cell ch).hart.buf.length)
  let s1 := if good then s.modCell ch fun c => { c with hart := hartStore f c.hart } else s
  if good && !full then hartEnd ch stOk 0 s1 else hartEnd ch stFault rcHartRxErr s1

/-- HART_FRAME_RECEIVED: the reply of the running exchange, a burst frame with BURST = ON, or a frame that is dropped
(R238, R241). The stored bytes end before the checksum. -/
def execHartFrameReceived (ch : Ch) (bytes : List Byte) (ageNs : Nat) (parityOk laneOk : Bool) (s : State) : Outcome :=
  let c := s.cell ch
  let f : HartFrame := ⟨hartType bytes == 1, s.now - ageNs, bytes.dropLast⟩
  let good := parityOk && hartFrameOk bytes
  .next (if !hartReceives c then s
    else if hartType bytes = 6 ∧ hartAt s ch .waitReply then hartReply ch f (good && laneOk) s
    else if hartType bytes = 1 ∧ good ∧ laneOk ∧ cpar c 0x000A010D 0 = 1 then
      s.modCell ch fun c => { c with hart := hartStore f c.hart }
    else s)

/-- ABORT of an exchange: the transmission stops, or the wait ends and a reply that follows is discarded (R240). -/
def hartAbort (ch : Ch) (s : State) : State :=
  s.modCell ch fun c => { c with hart := { c.hart with ex := none } }

end Sys2Proof.Machine
end

