-- ==== Sys2Proof/Machine/Cu.lean ====
section
/-! DEFINITION. The four check units (chapter 16). -/

namespace Sys2Proof.Machine

open Sys2Proof

/-- Change one check unit and nothing else. -/
def State.modCu (s : State) (u : Fin 4) (f : Cu → Cu) : State := { s with cu := s.cu.set u (f s.cu[u]) }

/-- W of a unit (Table 16-2). -/
def cuWidth (c : Cu) : Nat := c.cfg.toNat % 32 + 1

/-- The bits below W of a word. -/
def cuLow (w : Nat) (v : Word) : Word := v &&& BitVec.ofNat 32 (2 ^ w - 1)

/-- The low `n` bits of a word in reverse order. -/
def reverseBits (n : Nat) (v : Word) : Word :=
  (List.range n).foldl (fun a i => if bitOf v i then a ||| BitVec.ofNat 32 (2 ^ (n - 1 - i)) else a) 0

/-- `k` steps of a feed: the bits of `b` from bit `k` − 1 down (R389). -/
def cuFeedBits (w : Nat) (poly b : Word) : Nat → Word → Word
  | 0, v => v
  | k + 1, v =>
    let top := bitOf v (w - 1) != bitOf b k
    let v' := cuLow w (v <<< 1)
    cuFeedBits w poly b k (if top then v' ^^^ cuLow w poly else v')

/-- One byte fed to a unit (R389). -/
def cuFeed (c : Cu) (b : Byte) : Cu :=
  let w := b.setWidth 32
  let x := if c.cfg.getLsbD 5 then reverseBits 8 w else w
  { c with val := cuFeedBits (cuWidth c) c.poly x 8 c.val, bytes := satAdd 16 c.bytes 1 }

/-- CU_RESULT (R389). -/
def cuResult (c : Cu) : Word :=
  let w := cuWidth c
  (if c.cfg.getLsbD 6 then reverseBits w c.val else cuLow w c.val) ^^^ cuLow w c.xorout

/-- The bytes of CU_IN8, CU_IN16 and CU_IN32 in the order they are fed (R390). -/
def cuBytes (n : Nat) (v : Word) : List Byte := (wordBytes v).drop (4 - n)

/-- Write of CU_IN8, CU_IN16 or CU_IN32, `n` bytes wide. -/
def cuIn (n : Nat) (u : Fin 4) (v : Word) (s : State) : State := s.modCu u fun c => (cuBytes n v).foldl cuFeed c

/-- CU_RESTART (R391). -/
def cuRestart (u : Fin 4) (v : Word) (s : State) : State :=
  if bitOf v 0 then s.modCu u fun c => { c with val := cuLow (cuWidth c) c.init, bytes := 0, chk := 0, alive := 0 } else s

/-- CU_CHECK (R392). -/
def cuCheck (u : Fin 4) (v : Word) (s : State) : State :=
  s.modCu u fun c =>
    if cuLow (cuWidth c) v = cuResult c then { c with chk := 1 } else { c with chk := 2, chkFail := true }

/-- A fold of CU_ALIVE (R393). -/
def cuFold (u : Fin 4) (b : Byte) (s : State) : State :=
  s.modCu u fun c =>
    let d := { cuFeed c b with last := b }
    if b = c.expect then { d with alive := 1, expect := b + 1 }
    else { d with alive := if b = c.expect - 1 then 2 else 3, aliveFail := true }

/-- A write of CU_ALIVE with FOLD = 0 (R393). -/
def cuExpect (u : Fin 4) (b : Byte) (s : State) : State := s.modCu u fun c => { c with expect := b }

/-- A write of CU_ALIVE (Table 16-3). -/
def cuAliveWrite (u : Fin 4) (v : Word) (s : State) : State :=
  if bitOf v 31 then cuFold u ((v >>> 16).setWidth 8) s else cuExpect u (v.setWidth 8) s

/-- A write of CU_VAL (R391). -/
def cuValWrite (u : Fin 4) (v : Word) (s : State) : State := s.modCu u fun c => { c with val := cuLow (cuWidth c) v }

/-- A write of CU_STAT: CHK_FAIL and ALIVE_FAIL are W1C (Table 16-4). -/
def cuStatClear (u : Fin 4) (v : Word) (s : State) : State :=
  s.modCu u fun c => { c with chkFail := c.chkFail && !bitOf v 2, aliveFail := c.aliveFail && !bitOf v 5 }

/-- CU_ALIVE and CU_STAT as they read (Tables 16-3 and 16-4). -/
def cuAliveRead (c : Cu) : Word := packWord [(0, 8, c.expect.toNat), (8, 8, c.last.toNat)]
def cuStatRead (c : Cu) : Word :=
  packWord [(0, 2, c.chk.toNat), (2, 1, c.chkFail.toNat), (3, 2, c.alive.toNat), (5, 1, c.aliveFail.toNat), (16, 16, c.bytes)]

/-- A read of a unit's register by its offset; write-only registers and reserved offsets read 0 (R4, R5). -/
def cuRead (off : Nat) (c : Cu) : Word :=
  match off with
  | 0x00 => c.cfg.setWidth 32
  | 0x04 => c.poly
  | 0x08 => c.init
  | 0x0C => c.xorout
  | 0x10 => c.val
  | 0x14 => cuResult c
  | 0x18 => cuAliveRead c
  | 0x1C => cuStatRead c
  | _ => 0

/-- A write of a unit's register by its offset (Table 16-1). -/
def cuWrite (off : Nat) (u : Fin 4) (v : Word) (s : State) : State :=
  match off with
  | 0x00 => s.modCu u fun c => { c with cfg := v.setWidth 7 }
  | 0x04 => s.modCu u fun c => { c with poly := v }
  | 0x08 => s.modCu u fun c => { c with init := v }
  | 0x0C => s.modCu u fun c => { c with xorout := v }
  | 0x10 => cuValWrite u v s
  | 0x18 => cuAliveWrite u v s
  | 0x1C => cuStatClear u v s
  | 0x20 => cuIn 1 u v s
  | 0x24 => cuIn 2 u v s
  | 0x28 => cuIn 4 u v s
  | 0x2C => cuRestart u v s
  | 0x30 => cuCheck u v s
  | _ => s

/-! ### The commands: one write each -/

/-- CU_IN8. -/
def execCuIn8 (u : Fin 4) (v : Word) (s : State) : Outcome := .next (cuIn 1 u v s)
/-- CU_IN16. -/
def execCuIn16 (u : Fin 4) (v : Word) (s : State) : Outcome := .next (cuIn 2 u v s)
/-- CU_IN32. -/
def execCuIn32 (u : Fin 4) (v : Word) (s : State) : Outcome := .next (cuIn 4 u v s)
/-- CU_RESTART. -/
def execCuRestart (u : Fin 4) (v : Word) (s : State) : Outcome := .next (cuRestart u v s)
/-- CU_CHECK. -/
def execCuCheck (u : Fin 4) (v : Word) (s : State) : Outcome := .next (cuCheck u v s)
/-- CU_ALIVE_FOLD. -/
def execCuAliveFold (u : Fin 4) (b : Byte) (s : State) : Outcome := .next (cuFold u b s)
/-- CU_ALIVE_SET_EXPECT. -/
def execCuAliveSetExpect (u : Fin 4) (b : Byte) (s : State) : Outcome := .next (cuExpect u b s)
/-- CU_VAL_WRITE. -/
def execCuValWrite (u : Fin 4) (v : Word) (s : State) : Outcome := .next (cuValWrite u v s)
/-- CU_STAT_CLEAR. -/
def execCuStatClear (u : Fin 4) (v : Word) (s : State) : Outcome := .next (cuStatClear u v s)

end Sys2Proof.Machine
end

