-- ==== Sys2Proof/Machine/Float.lean ====
section
/-! DEFINITION. The fp32 arithmetic of the engine: IEEE 754 binary32, round to nearest, ties to even, subnormals flushed,
one canonical NaN (R265, R503). Every operation answers its result and its arithmetic events. -/

namespace Sys2Proof.Machine

open Sys2Proof

/-- A result and the arithmetic events it counts. -/
abbrev Ev := Word × Nat

abbrev fNaN : Word := 0x7FC00000#32

def fSign (w : Word) : Bool := bitOf w 31
def fExp (w : Word) : Nat := field w 23 8
def fMan (w : Word) : Nat := field w 0 23
def fIsNaN (w : Word) : Bool := fExp w == 255 && fMan w != 0
def fIsInf (w : Word) : Bool := fExp w == 255 && fMan w == 0

/-- The zero of a sign, and the infinity of a sign. -/
def fZero (neg : Bool) : Word := if neg then 0x80000000#32 else 0
def fInf (neg : Bool) : Word := if neg then 0xFF800000#32 else 0x7F800000#32

/-- A subnormal operand is flushed to zero of its sign. -/
def fFlush (w : Word) : Word := if fExp w = 0 then fZero (fSign w) else w

/-- A flushed operand is zero. -/
def fIsZero (w : Word) : Bool := fExp w == 0

/-- Magnitude `m` and exponent `e` of a finite operand: its value is `m × 2^e`. -/
def fMag (w : Word) : Nat := if fExp w = 0 then 0 else 2 ^ 23 + fMan w
def fPow (w : Word) : Int := (fExp w : Int) - 150

/-- `m` divided by 2^`k`, rounded to nearest, ties to even; `sticky` says that `m` stands a little below its value. -/
def rneShift (m k : Nat) (sticky : Bool) : Nat :=
  if k = 0 then m
  else
    let q := m / 2 ^ k
    let lo := m % 2 ^ k
    let half := 2 ^ (k - 1)
    if half < lo ∨ (lo = half ∧ (sticky = true ∨ q % 2 = 1)) then q + 1 else q

/-- The binary32 of `m × 2^e`: the binary32 nearest to it, and zero of its sign where that is subnormal. -/
def fRound (neg : Bool) (m : Nat) (e : Int) (sticky : Bool) : Word :=
  if m = 0 then fZero neg
  else
    let q : Int := max (e + Nat.log2 m - 23) (-149)
    let r := if e ≤ q then rneShift m (q - e).toNat sticky else m * 2 ^ (e - q).toNat
    let up := decide (2 ^ 24 ≤ r)
    let r := if up then r / 2 else r
    let q := if up then q + 1 else q
    if r < 2 ^ 23 then fZero neg
    else if 105 ≤ q then fInf neg
    else packWord [(0, 23, r), (23, 8, (q + 150).toNat), (31, 1, neg.toNat)]

/-- A result without events, unless it is a NaN. -/
def fRes (w : Word) : Ev := if fIsNaN w then (fNaN, 1) else (w, 0)

/-- The exact signed integer of a finite operand in units of 2^`e`. -/
def fInt (w : Word) (e : Int) : Int :=
  let v : Int := fMag w * 2 ^ (fPow w - e).toNat
  if fSign w then -v else v

/-- FADD. -/
def fAdd (a b : Word) : Ev :=
  let a := fFlush a
  let b := fFlush b
  if fIsNaN a || fIsNaN b then (fNaN, 1)
  else if fIsInf a then (if fIsInf b && fSign a != fSign b then (fNaN, 1) else (a, 0))
  else if fIsInf b then (b, 0)
  else if fIsZero a && fIsZero b then (fZero (fSign a && fSign b), 0)
  else if fIsZero a then (b, 0)
  else if fIsZero b then (a, 0)
  else
    let e := min (fPow a) (fPow b)
    let v := fInt a e + fInt b e
    (fRound (decide (v < 0)) v.natAbs e false, 0)

/-- The operand with its sign changed. -/
def fNeg (a : Word) : Word := a ^^^ 0x80000000#32

/-- FSUB. -/
def fSub (a b : Word) : Ev := fAdd a (fNeg b)

/-- FMUL. -/
def fMul (a b : Word) : Ev :=
  let a := fFlush a
  let b := fFlush b
  let neg := fSign a != fSign b
  if fIsNaN a || fIsNaN b || (fIsInf a && fIsZero b) || (fIsZero a && fIsInf b) then (fNaN, 1)
  else if fIsInf a || fIsInf b then (fInf neg, 0)
  else (fRound neg (fMag a * fMag b) (fPow a + fPow b) false, 0)

/-- FDIV; a finite operand divided by zero is a division by zero, zero by zero a NaN result (log 49). -/
def fDiv (a b : Word) : Ev :=
  let a := fFlush a
  let b := fFlush b
  let neg := fSign a != fSign b
  if fIsNaN a || fIsNaN b || (fIsInf a && fIsInf b) || (fIsZero a && fIsZero b) then (fNaN, 1)
  else if fIsInf a then (fInf neg, 0)
  else if fIsInf b then (fZero neg, 0)
  else if fIsZero b then (fInf neg, 1)
  else
    let n := fMag a * 2 ^ 50
    (fRound neg (n / fMag b) (fPow a - fPow b - 50) (n % fMag b != 0), 0)

/-- The bits of a square root from bit `k` down. -/
def sqrtBits (n : Nat) : Nat → Nat → Nat
  | 0, r => r
  | k + 1, r => sqrtBits n k (if (r + 2 ^ k) * (r + 2 ^ k) ≤ n then r + 2 ^ k else r)

/-- FSQRT. -/
def fSqrt (a : Word) : Ev :=
  let a := fFlush a
  if fIsNaN a || (fSign a && !fIsZero a) then (fNaN, 1)
  else if fIsInf a || fIsZero a then (a, 0)
  else
    let odd := (fPow a) % 2 != 0
    let k : Nat := if odd then 41 else 40
    let n := fMag a * 2 ^ k
    let r := sqrtBits n 34 0
    (fRound false r ((fPow a - k) / 2) (r * r != n), 0)

/-- The order of non-NaN operands as integers; the two zeros are equal. -/
def fKey (w : Word) : Int :=
  let w := fFlush w
  let m : Int := field w 0 31
  if fSign w then -m else m

/-- A relation of two numbers. -/
def relHolds (r : Rel) (a b : Int) : Bool :=
  match r with
  | .eq => decide (a = b) | .ne => decide (a ≠ b) | .lt => decide (a < b)
  | .le => decide (a ≤ b) | .gt => decide (b < a) | .ge => decide (b ≤ a)

/-- A relation of two operands, fp32 or signed integer; with a NaN only not-equal holds. -/
def cmpHolds (r : Rel) (fp : Bool) (a b : Word) : Bool :=
  if fp then (if fIsNaN a || fIsNaN b then r == .ne else relHolds r (fKey a) (fKey b)) else relHolds r a.toInt b.toInt

/-- FMIN, FMAX; the zero of negative sign is the smaller one (log 49). -/
def fMin (a b : Word) : Ev :=
  let a := fFlush a
  let b := fFlush b
  if fIsNaN a || fIsNaN b then (fNaN, 1)
  else if fKey a < fKey b ∨ (fKey a = fKey b ∧ fSign a = true) then (a, 0) else (b, 0)

def fMax (a b : Word) : Ev :=
  let a := fFlush a
  let b := fFlush b
  if fIsNaN a || fIsNaN b then (fNaN, 1)
  else if fKey b < fKey a ∨ (fKey a = fKey b ∧ fSign a = false) then (a, 0) else (b, 0)

/-- FABS. -/
def fAbs (a : Word) : Ev := fRes (fFlush a &&& 0x7FFFFFFF#32)

/-- I2F. -/
def i2f (a : Word) : Ev := (fRound (decide (a.toInt < 0)) a.toInt.natAbs 0 false, 0)

/-- F2I: nearest, ties to even, saturating; 0 for a NaN. -/
def f2i (a : Word) : Ev :=
  let a := fFlush a
  if fIsNaN a then (0, 1)
  else
    let m := if fIsInf a then 2 ^ 40
      else if 0 ≤ fPow a then fMag a * 2 ^ (fPow a).toNat else rneShift (fMag a) (-fPow a).toNat false
    let v : Int := if fSign a then -(m : Int) else m
    if v < -2147483648 then (0x80000000#32, 1)
    else if 2147483647 < v then (0x7FFFFFFF#32, 1)
    else (intWord v, 0)

end Sys2Proof.Machine
end

