-- ==== Sys2Proof/Machine/Engine.lean ====
section
/-! DEFINITION. The logic engine: data memory, operations and function blocks, evaluation and replay, remote inputs,
the load check, start and activation (chapter 12). -/

namespace Sys2Proof.Machine

open Sys2Proof

/-! ### Data memory (R268, Table 12-4): words by address, ascending, a word of 0 not listed -/

/-- Data memory in one canonical form. -/
abbrev Mem := List (Nat × Word)

/-- A word of data memory. -/
def memGet (m : Mem) (a : Nat) : Word := (assocGet a m).getD 0

/-- Remove a word from the list. -/
def memErase (a : Nat) : Mem → Mem
  | [] => []
  | (k, v) :: r => if k = a then r else (k, v) :: memErase a r

/-- Write a word; a word of 0 is not listed, and an address beyond the 8,192 words writes nothing (log 122). -/
def memPut (a : Nat) (v : Word) (m : Mem) : Mem :=
  if 8192 ≤ a then m else if v = 0 then memErase a m else assocSet a v m

/-- Write consecutive words. -/
def memPutAll : Nat → List Word → Mem → Mem
  | _, [], m => m
  | a, v :: r, m => memPutAll (a + 1) r (memPut a v m)

/-- Read consecutive words. -/
def memRead (m : Mem) (a n : Nat) : List Word := (List.range n).map fun i => memGet m (a + i)

/-- The canonical form: addresses strictly rising from `lo`, below 8,192, no word of 0. -/
def memWfFrom : Nat → Mem → Bool
  | _, [] => true
  | lo, (a, v) :: r => decide (lo ≤ a) && decide (a < 8192) && v != 0 && memWfFrom (a + 1) r

/-- The canonical form of data memory. -/
def memWf (m : Mem) : Bool := memWfFrom 0 m

/-- Regions the program may read and may write (Table 12-4). -/
def readable (a : Nat) : Bool := decide (a < 0x520) || (decide (0x900 ≤ a) && decide (a < 0x2000))
def writable (a : Nat) : Bool := decide (0x520 ≤ a) && decide (a < 0x2000)
def isRemote (a : Nat) : Bool := decide (0x120 ≤ a) && decide (a < 0x520)

/-! ### Operations (R264 to R266, R502) -/

/-- A Boolean value. -/
def b2w (b : Bool) : Word := if b then 1 else 0

/-- A word taken as a Boolean. -/
def w2b (w : Word) : Bool := w != 0

/-- An exact integer that saturates, and the event it counts. -/
def satInt (v : Int) : Ev :=
  if v < -2147483648 then (0x80000000#32, 1) else if 2147483647 < v then (0x7FFFFFFF#32, 1) else (intWord v, 0)

/-- DIV (R265). -/
def divOp (a b : Word) : Ev :=
  if b = 0 then (if 0 ≤ a.toInt then 0x7FFFFFFF#32 else 0x80000000#32, 1) else satInt (Int.tdiv a.toInt b.toInt)

/-- MOD (R265). -/
def arithMod (a b : Word) : Ev := if b = 0 then (0, 1) else (intWord (Int.tmod a.toInt b.toInt), 0)

/-- Shifts take their count whole; 32 or more empties the word (R502). -/
def shlOp (a n : Word) : Word := if n.toNat < 32 then a <<< n.toNat else 0
def shrOp (a n : Word) : Word := if n.toNat < 32 then a >>> n.toNat else 0
def shraOp (a n : Word) : Word := a.sshiftRight (min n.toNat 31)

/-- A mask of `w` bits at position `p`; positions at or above 32 drop out. -/
def bitMask (p w : Nat) : Word := BitVec.ofNat 32 ((2 ^ w - 1) * 2 ^ p)

/-- Operations without state: their result and events. -/
def pureOp (c : EngCode) (x : Nat → Word) : Option Ev :=
  let a := x 0
  let b := x 1
  match c with
  | .and => some (a &&& b, 0)
  | .or => some (a ||| b, 0)
  | .xor => some (a ^^^ b, 0)
  | .not => some (~~~a, 0)
  | .andn => some (a &&& ~~~b, 0)
  | .and4 => some (a &&& b &&& x 2 &&& x 3, 0)
  | .or4 => some (a ||| b ||| x 2 ||| x 3, 0)
  | .bitx p w => some ((a >>> p) &&& bitMask 0 w, 0)
  | .bitins p w => some ((a &&& ~~~(bitMask p w)) ||| ((b <<< p) &&& bitMask p w), 0)
  | .add => some (a + b, 0)
  | .sub => some (a - b, 0)
  | .adds => some (satInt (a.toInt + b.toInt))
  | .subs => some (satInt (a.toInt - b.toInt))
  | .neg => some (if a = 0x80000000#32 then (Config.negMin, Config.negMinEvent.toNat) else (-a, 0))
  | .abs => some (if a = 0x80000000#32 then (Config.absMin, Config.negMinEvent.toNat) else (if a.toInt < 0 then -a else a, 0))
  | .shl => some (shlOp a b, 0)
  | .shr => some (shrOp a b, 0)
  | .shra => some (shraOp a b, 0)
  | .min => some (if a.toInt ≤ b.toInt then a else b, 0)
  | .max => some (if a.toInt ≤ b.toInt then b else a, 0)
  | .mul => some (a * b, 0)
  | .muls => some (satInt (a.toInt * b.toInt))
  | .div => some (divOp a b)
  | .mod => some (arithMod a b)
  | .fadd => some (fAdd a b)
  | .fsub => some (fSub a b)
  | .fmul => some (fMul a b)
  | .fmin => some (fMin a b)
  | .fmax => some (fMax a b)
  | .fabs => some (fAbs a)
  | .i2f => some (i2f a)
  | .f2i => some (f2i a)
  | .fdiv => some (fDiv a b)
  | .fsqrt => some (fSqrt a)
  | .cmp r fp => some (b2w (cmpHolds r fp a b), 0)
  | .sel => some (if a != 0 then b else x 2, 0)
  | .mux4 => some (x (1 + a.toNat % 4), 0)
  | .limit => some (if (x 2).toInt < b.toInt then b else if a.toInt < b.toInt then b else if (x 2).toInt < a.toInt then x 2 else a, 0)
  | .mov => some (a, 0)
  | .movi v => some (v, 0)
  | _ => none

/-- Clamp to [lo, hi] in fp32, lo where lo > hi (R266 limit, R502). -/
def fLimit (v lo hi : Word) : Word :=
  if cmpHolds .gt true lo hi then lo else if cmpHolds .lt true v lo then lo else if cmpHolds .gt true v hi then hi else v

/-- The PI block (R266, R503): its output and its new integral with their events. Operands SP, PV, KP, KI, HI, LO. -/
def piOp (invF : Word) (x : Nat → Word) (iPrev : Word) : Word × Word × Nat :=
  let e := fSub (x 0) (x 1)
  let k := fMul (x 3) e.1
  let k2 := fMul k.1 invF
  let i := fAdd iPrev k2.1
  let p := fMul (x 2) e.1
  let u := fAdd p.1 i.1
  let hiHit := cmpHolds .gt true u.1 (x 4)
  let u1 := if hiHit then x 4 else u.1
  let i1 := if hiHit && cmpHolds .gt true e.1 0 then iPrev else i.1
  let loHit := cmpHolds .lt true u1 (x 5)
  let u2 := if loHit then x 5 else u1
  let i2 := if loHit && cmpHolds .lt true e.1 0 then iPrev else i1
  (u2, fLimit i2 (x 5) (x 4), e.2 + k.2 + k2.2 + i.2 + p.2 + u.2)

/-- The function blocks of R266: results, the block's new state, events. `p` is the committed state, none at its initial
value; `fresh` marks the first frame after the engine starts. -/
def blockOp (c : EngCode) (x : Nat → Word) (p : Option BlkSt) (fresh : Bool) : List Word × BlkSt × Nat :=
  let q := p.getD {}
  let a := w2b (x 0)
  let b := w2b (x 1)
  match c with
  | .ton =>
    let pt : Int := (x 1).toNat
    let et := if a && q.p1 then min (q.val + 1) pt else 0
    ([b2w (a && decide (pt ≤ et))], { q with val := et, p1 := a }, 0)
  | .tof =>
    let pt : Int := (x 1).toNat
    let prev := if p.isSome then q.val else pt
    let et := if !a && !q.p1 then min (prev + 1) pt else 0
    ([b2w (a || decide (et < pt))], { q with val := et, p1 := a }, 0)
  | .tp =>
    let pt : Int := (x 1).toNat
    let prev := if p.isSome then q.val else pt
    let et := if a && !q.p1 && decide (pt ≤ prev) then 0 else min (prev + 1) pt
    ([b2w (decide (et < pt))], { q with val := et, p1 := a }, 0)
  | .ctu =>
    let cv := if b then 0 else if a && !q.p1 then min (q.val + 1) 2147483647 else q.val
    ([b2w (decide ((x 2).toInt ≤ cv))], { q with val := cv, p1 := a }, 0)
  | .ctd =>
    let cv := if b then (x 2).toInt else if a && !q.p1 then max (q.val - 1) (-2147483648) else q.val
    ([b2w (decide (cv ≤ 0))], { q with val := cv, p1 := a }, 0)
  | .ctud =>
    let step : Int := (if a && !q.p1 then 1 else 0) - (if b && !q.p2 then 1 else 0)
    let cv := if w2b (x 2) then 0 else if w2b (x 3) then (x 4).toInt else clampInt (-2147483648) 2147483647 (q.val + step)
    ([b2w (decide ((x 4).toInt ≤ cv)), b2w (decide (cv ≤ 0))], { q with val := cv, p1 := a, p2 := b }, 0)
  | .sr => let r := a || (q.p1 && !b); ([b2w r], { q with p1 := r }, 0)
  | .rs => let r := !b && (a || q.p1); ([b2w r], { q with p1 := r }, 0)
  | .rtrig => ([b2w (a && !q.p1)], { q with p1 := a }, 0)
  | .ftrig => ([b2w (!a && q.p1)], { q with p1 := a }, 0)
  | .cmph fp =>
    let r := if cmpHolds .gt fp (x 0) (x 2) then true else if cmpHolds .lt fp (x 0) (x 1) then false else q.p1
    ([b2w r], { q with p1 := r }, 0)
  | .lag k =>
    if fresh then ([x 0], { q with y := x 0 }, 0)
    else
      let d := fSub (x 0) q.y
      let m := fMul k d.1
      let y := fAdd q.y m.1
      ([y.1], { q with y := y.1 }, d.2 + m.2 + y.2)
  | .roc f =>
    if fresh then ([0], { q with y := x 0 }, 0)
    else
      let d := fSub (x 0) q.y
      let y := fMul d.1 f
      ([y.1], { q with y := x 0 }, d.2 + y.2)
  | .pi invF => let r := piOp invF x q.y; ([r.1], { q with y := r.2.1 }, r.2.2)
  | _ => ([], { q with p1 := a }, 0)

/-- The key of an operation's block state: timers, then counters, then the other blocks. -/
def blkKey (o : EngOp) : Nat :=
  match o.code with
  | .ton | .tof | .tp => o.inst
  | .ctu | .ctd | .ctud => 1024 + o.inst
  | _ => 2048 + o.inst

/-- What an evaluation works on: the committed copies it reads state from, and the working copies. -/
structure EvalSt where
  memC : Mem
  blkC : List (Nat × BlkSt)
  mem : Mem
  blk : List (Nat × BlkSt)
  ar : List (Nat × Nat)
  fresh : Bool
  deriving DecidableEq, Repr

/-- An operand: a variable declared as state from the committed copy, any other word as it stood when the bundle issued. -/
def operand (p : Program) (v : EvalSt) (snap : Mem) (o : EngOp) (i : Nat) : Word :=
  match o.args[i]? with
  | none => 0
  | some a => if p.states.contains a then memGet v.memC a else memGet snap a

/-- Write results to their words. -/
def putResults : List Nat → List Word → Mem → Mem
  | d :: ds, w :: ws, m => putResults ds ws (memPut d w m)
  | _, _, m => m

/-- Run one operation. -/
def runOp (p : Program) (snap : Mem) (v : EvalSt) (o : EngOp) : EvalSt :=
  let x := operand p v snap o
  match pureOp o.code x with
  | some (w, n) => { v with mem := putResults o.dst [w] v.mem, ar := assocSet o.id n v.ar }
  | none =>
    let r := blockOp o.code x (assocGet (blkKey o) v.blkC) v.fresh
    { v with mem := putResults o.dst r.1 v.mem, blk := assocSet (blkKey o) r.2.1 v.blk, ar := assocSet o.id r.2.2 v.ar }

/-- Run the main schedule (R274). -/
def runMain (p : Program) (v : EvalSt) : EvalSt :=
  p.main.foldl (fun v b => b.ops.foldl (runOp p v.mem) v) v

/-- The operations of the replay schedule that read a word of a list. -/
def readers (p : Program) (ws : List Nat) : List Nat :=
  (p.replay.flatMap fun b => b.ops).filterMap fun o => if o.args.any ws.contains then some o.id else none

/-- One bundle of a pass: only dirty operations execute, and each marks its dependants dirty (R276). -/
def replayBundle (p : Program) (st : EvalSt × List Nat) (b : Bundle) : EvalSt × List Nat :=
  let snap := st.1.mem
  b.ops.foldl (fun st o => if st.2.contains o.id then (runOp p snap st.1 o, readers p o.dst ++ st.2) else st) st

/-- A replay pass over the dirty operations. -/
def runReplay (p : Program) (dirty : List Nat) (v : EvalSt) : EvalSt := (p.replay.foldl (replayBundle p) (v, dirty)).1

/-- All arithmetic events of a result. -/
def arithSum (l : List (Nat × Nat)) : Nat := (l.map Prod.snd).sum

/-! ### Time of the schedules (R263, R264, R271 to R273) -/

/-- Lane cycles of an operation (Table 12-2). -/
def laneCycles : EngCode → Nat
  | .div | .mod => 16
  | .fdiv | .fsqrt => 12
  | .roc _ | .lag _ => 2
  | .pi _ => 4
  | _ => 1

/-- Cycles of a bundle: its issue cycle and wait count, or the longest lane occupancy where that is longer (log 50). -/
def bundleCycles (b : Bundle) : Nat := b.ops.foldl (fun n o => max n (laneCycles o.code)) (1 + b.wait)

/-- Cycles of a schedule. -/
def schedCycles (l : List Bundle) : Nat := (l.map bundleCycles).sum

def evalCyc (p : Program) : Nat := schedCycles p.main
def passCyc (p : Program) : Nat := schedCycles p.replay

/-- The shortest tick period of a TICK code in whole ns, and the window's cycles (R271). -/
def periodMin (code : Nat) : Nat := 1000000000 / tickRate code
def winCyc (code : Nat) : Nat := (periodMin code - 18000) / 2

/-- The first instant of the grid at rate `f` at or after `t` (R90). -/
def gridFrom (f t : Nat) : Nat :=
  let sec := t / 1000000000
  let n := (t % 1000000000 * f) / 1000000000
  let cand := (List.range 3).map fun i => if n + i < f then sec * 1000000000 + tickOffset f (n + i) else (sec + 1) * 1000000000
  (cand.find? fun c => decide (t ≤ c)).getD ((sec + 1) * 1000000000)

/-- Module time of the next tick (R90, R104): in a stretched frame the first tick of the grid at or after T_k + P. -/
def nextTick (s : State) : Nat :=
  let f := tickRate s.spring.code
  let p := s.spring
  if p.stretched then gridFrom f (p.tk + tickPeriod p.code)
  else if p.num + 1 < f then p.sec * 1000000000 + tickOffset f (p.num + 1) else (p.sec + 1) * 1000000000

/-- C_k, and X_k of a program (R95, R273). -/
def cutoff (s : State) : Nat := nextTick s - 10000
def horizon (s : State) (p : Program) : Nat := cutoff s - 2 * passCyc p

/-- All operations of both schedules. -/
def allOps (p : Program) : List EngOp := (p.main ++ p.replay).flatMap fun b => b.ops

/-- Distinct numbers of a list. -/
def distinct (l : List Nat) : List Nat := l.foldl (fun a x => if a.contains x then a else x :: a) []

/-- Timers, counters, and remote words a program uses. -/
def timersUsed (p : Program) : Nat := (distinct ((allOps p).filterMap fun o => if blkKey o < 1024 then some (blkKey o) else none)).length
def countersUsed (p : Program) : Nat :=
  (distinct ((allOps p).filterMap fun o => if 1024 ≤ blkKey o ∧ blkKey o < 2048 then some (blkKey o) else none)).length
def remoteUsed (p : Program) : List Nat := distinct (((allOps p).flatMap fun o => o.args).filter isRemote)
def depEntries (p : Program) : Nat := (p.dep.map fun d => d.2.length).sum

/-- The words the frame and culvert configuration in force define in the remote region. -/
def remDefined (rems : List RemIn) (a : Nat) : Bool := rems.any fun r => decide (r.base ≤ a) && decide (a ≤ r.base + r.len)

/-- The words that depend on a remote word after a bundle, and the operations of the bundle that read one of them: an
operation that does writes its words to the list, one that does not takes its words out of it (R263, R272). A word declared
as state is read from the committed copy, so nothing depends on it within the frame (R266). -/
def taintBundle (p : Program) (x : List Nat × List Nat) (b : Bundle) : List Nat × List Nat :=
  let hit := fun (o : EngOp) => o.args.any fun a => x.1.contains a && !p.states.contains a
  let deps := b.ops.filter hit
  let clean := (b.ops.filter fun o => !hit o).flatMap fun o => o.dst
  ((x.1.filter fun a => !clean.contains a) ++ deps.flatMap (fun o => o.dst), deps.map (fun o => o.id) ++ x.2)

/-- The operations of the main schedule that depend directly or indirectly on a remote word. -/
def dependents (p : Program) (a : Nat) : List Nat := (p.main.foldl (taintBundle p) ([a], [])).2

/-- The dependency map names every operation of the main schedule that depends directly or indirectly on a remote word not
DEFERRED, and the replay schedule holds it (R263, R272). -/
def depCovers (p : Program) : Bool :=
  let ids := (p.replay.flatMap fun b => b.ops).map fun o => o.id
  (distinct ((p.main.flatMap fun b => b.ops.flatMap fun o => o.args).filter isRemote)).all fun a =>
    p.deferred.contains a || (dependents p a).all fun o => ((assocGet a p.dep).getD []).contains o && ids.contains o

/-- Every channel the program reads or commands has the function it expects (Table 12-6 Binding). -/
def bindingOk (s : State) (p : Program) : Bool :=
  allCh.all fun c => p.binding.all fun b => b.1 != c.val || b.2 == funcNum (s.cell c).cfgFunc

/-- The conditions of Table 12-6 checked again at LP_ACTIVATE: data, remote words, dependency map, binding (R285). -/
def recheckOk (s : State) (p : Program) : Bool :=
  (allOps p).all (fun o => o.args.all readable && o.dst.all writable)
  && decide ((remoteUsed p).length ≤ 1024) && (remoteUsed p).all (remDefined s.eng.rems)
  && decide (depEntries p ≤ 65536) && depCovers p && bindingOk s p

/-- The load check of Table 12-6 (R272). -/
def programOk (s : State) (p : Program) : Bool :=
  decide (4 * (evalCyc p + passCyc p) ≤ 4 * winCyc p.code)
  && decide (p.main.length + p.replay.length ≤ 16384)
  && (allOps p).all (fun o => (match o.code with
      | .ton | .tof | .tp => decide (o.inst < 1024)
      | .ctu | .ctd | .ctud => decide (o.inst < 512)
      | _ => true))
  && decide (timersUsed p ≤ 1024) && decide (countersUsed p ≤ 512) && recheckOk s p

/-! ### Remote inputs (R270, R274 to R278) -/

/-- The status word of a subscription at T_k (R313, Table 13-5). -/
def subStatus (tk period now : Nat) (g : GSub) : Word :=
  packWord [(0, 1, g.valid.toNat), (1, 1, g.isNew.toNat), (2, 1, g.test.toNat), (3, 1, g.never.toNat),
    (4, 1, (match g.confErr with | some t => decide (now < t + 1000000000) | none => false).toNat),
    (5, 1, (match g.pathA with | some t => decide (tk ≤ t) | none => false).toNat),
    (6, 1, (match g.pathB with | some t => decide (tk ≤ t) | none => false).toNat),
    (8, 4, if g.never then 15 else min 15 ((tk - g.evT) / period)), (16, 16, g.stNum)]

/-- CAS_FRESH in ticks (Table 14-1). -/
def casFresh (s : State) : Nat := (setting s.cas.cfg 0x000E0105 2).toNat

/-- The status word of a culvert peer (R346, Table 14-3). -/
def peerStatus (cnt fresh : Nat) (q : CasPeer) : Word :=
  let near := fun (o : Option Nat) => match o with | some t => decide (cnt ≤ t + fresh) | none => false
  packWord [(0, 1, q.valid.toNat), (1, 1, q.never.toNat), (2, 1, (near q.pathA).toNat), (3, 1, (near q.pathB).toNat),
    (4, 1, q.test.toNat), (8, 4, q.pmode), (12, 4, if q.never then 15 else min 15 (cnt - q.lastTick))]

/-- The status word of a remote input now. -/
def remStatus (s : State) : RemRef → Word
  | .goose i => subStatus s.spring.tk (tickPeriod s.spring.code) s.clk s.net.gsub[i]
  | .mirror i => subStatus s.spring.tk (tickPeriod s.spring.code) s.clk s.net.msub[i]
  | .peer i => peerStatus s.spring.cnt (casFresh s) s.cas.peers[i]

/-- Change the remote input of a reference. -/
def modRem (ref : RemRef) (f : RemIn → RemIn) (e : Engine) : Engine :=
  { e with rems := e.rems.map fun r => if r.ref = ref then f r else r }

/-- The remote input of a reference. -/
def remOf (e : Engine) (ref : RemRef) : Option RemIn := e.rems.find? fun r => r.ref == ref

/-- The operations the dependency map lists for the words of a remote input. -/
def remDeps (p : Program) (r : RemIn) : List Nat :=
  (List.range (r.len + 1)).flatMap fun i => (assocGet (r.base + i) p.dep).getD []

/-- The engine applies the value that the state of a remote input gives it: its words change, its dependants are dirty, and a
pass runs (R276). A remote input without dependants, as a DEFERRED one, keeps its prediction in this frame (R270). -/
def applyRemote (p : Program) (r : RemIn) (e : Engine) : Engine :=
  let d := remDeps p r
  if d = [] then e
  else modRem r.ref (fun r => { r with use := r.want, spec := r.state == .speculative })
    { e with memW := memPutAll r.base r.want e.memW, dirty := d ++ e.dirty, pass := true }

/-- What the value of a remote input makes the engine do: recorded only, during the first evaluation; applied at once before
X_k or with no pass running; held otherwise; one equal to the value in use does nothing (R276). -/
def offerRemote (s : State) (ref : RemRef) : Engine :=
  let e := s.eng
  match e.active, remOf e ref with
  | some p, some r =>
    if e.window && e.firstDone && r.want != r.use && (decide (s.now < horizon s p) || !e.pass) then applyRemote p r e else e
  | _, _ => e

/-- No value in use is speculative (R279). -/
def noneSpeculative (e : Engine) : Bool := e.rems.all fun r => !r.spec

/-- W becomes V when it holds no speculative value (R279). -/
def copyV (e : Engine) : Engine :=
  if noneSpeculative e then
    { e with memV := e.memW, blkV := e.blkW, arithV := e.arithW, haveV := true, vIsLast := true
             rems := e.rems.map fun r => { r with vUse := r.use } }
  else { e with vIsLast := false }

/-- C_k has passed, the cutoff not yet run: what arrives now belongs to frame k+1 (R95). -/
def afterCutoff (s : State) : Bool := s.eng.window && decide (cutoff s ≤ s.now)

/-- The value words of a remote input have been received, its frame check not yet (R275, R302). A stopped engine has no
frame whose state they could enter. -/
def remoteSpeculative (ref : RemRef) (vals : List Word) (s : State) : State :=
  match remOf s.eng ref with
  | none => s
  | some r =>
    if r.state = .speculative || !s.eng.running then s
    else
      let e := modRem ref (fun r => { r with back := r.state, prev := r.want, state := .speculative, want := vals }) s.eng
      { s with eng := if afterCutoff s then e else offerRemote { s with eng := e } ref }

/-- The frame check of a remote input has passed (R275, R279): the value is verified, and it is the prediction of the next
frame. At C_k or later it is that alone (R95). -/
def remoteVerified (ref : RemRef) (vals : List Word) (s : State) : State :=
  let e := modRem ref (fun r => { r with state := .verified, want := vals, latest := some vals }) s.eng
  if afterCutoff s then { s with eng := e }
  else
    let e := modRem ref (fun r => { r with
      spec := r.spec && vals != r.use, arrived := if e.window then some vals else r.arrived }) e
    let e := offerRemote { s with eng := e } ref
    { s with eng := if e.window && e.firstDone && !e.pass && !e.vIsLast && noneSpeculative e then copyV e else e }

/-- A frame check fails: a speculative value is reverted to the value before it, which the engine then applies where the
failed one is in use; until it has, nothing computed from the failed value reaches V (R277, R281). -/
def remoteReverted (ref : RemRef) (s : State) : State :=
  match remOf s.eng ref with
  | none => s
  | some r =>
    if r.state ≠ .speculative then s
    else
      let e := modRem ref (fun r => { r with state := r.back, want := r.prev })
        { s.eng with revNew := s.eng.revNew + 1 }
      raiseFault 68 0 { s with eng := if afterCutoff s then e else offerRemote { s with eng := e } ref }

/-! ### Start, activation, evaluation -/

/-- Initial data memory of a program. -/
def initMem (p : Program) : Mem := p.init.foldl (fun m x => memPut x.1 x.2 m) []

/-- What state operations read from: the committed copies, or what the first frame of a program starts from (R285, R286). -/
def baseMem (e : Engine) : Mem := (e.start.map Prod.fst).getD e.memC
def baseBlk (e : Engine) : List (Nat × BlkSt) := (e.start.map Prod.snd).getD e.blkC

/-- The engine starts: all state and all predictions from the program's initial values; what it last committed stays
readable until it commits again (R286, R288). -/
def engineStart (s : State) : State :=
  match s.eng.active with
  | none => s
  | some p =>
    let m := initMem p
    let rems := s.eng.rems.map fun r =>
      { r with state := .predicted, back := .predicted, latest := none, want := [], spec := false, arrived := none
               vUse := [], prev := [], use := [] }
    let eng := { s.eng with
      running := true, fresh := true, start := some (m, []), memV := m, memW := m, blkV := [], blkW := []
      arithOps := [], arithV := 0, arithW := 0, haveV := false, vIsLast := false, window := false, firstDone := false
      pass := false, dirty := [], eccBad := false, blkWait := false, curPass := 0, curEnd := 0, rems := rems }
    let net := { s.net with
      gsub := s.net.gsub.map fun g => { g with never := true }
      msub := s.net.msub.map fun g => { g with never := true } }
    let cas := { s.cas with peers := s.cas.peers.map fun q => { q with never := true } }
    { s with eng := eng, net := net, cas := cas }

/-- The counters of Table 12-10 restart (R285). -/
def clearCounters (e : Engine) : Engine :=
  { e with lastPass := 0, lastFb := false, lastAb := false, lastEnd := 0, peakPass := 0, peakEnd := 0, frames := 0
           cFallback := 0, cLate := 0, cRevert := 0, cReplay := 0, cArith := 0 }

/-- The staged program becomes the running one and the previous program moves to the staging bank (R285). FS70 clears
(Table 12-11). -/
def swapPrograms (online : Bool) (s : State) : State :=
  clearFault 70 { s with eng := { clearCounters s.eng with
    active := s.eng.staged, staged := s.eng.active, deact := false, online := online, actPend := none, revNew := 0 } }

/-- State carried over by the carry map; all other state from the new program's initial values (R285). -/
def carryOver (p : Program) (e : Engine) : Engine :=
  let m := p.carry.foldl (fun m x => memPut x.2 (memGet (baseMem e) x.1) m) (initMem p)
  let b := p.carryBlk.foldl (fun l x => match assocGet x.1 (baseBlk e) with | some v => assocSet x.2 v l | none => l) []
  { e with start := some (m, b), arithOps := [] }

/-- At a frame start an accepted online activation takes effect (R285). -/
def frameSwitch (s : State) : State :=
  match s.eng.actPend, s.eng.staged with
  | some a, some p =>
    let s := swapPrograms a.online s
    { s with eng := { carryOver p s.eng with actCtx := some a.ref } }
  | _, _ => s

/-- The prediction of a remote input: its latest verified value with the status word of this frame; for one never verified
since the engine started, the program's initial value with a status word that is not VALID (R274, R313). -/
def prediction (s : State) (p : Program) (r : RemIn) : List Word :=
  match r.latest with
  | some v => v.take r.len ++ [remStatus s r.ref]
  | none => memRead (initMem p) r.base r.len ++ [remStatus s r.ref &&& ~~~1#32]

/-- The evaluation state of a frame. -/
def evalState (e : Engine) : EvalSt := ⟨baseMem e, baseBlk e, e.memW, e.blkW, e.arithOps, e.fresh⟩

/-- Take over what an evaluation left in the working copies. -/
def takeEval (v : EvalSt) (e : Engine) : Engine :=
  { e with memW := v.mem, blkW := v.blk, arithOps := v.ar, arithW := arithSum v.ar }

/-- A remote input at the start of the first evaluation: it takes its prediction; words of it whose frame check is still
unknown are the first arrival of this frame (R274, R275, R277). -/
def predict (s : State) (p : Program) (r : RemIn) : RemIn :=
  let v := prediction s p r
  let early := r.state == .speculative
  { r with state := if early then .speculative else .predicted, back := .predicted, prev := v, use := v
           want := if early then r.want else v, spec := false, arrived := none }

/-- The first evaluation starts, with every remote input at its prediction (R274). `image` is the local and the system
image from word 0. Its result, the same whatever arrives during it, stands in W. -/
def firstEval (image : List Word) (s : State) : State :=
  match s.eng.active with
  | none => s
  | some p =>
    let rems := s.eng.rems.map (predict s p)
    let m := rems.foldl (fun m r => memPutAll r.base r.use m) (memPutAll 0 image (baseMem s.eng))
    let e := { s.eng with rems := rems, memW := m, blkW := baseBlk s.eng, arithOps := [], window := true, firstDone := false
                          pass := false, dirty := [], haveV := false, vIsLast := false, curPass := 0, curEnd := 0 }
    { s with eng := takeEval (runMain p (evalState e)) e }

/-- Time of work after T_k, in 100 ns units. -/
def workEnd (s : State) : Nat := min 65535 ((s.now - s.spring.tk) / 100)

/-- Apply every recorded or held value that differs from the value in use (R276). -/
def applyHeld' (p : Program) (e : Engine) : Engine :=
  e.rems.foldl (fun e r => if r.want = r.use then e else applyRemote p r e) e

/-- FIRST_EVAL_COMPLETE (R276, R279): the result goes to V; recorded arrivals that differ are applied with one pass. At C_k
or later it is too late (R283). -/
def execFirstEvalComplete (s : State) : Outcome :=
  .next (match s.eng.active with
    | none => s
    | some p =>
      if s.eng.window && !s.eng.firstDone && !afterCutoff s then
        let e := copyV { s.eng with firstDone := true, curEnd := workEnd s }
        { s with eng := applyHeld' p e }
      else s)

/-- REPLAY_PASS_COMPLETE (R276, R279): the pass has executed every dirty operation; a result without speculative values
goes to V, and values held meanwhile start a new pass. A pass still running at C_k is abandoned (R280). -/
def execReplayPassComplete (s : State) : Outcome :=
  .next (match s.eng.active with
    | none => s
    | some p =>
      if s.eng.window && s.eng.firstDone && s.eng.pass && !afterCutoff s then
        let e := takeEval (runReplay p s.eng.dirty (evalState s.eng)) s.eng
        let e := copyV { e with dirty := [], pass := false, curPass := satAdd 8 e.curPass 1, curEnd := workEnd s }
        { s with eng := applyHeld' p e }
      else s)

end Sys2Proof.Machine
end

