-- ==== Sys2Proof/Machine/Cells.lean ====
section
/-! DEFINITION. What a cell does by itself (chapter 6): its configuration at a marker, the safe state, the commands at a
marker, the watchdog, resets, and the RESULT it sends. -/

namespace Sys2Proof.Machine

open Sys2Proof

/-! ### The configuration of a cell (R119, R120, R130) -/

/-- The settings after the shadow registers took effect: the parameters among them (R130). -/
def mergeRegs (cfg : List (Nat × Int)) (regs : List (Nat × BitVec 32)) : List (Nat × Int) :=
  regs.foldl (fun l r => if r.1 = regFunc ∨ regFsOpt ≤ r.1 then l else assocSet (cellRegId r.1) r.2.toNat l) cfg

/-- The function the shadow registers name, when they name one. -/
def shadowFunc (sh : Shadow) : Option Func := (assocGet regFunc sh.regs).bind fun v => funcOfNum v.toNat

/-- The function state of a cell starts again, as after OFF (R119). -/
def clearFunction (c : Cell) : Cell :=
  { c with di := {}, sw := { clamp := c.sw.clamp || (c.sw.on && c.func == .dout) }, ai := {}, ao := {}, hart := {}, fgFail := false
           inj := { val := c.inj.val, stat := c.inj.stat, frozen := c.inj.frozen, lostFrz := c.inj.lostFrz }, lastCmd := 0, out := none }

/-- A function change begins: all three terminals high impedance for at least two ticks (R119). -/
def beginFunction (f : Func) (regs : List (Nat × BitVec 32)) (c : Cell) : Cell :=
  { clearFunction c with func := .off, hiz := some 2, newFunc := some f, cfg := mergeRegs [] regs }

/-- The CELL_CAUSE bits that a function chapter raises: REF_WARN, REF_FAIL, TEST_FAIL, and THERMAL to OVERRANGE (Table 6-12). -/
def funcBits : List (Fin 26) :=
  (List.finRange 26).filter fun b => (decide (7 ≤ b.val) && decide (b.val ≤ 9)) || decide (12 ≤ b.val)

/-- The conditions of a function that ends are absent: nothing measures them any more (R164, R181, R220, log 142). -/
def endFuncConds (ch : Ch) (s : State) : State :=
  funcBits.foldl (fun s b => if hasCond (s.cell ch) b then condOff ch b s else s) s

/-- The power source a function and its SRC select: 0 INT, 1 FLD, 2 LOOP (R48, Table 3-2). -/
def sourceOf (f : Func) (cfg : List (Nat × Int)) : Nat :=
  match f with
  | .aop => 2
  | .dout => if setting cfg 0x00080101 0 = 2 then 1 else 0
  | .aoa => if setting cfg 0x000A0101 0 = 2 then 1 else 0
  | .off | .di | .aiv | .aii | .aih | .xsd => 0

/-- The power source of the function in force in a cell. -/
def powerSource (c : Cell) : Nat := sourceOf c.func c.cfg

/-- Settings of a running function change, SRC among them: a filter restarts when FILT or LONG_N changes (R48, R204). -/
def changeSettings (regs : List (Nat × BitVec 32)) (c : Cell) : Cell :=
  let c' := { c with cfg := mergeRegs c.cfg regs, src := powerSource { c with cfg := mergeRegs c.cfg regs } }
  if cpar c 0x00090102 0 = cpar c' 0x00090102 0 ∧ cpar c 0x00090103 16 = cpar c' 0x00090103 16 then c' else aiRestart 0 c'

/-- What a change of settings does at its marker beside taking effect: conditions end, and a DI input is compared anew. Conditions
that a setting ends: WB_EN = OFF ends OPEN, a supply set to OFF ends SENSOR_SHORT; LOW_WARN
moves SUPPLY_LOW (R152, R153, R178, R199). -/
def settingConds (ch : Ch) (s : State) : State :=
  let c := s.cell ch
  let s1 := if c.func = .di ∧ cpar c 0x00070108 0 = 0 ∧ hasCond c cbOpen then condOff ch cbOpen s else s
  let s2 := if (c.func = .di ∨ c.func = .aii) ∧ supplyOn c = false ∧ hasCond c cbSensorShort then condOff ch cbSensorShort s1 else s1
  if c.func = .dout then refreshSupplyLow ch s2 else if c.func = .di then diThresholds ch s2 else s2

/-- Confirmed shadow registers take effect at the marker (R120). -/
def shadowMarker (ch : Ch) (s : State) : State :=
  let c := s.cell ch
  match c.shadow with
  | some sh =>
    if !sh.ready then s
    else
      let same := match shadowFunc sh with
        | some f => f == c.func && c.hiz.isNone
        | none => true
      if same then
        settingConds ch (s.modCell ch fun c => changeSettings sh.regs { c with shadow := none })
      else
        endFuncConds ch (s.modCell ch fun c => { beginFunction ((shadowFunc sh).getD .off) sh.regs c with shadow := none })
  | none => s

/-- A parameter of the injected sequence that waited for its marker (R211). -/
def injMarker (c : Cell) : Cell :=
  match c.inj.cfgPend with
  | some p => { c with inj := { c.inj with en := p.en, n := p.n, mux := p.mux, cfgPend := none } }
  | none => c

/-- Options of CH_CLEAR_LATCH at the marker; PROTECT clears the CELL_CAUSE bits of the latch too (R145, R165, R174, R194, R221). -/
def clearMarker (ch : Ch) (s : State) : State :=
  let c := s.cell ch
  let s1 := s.modCell ch fun c =>
    let c := if c.clearReq.getLsbD 0 then { c with cnt := 0, di := { c.di with cntTick := 0 } } else c
    let c := if c.clearReq.getLsbD 1 then diClearChatter s c else c
    let c := if c.clearReq.getLsbD 3 then { c with inj := { c.inj with lost := 0 } } else c
    { c with clearReq := 0 }
  if c.clearReq.getLsbD 2 then causeClear ch ((causeBit cbBackfeed ||| causeBit cbRetryExh).setWidth 32) (swUnlatch ch s1) else s1

/-! ### The safe state (R71, R137, R139, R140) -/

/-- The record check before it is applied: its CRC, and its function code against the function in force (R140). -/
def recordOk (c : Cell) : Bool := fsCrcOk c.fs && c.fs.func == c.func

/-- A current output takes a target: at a marker, or `now`, outside one (R137, R225). -/
def aoCommand (ch : Ch) (now : Bool) (target : Int) (s : State) : State :=
  if now then aoTarget ch target s else aoMarker ch (tickPeriod s.spring.code) target s

/-- CLAMP holds for the tick of a clamped VALUE, ALARM while an alarm target is in force (R224). -/
def aoFlags (clamped alarm deen : Bool) (c : Cell) : Cell := { c with ao := { c.ao with clamped := clamped, alarm := alarm, deen := deen } }

/-- De-energise an output: the switch off and the supervision off, or a target of 0 (Table 2-6). -/
def deenergise (ch : Ch) (now : Bool) (s : State) : State :=
  let c := s.cell ch
  if isSw c.func then swDeenergise ch s
  else if isAo c.func then aoCommand ch now 0 (s.modCell ch (aoFlags false false true))
  else s

/-- Drive an output to a value of its fail-safe record or its last command (Table 6-9). Outside a marker a turn-on waits for
the next one (R169). -/
def applyHeld (ch : Ch) (now : Bool) (v : Int) (alarm : Bool) (s : State) : State :=
  let c := s.cell ch
  if isSw c.func then (if now && v != 0 then s.modCell ch fun c => swCommandOn (swEnergise c) else swApply ch (v != 0) (s.modCell ch swEnergise))
  else if isAo c.func then aoCommand ch now v (s.modCell ch (aoFlags false alarm false))
  else s

/-- HOLD keeps the last committed state (Table 6-9); an alarm target that is held stays one (R224). -/
def holdOutput (ch : Ch) (now : Bool) (s : State) : State :=
  let c := s.cell ch
  if isAo c.func then applyHeld ch now c.ao.lastT c.ao.lastAlarm s else applyHeld ch now c.lastCmd false s

/-- The safe state: the stored fail-safe state after a commit since power-up, else de-energised, as a cell that self-calibrates is
too; a record that fails its check is replaced by DEENERGISE with FS_STORE (R71, R140, R250). -/
def applySafe (ch : Ch) (now : Bool) (s0 : State) : State :=
  let s := s0.modCell ch fun c => { c with safe := true }
  let c := s.cell ch
  if !c.committed || c.cal.busy then deenergise ch now s
  else if !recordOk c then deenergise ch now (condOn ch cbFsStore s)
  else
    match c.fs.opt with
    | .deenergise => deenergise ch now s
    | .hold => holdOutput ch now s
    | .value => applyHeld ch now c.fs.value false s

/-! ### Commands at a marker (R128, R138, R143) -/

/-- A VALUE of a current output (R224, R225). -/
def aoValue (ch : Ch) (v : Int) (s : State) : State :=
  let c := s.cell ch
  let t0 := valueTarget c v
  let t := faultTarget c t0
  aoMarker ch (tickPeriod s.spring.code) t.1 (s.modCell ch fun c =>
    { c with ao := { c.ao with lastT := t0.1, lastAlarm := t0.2.2, clamped := t.2.1, alarm := t.2.2, deen := false } })

/-- WD_LANE is absent when the lane stage is no longer expired. -/
def wdNormal (ch : Ch) (s : State) : State :=
  if (s.cell ch).wd = .expired then condOff ch cbWdLane (s.modCell ch fun c => { c with wd := .normal })
  else s.modCell ch fun c => { c with wd := .normal }

/-- A VALUE is applied: the outputs leave the safe state, COMMITTED sets, a hold-over ends (R138, R143). -/
def applyValue (ch : Ch) (v : Int) (s0 : State) : State :=
  let s := wdNormal ch (s0.modCell ch fun c => { c with safe := false, committed := true })
  if isSw (s.cell ch).func then
    let on := v % 2 == 1
    swApply ch on (s.modCell ch fun c => { swEnergise c with lastCmd := if on then 1 else 0 })
  else aoValue ch v s

/-- The end of a hold-over by a SAFE or DEENERGISE command (R143). -/
def endHoldover (ch : Ch) (s : State) : State :=
  s.modCell ch fun c => if c.wd = .holdover then { c with wd := .normal } else c

/-- An OUT frame is applied at its marker (Table 6-8). An expired cell keeps its safe state until a VALUE (R137). -/
def applyOut (ch : Ch) (o : OutFrame) (s : State) : State :=
  match o.kind with
  | .value => applyValue ch o.value s
  | .safe => applySafe ch false (endHoldover ch s)
  | .deenergise => deenergise ch false (endHoldover ch (s.modCell ch fun c => { c with safe := true }))
  | .hold => if (s.cell ch).wd = .expired then applySafe ch false s else holdOutput ch false s

/-- The lane stage is fed; a feed does not restart the timing of a hold-over (R135, R143). -/
def feedLane (clk : Nat) (c : Cell) : Cell := if c.wd = .holdover then c else { c with wdFed := clk }

/-- A cell without outputs is fed by each valid marker; the first one after an expiry makes its lane stage NORMAL again and ends
WD_LANE (R135, R137; DESIGN CHOICE, log 143). -/
def feedInput (ch : Ch) (s : State) : State := wdNormal ch (s.modCell ch (feedLane s.clk))

/-- A marker without a command: the output keeps its state, a current its target; a switch that is commanded on and waits turns on
where R169 holds (R128, R142, R169, R173, R224). -/
def markerIdle (ch : Ch) (s : State) : State :=
  let c := s.cell ch
  if isAo c.func then aoMarker ch (tickPeriod s.spring.code) c.ao.target (s.modCell ch fun c => { c with ao := { c.ao with clamped := false } })
  else if c.sw.cmd && !c.sw.on then swApplyOn ch s else s

/-- The command of a marker at an output cell: de-energised while it self-calibrates, a trim's drive, the OUT frame whose
tag is the marker's, or none (R128, R250, R260). -/
def markerCommand (ch : Ch) (tag : Nat) (s : State) : State :=
  let c := s.cell ch
  let frame := c.out.filter fun o => o.tag == tag
  let s1 := s.modCell ch fun c => { c with out := none }
  let s2 := if frame.isSome then s1.modCell ch (feedLane s.clk) else s1
  if c.cal.busy then deenergise ch false s2
  else match c.cal.trim, frame with
    | some t, _ => aoMarker ch (tickPeriod s.spring.code) t.drive (s2.modCell ch (aoFlags false false false))
    | none, some o => applyOut ch o s2
    | none, none => markerIdle ch s2

/-! ### Sampling and the RESULT (R121, R127, R144) -/

/-- Sampling at the marker, by the function in force. -/
def cellSample (s : State) (x : CellSample) (c : Cell) : Cell :=
  let span := s.clk - c.mkClk
  match c.func with
  | .off => c
  | .di => diSample s.now x.vq x.iq.toNat c
  | .dout | .xsd => swSample span x.vq x.iq x.iPk x.pMv.toNat x.enUj c
  | .aiv | .aii | .aih => aiSample x.box x.sinc c
  | .aoa | .aop => aoSample span x.iMeas x.vTerm x.sat c

/-- The RESULT of the tick (Tables 7-5, 8-8, 9-13, 10-9). -/
def cellResult (clk : Nat) (c : Cell) : ResFrame :=
  match c.func with
  | .di => ⟨diValue c, diAux c, c.cal.selfOk, (diTakeCount c.di).1, c.di.firstTs⟩
  | .dout | .xsd => ⟨swValue clk c, swAux c, true, c.sw.trims, none⟩
  | .aiv | .aii | .aih => ⟨intWord c.ai.value, aiAux c, !c.ai.inv && !c.ai.held, 0, none⟩
  | .aoa | .aop => ⟨intWord c.ao.iMeas, aoAux c, true, c.ao.satTicks, none⟩
  | .off => ⟨0, 0, false, 0, none⟩

/-- The flags of a tick start again after its result is formed. -/
def newTick (c : Cell) : Cell :=
  { c with di := diNewTick c.di, inj := { c.inj with ran := c.inj.running } }

/-- Inputs are sampled in this mode: not in BOOT or SELFCAL, and in CONFIGURE once the cell is configured (Table 4-1). -/
def sampledIn (m : Mode) (c : Cell) : Bool := decide (3 < modeNum m) || (m == .m3 && c.joined)

/-- What a cell measures at a marker; a DO cell compares P with its bands (R121, R178). -/
def sampleCell (ch : Ch) (x : CellSample) (s : State) : State :=
  if sampledIn s.md.mode (s.cell ch) then
    let s1 := s.modCell ch (cellSample s x)
    if (s1.cell ch).func = .dout then swSupply ch x.pMv.toNat s1 else s1
  else s

/-- The RESULT of a tick starts on its lane, before every other frame of the cell (R121, R126). A function OFF, and a tick whose
inputs are not sampled, have no result, so no value is verified for the tick (Tables 4-1, 6-1, 6-11). -/
def launchResult (clk : Nat) (m : Mode) (c : Cell) : Cell :=
  if c.func = .off ∨ sampledIn m c = false then { c with res := none, valid := false, stale := c.stale && c.func != .off }
  else cellLaunch clk (newTick { c with res := some (cellResult clk c), lane := startUp ⟨.result, 0, 1, clk⟩ c.lane })

/-- One of the ticks of high impedance has passed, counted from the marker after the one that began it (R119). -/
def hizTick (c : Cell) : Cell := { c with hiz := c.hiz.map fun n => n - 1 }

/-- A marker reaches a cell (R22, R120, R121, R128, R135). `tag` is the marker's tick tag. -/
def cellMarker (ch : Ch) (tag : Nat) (x : CellSample) (s : State) : State :=
  let s1 := sampleCell ch x (s.modCell ch fun c => { c with pstate := 0 })
  let s2 := clearMarker ch (shadowMarker ch (s1.modCell ch fun c => injMarker (calMarker (hizTick c))))
  let s3 := if isOut (s2.cell ch).func then markerCommand ch tag s2 else feedInput ch s2
  s3.modCell ch fun c =>
    launchResult s.clk s.md.mode { c with mkTag := some tag, mkAt := some s.now, mkClk := s.clk, missed := false }

/-- A tick without a marker at a running cell: it neither samples nor applies outputs, an OUT frame for that marker is discarded, an
analogue filter restarts, and a current that is not at its target moves on (R128, R129, R137, R204). -/
def cellMissed (ch : Ch) (s : State) : State :=
  let s1 := s.modCell ch fun c => { aiRestart 1 c with missed := true, res := none, out := none, pstate := 0 }
  if isAo (s1.cell ch).func ∧ (s1.cell ch).ao.applied ≠ aoLimited (s1.cell ch).ao then aoRamp ch s1 else s1

/-! ### The watchdog (R135 to R137, R143) -/

/-- The lane stage expires: WD = EXPIRED and WD_LANE; an output cell applies its safe state (R137). -/
def wdExpire (ch : Ch) (s : State) : State :=
  let s1 := condOn ch cbWdLane (s.modCell ch fun c => { c with wd := .expired, pstate := 0 })
  if isOut (s1.cell ch).func then applySafe ch true s1 else s1

/-- WD_LANE_EXPIRE (R137). In a hold-over the lane stage is timed as HOLD_TIME. -/
def execWdLaneExpire (ch : Ch) (s : State) : Outcome :=
  .next (if (s.cell ch).running && (s.cell ch).wd == .normal then wdExpire ch s else s)

/-- HOLDOVER_EXPIRE: HOLD_TIME is over, and the cell proceeds as on lane-stage expiry (R143). -/
def execHoldoverExpire (ch : Ch) (s : State) : Outcome :=
  .next (if (s.cell ch).running && (s.cell ch).wd == .holdover then wdExpire ch s else s)

/-- An output cell enters hold-over and keeps its last committed state (R143). -/
def enterHold (ch : Ch) (secs : Nat) (s : State) : State :=
  if isOut (s.cell ch).func then
    condOff ch cbWdLane (s.modCell ch fun c => { c with wd := .holdover, holdTime := secs, holdAt := s.clk, wdFed := s.clk })
  else s

/-- OUT_FRAME_RECEIVED: a cell holds the OUT frame that passes its check for the marker with its tag; any other is discarded
(R124, R128). -/
def execOutFrameReceived (ch : Ch) (r : LaneRx) (s : State) : Outcome :=
  .next (s.modCell ch fun c =>
    match rxFrame r with
    | some (.out o) => if c.running ∧ c.lane.state = .up then { c with out := some o, pstate := 0 } else c
    | _ => c)

/-! ### Power and resets (R41, R49, R133, R140, R141, R254) -/

/-- A cell powers up: outputs de-energised, calibration set and fail-safe record checked; the record needs a CRC that
matches, since every stored function code of the model is a defined one (R140, R141, R254). A supply loss keeps its own
cause for the next HELLO (R49, R232). -/
def powerUpCell (ch : Ch) (src : Nat) (s : State) : State :=
  let c := s.cell ch
  if c.powered then s
  else
    let why := if c.whyNext = 3 then 3 else 0
    let s1 := s.modCell ch fun c => { resetCell why c with powered := true, src := src }
    condSet ch cbFsStore (!fsCrcOk (s1.cell ch).fs) (checkSet ch s1)

/-- The source the configuration in force gives a channel; a channel without a configuration may start from any source its terminals
have, and never falls back from one it is given (R48, R50, log 140). -/
def sourceAllowed (c : Cell) (src : Nat) : Bool := c.cfgFunc == .off || sourceOf c.cfgFunc c.cfgPar == src

/-- CELL_POWER_UP, from the coupler, which must run, or from the field supply (R49, R50, R52). -/
def execCellPowerUp (ch : Ch) (fld : Bool) (s : State) : Outcome :=
  .next (if sourceAllowed (s.cell ch) (if fld then 1 else 0) && (fld || s.pwr.couplers) then powerUpCell ch (if fld then 1 else 0) s else s)

/-- AOP_LOOP_POWER_UP: the loop powers the cell (R232). -/
def execAopLoopPowerUp (ch : Ch) (s : State) : Outcome :=
  .next (if sourceAllowed (s.cell ch) 2 then powerUpCell ch 2 s else s)

/-- A powered cell resets by itself with the cause `why` of Table 6-13 and the CELL_CAUSE bit that goes with it. -/
def cellResets (ch : Ch) (why : Nat) (s : State) : State :=
  if !(s.cell ch).powered then s
  else
    let s1 := if why = 2 then causePulse ch cbWdSeq s else if why = 3 then causePulse ch cbCellPwr s else s
    refreshLoss (s1.modCell ch (resetCell why))

/-- CELL_RESET (R133). -/
def execCellReset (ch : Ch) (why : BitVec 4) (s : State) : Outcome := .next (cellResets ch why.toNat s)

/-- WD_SEQ_EXPIRE: the sequencer stage resets the cell (R136). -/
def execWdSeqExpire (ch : Ch) (s : State) : Outcome := .next (cellResets ch 2 s)

/-- CELL_SUPPLY_LOSS: the field supply or the loop that powers the cell has failed; the cell resets and is without power. A cell on INT
holds its state (R49, R51, R180, R232). -/
def execCellSupplyLoss (ch : Ch) (s : State) : Outcome :=
  .next (if (s.cell ch).src = 0 then s else (cellResets ch 3 s).modCell ch fun c => { c with powered := false })

/-- CELL_POWER_STATE_ENTER: the power state of a horizon (Table 6-2). -/
def execCellPowerStateEnter (ch : Ch) (horizonNs : Nat) (s : State) : Outcome :=
  .next (s.modCell ch fun c => if c.running then
      { c with pstate := if horizonNs < 1000 then 1 else if horizonNs < 20000 then 2 else 3 } else c)

/-! ### STATUS frames (R144) -/

/-- STATUS_SEND: the cell starts a STATUS frame, or it waits for its turn (R126). -/
def execStatusSend (ch : Ch) (s : State) : Outcome :=
  .next (s.modCell ch fun c => if c.running ∧ c.lane.state = .up then
      { c with lane := startUp ⟨.status, 0, 1, s.clk⟩ c.lane } else c)

/-- STATUS_RECEIVED: CELL_TEMP, and CELL_SUPPLY in 20 mV units and mW (Table 6-10). -/
def execStatusReceived (ch : Ch) (dieT swT p20mv : Int) (mw : Nat) (ok : Bool) (s : State) : Outcome :=
  .next (if !(ok && (s.cell ch).lane.state == .up && upIs .status (s.cell ch).lane) then s
    else s.modCell ch fun c => endUp s.clk { c with
      dieT := dieT, swT := swT, pV := p20mv * 20
      temp := packWord [(0, 16, intBits 16 dieT), (16, 16, intBits 16 swT)]
      supply := packWord [(0, 16, intBits 16 p20mv), (16, 16, mw)] })

/-- FUNCTION_START's change in the cell: the new function starts after its two ticks, with a fail-safe record of its own,
from the power source it selects, with its shunt connected in AII and at the 3 MHz step of a de-energised AOP cell (R48, R119, R198,
R211, R230, R241). CELL_CNT counts from here, at a rejoin after a cell reset too (R160; DESIGN CHOICE, log 144). -/
def startFunction (c : Cell) : Cell :=
  match c.newFunc with
  | some f =>
    let c := { c with func := f, hiz := none, newFunc := none, cnt := 0
                      fs := if c.fs.func = f then c.fs else fsRecord f .deenergise 0
                      ai := { c.ai with shuntOpen := f != Func.aii }, ao := { c.ao with clk := if f = Func.aop then 4 else 0 } }
    aiRestart 0 { c with inj := { c.inj with en := false, cfgPend := none }, src := powerSource c }
  | none => c

end Sys2Proof.Machine
end

