-- ==== Sys2Proof/Machine/Params.lean ====
section
/-! DEFINITION. The parameters of a channel by its function: IDs, ranges, defaults (Tables 7-1, 8-1, 9-1, 10-1, R396, R405). -/

namespace Sys2Proof.Machine

open Sys2Proof

/-- A named parameter: its ID word, its range in value words, its default, the step its value must be a multiple of, a
value outside the range that is allowed too, and whether its value word is signed. -/
structure Param where
  id : Nat
  lo : Int
  hi : Int
  dflt : Int
  step : Nat := 1
  also : Option Int := none
  signed : Bool := false
  deriving DecidableEq, Repr

/-- The value of a parameter lies in its range. -/
def paramOk (p : Param) (v : Int) : Bool :=
  (decide (p.lo ≤ v) && decide (v ≤ p.hi) && v % (p.step : Int) == 0) || p.also == some v

/-- An ON or OFF parameter. -/
def flag (id : Nat) (dflt : Int) : Param := ⟨id, 0, 1, dflt, 1, none, false⟩

/-- An integer parameter. -/
def range (id : Nat) (lo hi dflt : Int) : Param := ⟨id, lo, hi, dflt, 1, none, false⟩

/-! ### Channel parameters (Tables 7-1, 8-1, 9-1, 10-1) -/

/-- WD_TIME (R135, R396). -/
def wdParam : Param := range 0x1 1 2000 20

/-- Table 7-1. -/
def diParams : List Param :=
  [range 0x00070101 0 6 1, range 0x00070102 50 3000 110, range 0x00070103 40 2995 90, range 0x00070104 0 2 2,
   range 0x00070105 5 300 30, range 0x00070106 0 2 0, flag 0x00070107 0, flag 0x00070108 0, range 0x00070109 1 8 2,
   range 0x0007010A 1 1000 10, range 0x0007010B 0 10000 0, range 0x0007010C 0 10000 0,
   { range 0x0007010D 2 250 0 with also := some 0 }, range 0x0007010E 1 600 10, range 0x0007010F 1 600 20,
   flag 0x00070110 0, flag 0x00070111 0, range 0x00070112 0 2 0, range 0x00070113 1 1000 100,
   range 0x00070114 1 60 10, flag 0x00070115 1]

/-- Rows of Table 8-1 for both DO and XSD. -/
def swParams : List Param :=
  [range 0x00080106 1 200 20, range 0x00080107 1 1000 50, range 0x00080108 0 15 3, range 0x00080109 1 500 10,
   flag 0x0008010A 0, flag 0x0008010B 0, range 0x0008010C 2 100 10, range 0x0008010D 1 1000 10, range 0x0008010E 1 1000 10]

/-- Table 8-1 for DO. -/
def doParams : List Param :=
  [range 0x00080101 0 2 0, range 0x00080102 2 15 10, range 0x00080103 2 10 4] ++ swParams ++
  [range 0x0008010F 1 200 10, flag 0x00080110 0, flag 0x00080111 1]

/-- Table 8-1 for XSD. -/
def xsdParams : List Param :=
  [range 0x00080104 10 160 100, range 0x00080105 10 190 160] ++ swParams ++
  [range 0x00080112 50 1000 200, range 0x00080113 24 300 264, range 0x00080114 1 1000 50, range 0x00080115 1 500 20,
   range 0x00080116 1 10000 100, flag 0x00080117 0, range 0x00080118 1 60 10, range 0x00080119 1 8 2]

/-- Table 9-1 for every analogue input. -/
def aiParams : List Param := [flag 0x00090101 0, range 0x00090102 0 2 0, range 0x00090103 1 256 16]

/-- HART rows of Table 10-1. -/
def hartParams : List Param :=
  [flag 0x000A0109 0, range 0x000A010A 5 20 5, range 0x000A010B 0 100 20, range 0x000A010C 5 100 30, flag 0x000A010D 0]

/-- Table 10-1 for a current output; ALM_LO has its own lower limit in AOP. -/
def aoParams (almLoMin : Int) : List Param :=
  [range 0x000A0103 0 10000 0, range 0x000A0104 1 1000 10, flag 0x000A0105 0, range 0x000A0106 almLoMin 3600 3600,
   range 0x000A0107 21000 24000 21600, range 0x000A0108 0 2 0] ++ hartParams

/-- The parameters a function has, WD_TIME first, in ascending ID order (R405, Table 17-3). -/
def funcParams : Func → List Param
  | .off => [wdParam]
  | .di => wdParam :: diParams
  | .dout => wdParam :: doParams
  | .xsd => wdParam :: xsdParams
  | .aiv | .aih => wdParam :: aiParams
  | .aii => wdParam :: aiParams ++ [flag 0x00090104 0, flag 0x00090105 1] ++ hartParams
  | .aoa => wdParam :: range 0x000A0101 0 2 0 :: aoParams 0
  | .aop => wdParam :: range 0x000A0102 9 36 32 :: aoParams 3200

/-- The parameter of an ID in a table. -/
def findParam (ps : List Param) (id : Nat) : Option Param := ps.find? fun p => p.id == id

/-- A parameter of a setting list, its table default where it is not set. -/
def valueIn (ps : List Param) (cfg : List (Nat × Int)) (id : Nat) : Int :=
  setting cfg id (((findParam ps id).map fun p => p.dflt).getD 0)

/-- Two settings of a function give every parameter the same value. -/
def sameSettings (f : Func) (a b : List (Nat × Int)) : Bool :=
  (funcParams f).all fun p => setting a p.id p.dflt == setting b p.id p.dflt

end Sys2Proof.Machine
end

