-- ==== Sys2Proof/Machine/Lanes.lean ====
section
/-! DEFINITION. The core end of the coupler lanes (chapter 6): lane states, frames and their answers, configuration
writes, HELLO and the rejoin of a cell, results and events. -/

namespace Sys2Proof.Machine

open Sys2Proof

/-! ### Configuration writes (R130 to R132) -/

/-- Change the lane of a channel. -/
def modLane (ch : Ch) (f : Lane → Lane) (s : State) : State := s.modCell ch fun c => { c with lane := f c.lane }

/-- The configuration frame, UCODE or HOLDOVER that awaits its answer. -/
def awaited (l : Lane) : Option TxFrame := (l.tx.filter fun t => waitsForOut t.frame) <|> l.txHeld

/-- That frame is over: executed or given up, the next one takes the next SEQ (R131). -/
def endAwaited (l : Lane) : Lane :=
  { l with tx := l.tx.filter fun t => !waitsForOut t.frame, txHeld := none
           seqTx := if (awaited l).isSome then (l.seqTx + 1) % 16 else l.seqTx }

/-- The next frame of the write under way starts when no frame to the cell awaits its answer, the lane is UP, and the last HELLO
has not shown a cell without microcode (R81, R126). -/
def launchWrite (clk : Nat) (c : Cell) : Cell :=
  match c.lane.write.bind fun w => w.frames.head? with
  | some f =>
    if c.lane.state = .up ∧ c.lane.tx = none ∧ c.lane.txHeld = none ∧ (c.running || c.rstFlag) = true then
      { c with lane := { c.lane with tx := some ⟨f, c.lane.seqTx, 1, clk⟩ } }
    else c
  | none => c

/-- APPLY takes the write-sequence number (Table 6-5). -/
def numberApply (n : Nat) : LaneFrame → LaneFrame
  | .apply _ => .apply n
  | f => f

/-- The next waiting write begins when none is under way; the cell discards what an earlier one left in its shadow registers (R130). -/
def nextWrite (clk : Nat) (c : Cell) : Cell :=
  match c.lane.write, c.lane.writes with
  | none, w :: r =>
    launchWrite clk { c with shadow := none, lane := { c.lane with
      write := some { w with frames := w.frames.map (numberApply c.lane.applyN), since := clk }, writes := r
      applyN := (c.lane.applyN + 1) % 65536 } }
  | _, _ => c

/-- A configuration write starts, or waits for those before it. -/
def startWrite (ch : Ch) (w : CfgWrite) (s : State) : State :=
  s.modCell ch fun c => nextWrite s.clk { c with lane := { c.lane with writes := c.lane.writes ++ [w] } }

/-- The write under way is over. -/
def endWrite (clk : Nat) (c : Cell) : Cell := nextWrite clk { c with lane := { c.lane with write := none } }

/-- The answer of the command a write belongs to: its completion event, or the reply of an immediate command (R132,
Table 17-3). A rejoin answers nobody. -/
def writeAnswer (w : CfgWrite) (status reason : Nat) (payload : List Word) (s : State) : State :=
  match w.ref with
  | none => s
  | some r =>
    if w.immediate then answer ⟨r.src, r.alive, r.tag⟩ status (if reason = 0 then payload else [reasonWord r.opcode reason]) s
    else finishOp r status reason payload s

/-- What a write that does not succeed leaves: the configuration in force, no pending entry, no exchange (R132, R255). -/
def undoWrite (w : CfgWrite) (c : Cell) : Cell :=
  match w.kind with
  | .config _ => { c with accFunc := c.cfgFunc, accPar := c.cfgPar }
  | .calEntry => endTrimWrite { c with cal := { c.cal with pendW := none } }
  | .hart => { c with hart := { c.hart with ex := none } }
  | .failsafe _ _ | .inj _ | .holdover => c

/-- The write under way does not succeed: the cell keeps no shadow registers of it, and the next write begins (R130, R132). -/
def dropWrite (clk : Nat) (w : CfgWrite) (c : Cell) : Cell :=
  endWrite clk (undoWrite w { c with shadow := none, lane := endAwaited c.lane })

/-- The registers that configure a rejoining cell: FUNC and every parameter of its configuration (R81, R119). -/
def rejoinWrite (c : Cell) : CfgWrite :=
  { kind := .config c.cfgFunc
    frames := writeFrames ((regFunc, BitVec.ofNat 32 (funcNum c.cfgFunc)) ::
      (funcParams c.cfgFunc).map fun p => (cellRegAddr p.id, intWord (setting c.cfgPar p.id p.dflt)))
    since := 0, func := c.cfgFunc, pars := c.cfgPar, ref := none, immediate := false }

/-- The cell carries the configuration in force. -/
def carriesConfig (c : Cell) : Bool :=
  c.func == c.cfgFunc && c.newFunc.isNone && sameSettings c.func c.cfg c.cfgPar

/-- The write that configures a rejoining cell is under way or waits. -/
def rejoining (l : Lane) : Bool :=
  (l.write.toList ++ l.writes).any fun w => w.ref.isNone && w.kind == .config w.func

/-- A cell whose write failed after its marker carries what the command asked for: it is given the configuration in force again
(R132). -/
def restoreConfig (ch : Ch) (s : State) : State :=
  let c := s.cell ch
  if c.running && c.joined && c.lane.write.isNone && !carriesConfig c then startWrite ch (rejoinWrite c) s else s

/-- The write under way fails with a lane reason; it never completes with OK across a lane loss or reset. A calibration entry that
could not be written is a failed store write; a reset has set its condition in the cell (R131, R132, R255). -/
def failOne (ch : Ch) (reason : Nat) (s : State) : State :=
  match (s.cell ch).lane.write with
  | none => s
  | some w =>
    let s1 := s.modCell ch (dropWrite s.clk w)
    writeAnswer w stFault reason [] (if w.kind = .calEntry ∧ reason ≠ rcLaneReset then condOn ch cbStore s1 else s1)

/-- A write fails; the configuration in force stays. -/
def failWrite (ch : Ch) (reason : Nat) (s : State) : State := restoreConfig ch (failOne ch reason s)

/-- Every write of a lane fails, those that wait included (R132). -/
def failWrites (ch : Ch) (reason : Nat) (s : State) : State :=
  let l := (s.cell ch).lane
  restoreConfig ch ((l.write.toList ++ l.writes).foldl (fun s _ => failOne ch reason s) s)

/-- A cell that is loaded and calibrated is configured: nothing to do when it already carries its configuration (R81, R83). -/
def rejoinConfig (ch : Ch) (s : State) : State :=
  let c := s.cell ch
  if c.joined || !c.running || c.cal.busy || modeNum s.md.mode ≤ 2 || rejoining c.lane then s
  else if carriesConfig c then s.modCell ch fun c => { c with joinNext := true }
  else startWrite ch (rejoinWrite c) s

/-- The same once the configuration load that start-up began has ended: until then no configuration is in force for a cell that
the load has not named yet (R83, R473). -/
def rejoinLoaded (ch : Ch) (s : State) : State := if s.md.loading then s else rejoinConfig ch s

/-- The configuration of a write is in force at the core, and its command completes with DEFERRED = 0 (R132, R501). A
rejoining cell is ready to join (R81). -/
def configDone (ch : Ch) (w : CfgWrite) (s : State) : State :=
  let s1 := s.modCell ch (endWrite s.clk)
  if w.ref = none then rejoinConfig ch s1
  else refreshLoss (writeAnswer w stOk 0 [0] (s1.modCell ch fun c => { c with cfgFunc := w.func, cfgPar := w.pars }))

/-- A confirmed configuration write completes at the marker; one that changes FUNC waits for the start of the new function
(R119, R130, R405). -/
def writeMarker (ch : Ch) (s : State) : State :=
  let c := s.cell ch
  match c.lane.write with
  | some w =>
    match w.kind, w.frames with
    | .config _, [] => if c.func = w.func ∧ c.hiz = none then configDone ch w s else s
    | _, _ => s
  | none => s

/-- All frames of a write are confirmed (R130, R139, R211, R238). A fail-safe record is stored for the function it was written
for (R139, R140). -/
def writeConfirmed (ch : Ch) (w : CfgWrite) (s : State) : State :=
  match w.kind with
  | .config _ => s
  | .failsafe o v =>
    writeAnswer w stOk 0 [] (condOff ch cbFsStore (s.modCell ch fun c => endWrite s.clk { c with fs := fsRecord w.func o v }))
  | .calEntry | .holdover => s.modCell ch (endWrite s.clk)
  | .inj p =>
    writeAnswer w stOk 0 [] (noteConfig ((w.ref.map fun r => r.src).getD .cfg)
      (s.modCell ch fun c => endWrite s.clk { c with inj := { c.inj with cfgPend := some p } }))
  | .hart => (hartPhase ch .waitQuiet s).modCell ch (endWrite s.clk)

/-- The cell store could not be written: STORE. The manual does not say what a fail-safe record then holds: its check value is a
free value (R139, R255, log 139). -/
def writeStoreFails (ch : Ch) (w : CfgWrite) (s : State) : State :=
  let s1 := match w.kind with
    | .failsafe _ _ => (s.modCell ch fun c => { c with fs := { c.fs with crc := BitVec.ofNat 16 (Config.free s.free) } }).drawFree
    | .config _ | .calEntry | .inj _ | .hart | .holdover => s
  writeAnswer w stFault rcStore [] (condOn ch cbStore (s1.modCell ch (dropWrite s.clk w)))

/-- The frame that awaited its answer is confirmed: the next one follows. -/
def confirmFrame (ch : Ch) (s : State) : State :=
  match (s.cell ch).lane.write with
  | none => s
  | some w =>
    let w' := { w with frames := w.frames.drop 1 }
    let s1 := s.modCell ch fun c => launchWrite s.clk { c with lane := { endAwaited c.lane with write := some w' } }
    if w'.frames.isEmpty then writeConfirmed ch w' s1 else s1

/-- A CFGA answers a frame: its address, and the data it wrote; APPLY is answered with its number (R130, log 138). -/
def answersFrame (a : Nat) (d : BitVec 32) : LaneFrame → Bool
  | .cfgw a' d' => a == a' && d == d'
  | .cfgr a' => a == a'
  | .apply n => a == n
  | .out _ | .holdover _ | .ucode _ | .result | .event | .cfga _ _ _ | .hello | .status => false

/-- CFGA_RECEIVED: it confirms the frame that awaits it, by SEQ, address and data; `stored` is the store status it carries (R130,
R131, R139). -/
def execCfgaReceived (ch : Ch) (r : LaneRx) (s : State) : Outcome :=
  .next (match rxFrame r, awaited (s.cell ch).lane, (s.cell ch).lane.write with
    | some (.cfga a d stored), some t, some w =>
      if (s.cell ch).lane.state ≠ .up ∨ t.seq ≠ rxSeq r ∨ answersFrame a d t.frame = false then s
      else
        let s1 := s.modCell ch fun c => if c.lane.up.any fun u => frameType u.frame == 0xA then endUp s.clk c else c
        if stored then confirmFrame ch s1 else writeStoreFails ch w s1
    | _, _, _ => s)

/-! ### Failures of frames (R123, R127, R131) -/

/-- A lane goes DOWN; its LANE condition is present until it is UP again (R123, R132, R134). -/
def laneDown (ch : Ch) (s : State) : State :=
  refreshLoss (causeOn ch cbLane (s.modCell ch (dropLane s.clk)))

/-- All four lanes of the field die of a channel are DOWN, within 1 ms of each other (Table 18-1 FS38, log 47). -/
def dieDown (ch : Ch) (s : State) : Bool :=
  allCh.all fun c => c.val / 4 != ch.val / 4 ||
    ((s.cell c).lane.state == .down && decide (s.clk ≤ (s.cell c).lane.downAt + 1000000))

/-- A lane that was UP or in TRAIN goes DOWN, and FS38 follows (R123, R414). -/
def laneLost (ch : Ch) (s : State) : State :=
  if (s.cell ch).lane.state = .down then s
  else
    let wasUp := (s.cell ch).lane.state == .up
    let s1 := if wasUp then laneDown ch s else s.modCell ch (dropLane s.clk)
    if wasUp && dieDown ch s1 then
      raiseFault 38 0 { s1 with flt := { s1.flt with dieDown := (ch.val / 4) :: s1.flt.dieDown } }
    else s1

/-- A lane of a field die is UP again: FS38 is absent once that holds for every die that raised it (Table 18-1). -/
def dieBack (ch : Ch) (s : State) : State :=
  if s.flt.dieDown.contains (ch.val / 4) then
    let rest := s.flt.dieDown.filter fun d => d != ch.val / 4
    let s1 := { s with flt := { s.flt with dieDown := rest } }
    if rest.isEmpty then clearFault 38 s1 else s1
  else s

/-- A frame fails all its attempts: LANE sets, FAILED counts, and the eighth tick in a row with failed frames takes the
lane DOWN (R123, R127, Table 6-14). -/
def frameFailed (ch : Ch) (why : Nat) (s : State) : State :=
  let s1 := modLane ch (fun l => { l with
    failed := satAdd 8 l.failed 1, lastCause := why, failTick := true, fails := if l.failTick then l.fails else l.fails + 1 }) s
  let s2 := causePulse ch cbLane s1
  if 8 ≤ (s2.cell ch).lane.fails then laneLost ch s2 else s2

/-- Attempts of a frame (Table 6-6). A CFGA is not resent by itself: the headgate resends the frame it answers (R131). -/
def attempts : LaneFrame → Nat
  | .result | .out _ => 2
  | .cfga _ _ _ => 1
  | .cfgw _ _ | .cfgr _ | .apply _ | .holdover _ | .ucode _ | .event | .hello | .status => 3

/-- What waits for the direction to the cell goes on once it is free. -/
def freeTx (clk : Nat) (c : Cell) : Cell := launchWrite clk { c with lane := endTx c.lane }

/-- A frame to the cell has used all its attempts. A HOLDOVER that fails leaves the cell without hold-over (R131); a
configuration frame ends its write; a microcode load fails with UCODE (Table 6-6). -/
def txFails (ch : Ch) (f : LaneFrame) (why : Nat) (s : State) : State :=
  match f with
  | .ucode _ => condOn ch cbUcode (frameFailed ch why (modLane ch endAwaited s))
  | .cfgw _ _ | .cfgr _ | .apply _ | .holdover _ => failWrite ch why (frameFailed ch why s)
  | .out _ | .result | .hello | .event | .cfga _ _ _ | .status => (frameFailed ch why s).modCell ch (freeTx s.clk)

/-- A RESULT that waits for its answer is no longer waiting. -/
def dropResult (clk : Nat) (c : Cell) : Cell := if c.lane.up.any fun t => t.frame == .result then endUp clk c else c

/-- An analogue input counts its ticks without a good value (R219). -/
def countBad (good : Bool) (c : Cell) : Cell := if isAi c.func && !good then { c with cnt := satAdd 64 c.cnt 1 } else c

/-- A RESULT is missing or failed both attempts: the last verified value stays, stale for the tick (R127). -/
def resultStale (ch : Ch) (why : Nat) (s : State) : State :=
  frameFailed ch why (s.modCell ch fun c =>
    dropResult s.clk (countBad false { c with stale := true, gotRes := true, valid := false, res := none }))

/-- The KIND of a queue entry, and the pair of a LOST summary (Table 19-6). -/
def soeOfDi (s : State) (ch : Ch) (e : DiEvent) : List SoeEntry :=
  let mk (ts : Option Nat) (kind low : Nat) : SoeEntry := ⟨ts, s.tq, e.st, e.late, soeTest s e.test, kind, ch.val, low⟩
  match e.kind with
  | .edge => [mk e.ts 0 0]
  | .chatterOn => [mk e.ts 1 (e.n % 65536)]
  | .chatterOff => [mk e.ts 2 (e.n % 65536)]
  | .lost => [mk e.ts 3 (e.n % 65536), mk e.ts2 4 0]

/-- The oldest entry of the event queue reaches the headgate, or is dropped after its attempts (R159, R449, Table 6-6). -/
def takeEdge (ch : Ch) (ok : Bool) (s : State) : State :=
  match (s.cell ch).di.queue with
  | [] => s
  | e :: r =>
    let s1 := s.modCell ch fun c => { c with di := { c.di with queue := r }, tse := diTse c }
    if ok then (soeOfDi s ch e).foldl (fun s e => soeWrite e s) s1 else frameFailed ch rcLaneCrc s1

/-- The oldest injected result reaches its registers, or is lost (R215). -/
def takeInj (ch : Ch) (ok : Bool) (s : State) : State :=
  match (s.cell ch).inj.sent with
  | [] => s
  | r :: rest =>
    let s1 := s.modCell ch fun c => { c with inj := { c.inj with sent := rest } }
    if ok then s1.modCell ch fun c => { c with inj := injArrive r c.inj }
    else frameFailed ch rcLaneCrc (s1.modCell ch fun c => { c with inj := { c.inj with ovr := true } })

/-- An EVENT frame is dropped: with it the oldest edge, or the oldest injected result, that it carried. -/
def eventLost (ch : Ch) (why : Nat) (s : State) : State :=
  if !(s.cell ch).di.queue.isEmpty then takeEdge ch false s
  else if !(s.cell ch).inj.sent.isEmpty then takeInj ch false s
  else frameFailed ch why s

/-- A frame to the core has used all its attempts; HELLO repeats without limit (Table 6-6, R127). -/
def upFails (ch : Ch) (f : LaneFrame) (why : Nat) (s : State) : State :=
  match f with
  | .result => resultStale ch why s
  | .hello | .cfga _ _ _ => s.modCell ch (endUp s.clk)
  | .event => (eventLost ch why s).modCell ch (endUp s.clk)
  | .status | .out _ | .cfgw _ _ | .cfgr _ | .apply _ | .holdover _ | .ucode _ => (frameFailed ch why s).modCell ch (endUp s.clk)

/-- No ACK: the sender resends while attempts remain, its SEQ unchanged, else the frame fails (R125, R131). The reason is the lane
cause. -/
def resend (ch : Ch) (toCell : Bool) (why : Nat) (s : State) : State :=
  let l := (s.cell ch).lane
  match (if toCell then l.tx else l.up) with
  | none => s
  | some t =>
    if t.tries < attempts t.frame then
      modLane ch (fun l =>
        let l := { l with retry := satAdd 8 l.retry 1 }
        if toCell then { l with tx := some { t with tries := t.tries + 1 } }
        else { l with up := some { t with tries := t.tries + 1 } }) s
    else if toCell then txFails ch t.frame why s else upFails ch t.frame why s

/-- LANE_NAK (R125, R131): the check value or the symbol coding of the frame failed at the receiver. -/
def execLaneNak (ch : Ch) (toCell : Bool) (s : State) : Outcome := .next (resend ch toCell rcLaneCrc s)

/-- LANE_ANSWER_TIMEOUT (R125, R131). -/
def execLaneAnswerTimeout (ch : Ch) (toCell : Bool) (s : State) : Outcome := .next (resend ch toCell rcLaneTimeout s)

/-- A microcode block is written: the next one follows until the load is complete (R125, Table 6-12). -/
def ucodeNext (clk n : Nat) (c : Cell) : Cell :=
  let c := { c with lane := endAwaited c.lane }
  if !c.running && decide (0 < c.ucodeBlocks) then { c with lane := { c.lane with tx := some ⟨.ucode (n + 1), c.lane.seqTx, 1, clk⟩ } }
  else launchWrite clk c

/-- LANE_ACK: the frame needs no further attempt; an acknowledged HOLDOVER completes its write; CFGW, CFGR and APPLY are answered by
CFGA alone (R125, R131). A frame to the core is over with the command of its reception too (log 138). -/
def execLaneAck (ch : Ch) (toCell : Bool) (s : State) : Outcome :=
  .next (if toCell then
      match (s.cell ch).lane.tx.map TxFrame.frame with
      | some (.holdover _) => confirmFrame ch s
      | some (.ucode n) => s.modCell ch (ucodeNext s.clk n)
      | some (.cfgw _ _) | some (.cfgr _) | some (.apply _) | none => s
      | some (.out _) | some .result | some .event | some (.cfga _ _ _) | some .hello | some .status => s.modCell ch (freeTx s.clk)
    else s.modCell ch (endUp s.clk))

/-- CONFIG_WRITE_DEADLINE: 50 µs of lane-up time without an answer to the frame that awaits it: FAULT, LANE_TIMEOUT, and LANE sets
(R131). -/
def execConfigWriteDeadline (ch : Ch) (s : State) : Outcome :=
  .next (if (s.cell ch).lane.write.isSome && (awaited (s.cell ch).lane).isSome && (s.cell ch).lane.state == .up then
      failWrite ch rcLaneTimeout (frameFailed ch rcLaneTimeout s)
    else s)

/-- CONFIG_WRITE_LANE_TIMEOUT: the lane has not returned within 100 ms: FAULT, LANE_DOWN (R132). -/
def execConfigWriteLaneTimeout (ch : Ch) (s : State) : Outcome :=
  .next (if (s.cell ch).lane.state = .up then s else failWrites ch rcLaneDown s)

/-- The write of a calibration entry is over on its lane and in a trim. -/
def endCalWrite (clk : Nat) (c : Cell) : Cell :=
  let c := endTrimWrite { c with cal := { c.cal with pendW := none } }
  if c.lane.write.any fun w => w.kind == .calEntry then endWrite clk { c with lane := endAwaited c.lane } else c

/-- CAL_STORE_WRITE_COMPLETE: the read-back passes and the entry becomes current, or the previous one stays in force with
STORE and the command completes with FAULT (R255, Table 11-5). -/
def execCalStoreWriteComplete (ch : Ch) (ok : Bool) (s : State) : Outcome :=
  .next (match (s.cell ch).cal.pendW with
    | none => s
    | some p =>
      if ok then
        let s1 := s.modCell ch fun c => endCalWrite s.clk { c with cal := { c.cal with
          entries := c.cal.entries.set p.entry (writtenEntry p c.cal.entries[p.entry]) } }
        finishOp p.ref stOk 0 [] (condSet ch cbStore (!setOk (s1.cell ch)) s1)
      else finishOp p.ref stFault rcStore [] (condOn ch cbStore (s.modCell ch (endCalWrite s.clk))))

/-! ### The cell end of a configuration write (R125, R130, R131, R143) -/

/-- A running cell whose lane is UP takes frames. -/
def hears (c : Cell) : Bool := c.running && c.lane.state == .up

/-- A frame whose SEQ is not that of the frame executed last is executed; a repeated one is only answered again (R131). -/
def onceBySeq (seq : Nat) (f : Cell → Cell) (c : Cell) : Cell :=
  if c.lane.seqRx = some seq then c else { f c with lane := { (f c).lane with seqRx := some seq }, pstate := 0 }

/-- The cell answers a configuration frame with CFGA (R125, R130). -/
def sendCfga (clk seq a : Nat) (d : BitVec 32) (c : Cell) : Cell :=
  { c with lane := startUp ⟨.cfga a d true, seq, 1, clk⟩ c.lane }

/-- What a cell register reads. -/
def cellReg (c : Cell) (a : Nat) : BitVec 32 :=
  if a = regFunc then BitVec.ofNat 32 (funcNum c.func)
  else if a = regFsOpt then BitVec.ofNat 32 (fsOptNum c.fs.opt)
  else if a = regFsValue then intWord c.fs.value
  else intWord (valueIn (funcParams c.func) c.cfg (cellRegId a))

/-- CFGW_RECEIVED: a shadow register is written (R130). -/
def execCfgwReceived (ch : Ch) (r : LaneRx) (s : State) : Outcome :=
  .next (s.modCell ch fun c =>
    match rxFrame r with
    | some (.cfgw a d) => if hears c then sendCfga s.clk (rxSeq r) a d (onceBySeq (rxSeq r) (fun c => { c with
        shadow := some ⟨assocSet a d ((c.shadow.map Shadow.regs).getD []), false⟩ }) c) else c
    | _ => c)

/-- CFGR_RECEIVED: a cell register is read, and CFGA carries it (R130, R131). -/
def execCfgrReceived (ch : Ch) (r : LaneRx) (s : State) : Outcome :=
  .next (s.modCell ch fun c =>
    match rxFrame r with
    | some (.cfgr a) => if hears c then sendCfga s.clk (rxSeq r) a (cellReg c a) (onceBySeq (rxSeq r) id c) else c
    | _ => c)

/-- The shadow registers are complete: they take effect on the next marker, a HART request among them goes to the modem (R120, R238). -/
def applyShadow (c : Cell) : Cell :=
  { hartLoad ((c.shadow.map Shadow.regs).getD []) c with shadow := c.shadow.map fun sh => { sh with ready := true } }

/-- APPLY_RECEIVED (R120, R130). -/
def execApplyReceived (ch : Ch) (r : LaneRx) (s : State) : Outcome :=
  .next (s.modCell ch fun c =>
    match rxFrame r with
    | some (.apply n) => if hears c then sendCfga s.clk (rxSeq r) n 0 (onceBySeq (rxSeq r) applyShadow c) else c
    | _ => c)

/-- HOLDOVER_RECEIVED (R131, R143). -/
def execHoldoverReceived (ch : Ch) (r : LaneRx) (s : State) : Outcome :=
  .next (match rxFrame r with
    | some (.holdover secs) =>
      if hears (s.cell ch) && (s.cell ch).lane.seqRx != some (rxSeq r) then
        (enterHold ch secs s).modCell ch (onceBySeq (rxSeq r) id)
      else s
    | _ => s)

/-- The microcode load of a cell ends: its CRC must be that of the current CMC image; a cell that is loaded after BOOT calibrates next
(R81, R83, R125, Table 6-12 UCODE). -/
def ucodeLoaded (ch : Ch) (crc : Nat) (s : State) : State :=
  if crc = s.fw.cmcCrc then
    condOff ch cbUcode (s.modCell ch fun c =>
      let c := { c with ucodeBlocks := 0, ucode := crc, running := true }
      if !c.joined && decide (1 < modeNum s.md.mode) then selfcalBegin c else c)
  else condOn ch cbUcode (s.modCell ch fun c => { c with ucodeBlocks := 0 })

/-- UCODE_RECEIVED: a microcode block is written; the last one completes the load (R125). -/
def execUcodeReceived (ch : Ch) (r : LaneRx) (last : Bool) (crc : Nat) (s : State) : Outcome :=
  .next (match rxFrame r with
    | some (.ucode _) =>
      let c := s.cell ch
      if !c.powered || c.running || c.lane.state != .up || c.lane.seqRx == some (rxSeq r) then s
      else
        let s1 := s.modCell ch (onceBySeq (rxSeq r) fun c => { c with ucodeBlocks := c.ucodeBlocks + 1 })
        if last then ucodeLoaded ch crc s1 else s1
    | _ => s)

/-! ### Lane states and HELLO (R123, R133, R134, R81) -/

/-- LANE_COMMA_DETECTED: a DOWN lane with a powered cell enters TRAIN. Lane events wake the core (R60). -/
def execLaneCommaDetected (ch : Ch) (s : State) : Outcome :=
  .next (if (s.cell ch).powered ∧ (s.cell ch).lane.state = .down then
      modLane ch (fun l => { l with state := .train, trainAt := s.clk }) s.wakeCore
    else s)

/-- LANE_TRAIN_TIMEOUT: no alignment within 100 µs. -/
def execLaneTrainTimeout (ch : Ch) (s : State) : Outcome :=
  .next (if (s.cell ch).lane.state = .train then modLane ch (fun l => { l with state := .down }) s.wakeCore else s)

/-- LANE_SYMBOL_LOSS: no valid symbol for 2 µs takes the lane DOWN (R123). -/
def execLaneSymbolLoss (ch : Ch) (s : State) : Outcome := .next (laneLost ch s.wakeCore)

/-- Operations of a channel that a cell reset ends with FAULT, LANE_RESET: INPUT_TEST, HART_TX, CAL_WRITE, AO_TRIM,
CAL_RESTORE (R132, R239, Table 17-3). -/
def resetEndsOps (ch : Ch) (s : State) : State :=
  (s.ops.filter fun o => bitOf o.mask ch.val && [0x15, 0x17, 0x31, 0x33, 0x34].contains o.ref.opcode).foldl
    (fun s o => finishOp o.ref stFault rcLaneReset [] s) s

/-- A HELLO with the reset flag: EPOCH, RST_WHY, LANE_RESET but for a power-up; the image values are invalid until the
cell rejoins; every write completes with FAULT, LANE_RESET (R132, R133). -/
def helloReset (ch : Ch) (s : State) : State :=
  let why := (s.cell ch).whyNext
  let s1 := s.modCell ch fun c => { c with
    epoch := (c.epoch + 1) % 65536, rstWhy := why, rstFlag := false, whyNext := 0, invalid := true, joined := false, joinNext := false
    lane := { c.lane with lastCause := if why = 0 then c.lane.lastCause else 3, seqRx := none } }
  let s2 := if why = 0 then s1 else causePulse ch cbLaneReset s1
  selfcalTick ch true rcLaneReset (resetEndsOps ch (failWrites ch rcLaneReset s2))

/-- A HELLO without the reset flag: the pending frame is resent with its SEQ unchanged (R132, R134). -/
def helloResume (ch : Ch) (s : State) : State := s.modCell ch (launchWrite s.clk)

/-- The self-calibration of start-up: all cells after a power-on or cold reset, AI cells after a warm one, and any cell that
has no valid factors (Table 11-1, R83). -/
def startCal (s : State) (c : Cell) : Cell :=
  let warm := s.md.warm && !s.md.causeCold
  if c.running && c.lane.state == .up && (!warm || isAi c.func || !c.cal.selfOk) then selfcalBegin c else c

/-- A cell whose lane comes up in SELFCAL calibrates with the others; one whose lane comes up later and that has not rejoined
calibrates, whatever factors it has, and is configured next (R81, R83, Table 11-1). -/
def rejoinLate (ch : Ch) (s : State) : State :=
  let c := s.cell ch
  if !c.running || c.joined || c.cal.busy || modeNum s.md.mode < 2 then s
  else if s.md.mode = .m2 then s.modCell ch (startCal s)
  else s.modCell ch selfcalBegin

/-- A cell whose running microcode differs from the current CMC image is loaded anew, and resets for it (R83, Table 6-13). -/
def reloadCell (ch : Ch) (s : State) : State := laneDown ch (s.modCell ch (resetCell 4))

/-- A running cell carries other microcode than the current image. -/
def microcodeOld (s : State) (ch : Ch) : Bool := (s.cell ch).running && (s.cell ch).ucode != s.fw.cmcCrc

/-- The first microcode block goes to a cell without microcode (R81, R125). -/
def startUcode (clk : Nat) (c : Cell) : Cell :=
  if c.lane.tx = none then { c with lane := { c.lane with tx := some ⟨.ucode 0, c.lane.seqTx, 1, clk⟩ } } else c

/-- HELLO_RECEIVED: the lane is UP; the cell's conditions are reported; a cell without microcode is loaded. A repeated HELLO on a lane
that is UP says nothing new (R60, R81, R123, R133, R134, R145). -/
def execHelloReceived (ch : Ch) (ok : Bool) (s : State) : Outcome :=
  .next (
    let l := (s.cell ch).lane.state
    if !(ok && (s.cell ch).powered) || l == .down || (l == .up && !(s.cell ch).rstFlag) then s
    else
      let s1 := modLane ch (fun l => { l with state := .up, up := none, upWait := [], tx := none, txHeld := none, fails := 0 }) s.wakeCore
      let s2 := if (s1.cell ch).rstFlag then helloReset ch s1 else helloResume ch s1
      let s3 := dieBack ch (reportConds ch (causeOff ch cbLane s2))
      let s4 := if microcodeOld s3 ch then reloadCell ch s3
        else if (s3.cell ch).running then (rejoinLate ch s3).modCell ch (cellLaunch s.clk)
        else s3.modCell ch (startUcode s.clk)
      refreshLoss s4)

/-- HELLO_REPEAT: the cell sends HELLO again until it is acknowledged (Table 6-6). -/
def execHelloRepeat (ch : Ch) (s : State) : Outcome :=
  .next (if (s.cell ch).powered ∧ (s.cell ch).lane.state ≠ .up then
      modLane ch (fun l => { l with up := some ⟨.hello, 0, 1, s.clk⟩ }) s
    else s)

/-- CELL_SELFCAL_COMPLETE (R247, R248); a rejoining cell is configured next (R81). -/
def execCellSelfcalComplete (ch : Ch) (fs : List PathFactors) (s : State) : Outcome :=
  .next (rejoinLoaded ch (cellSelfcalDone ch fs s))

/-- The first sluice commit after these steps: the cell joins, in its safe state unless it is in hold-over; in CONFIGURE the command
of the marker gives its state (R80, R81, R138, R143). -/
def joinMarker (ch : Ch) (s : State) : State :=
  if (s.cell ch).joinNext then
    let s1 := s.modCell ch fun c => { c with joinNext := false, joined := true, invalid := false }
    refreshLoss (if isOut (s1.cell ch).func && (s1.cell ch).wd != .holdover && s.md.mode != .m3 then applySafe ch false s1 else s1)
  else s

/-- FUNCTION_START: the command that changed FUNC completes (R119, R405). -/
def execFunctionStart (ch : Ch) (s : State) : Outcome :=
  .next (if (s.cell ch).hiz = some 0 then
      let s1 := s.modCell ch startFunction
      let s2 := if fsCrcOk (s1.cell ch).fs then condOff ch cbFsStore s1 else s1
      writeMarker ch s2
    else s)

/-! ### Results and events (R127, R145, R159, R160, R215) -/

/-- A RESULT enters the status window and the tick image; DI edges accumulate in CELL_CNT, an analogue input counts its
ticks without a good value (R144, R160, R219). -/
def takeResult (clk : Nat) (r : ResFrame) (c : Cell) : Cell :=
  dropResult clk { countBad r.good c with
    value := r.value, aux := r.aux, valid := r.good, stale := false, gotRes := true, res := none, tickEdge := r.edge
    cnt := match c.func with
      | .di => satAdd 64 c.cnt r.cnt
      | .aiv | .aii | .aih => (countBad r.good c).cnt
      | .off | .dout | .xsd | .aoa | .aop => r.cnt
    di := if c.func = .di then { c.di with cntTick := c.di.cntTick - r.cnt } else c.di
    tse := if c.func = .di then diTse c else c.tse }

/-- RESULT_RECEIVED; `ok` false is the failure of both attempts (R127). -/
def execResultReceived (ch : Ch) (ok : Bool) (s : State) : Outcome :=
  .next (match (s.cell ch).res with
    | none => s
    | some r =>
      if (s.cell ch).lane.state ≠ .up then s
      else if ok then s.modCell ch (takeResult s.clk r) else resultStale ch rcLaneCrc s)

/-- What an EVENT frame brings, or its loss after all attempts. A condition the headgate does not know yet sets its bit (R145); HART
frames stand in the receive buffer (R241). -/
def takeEvent (ch : Ch) (ok : Bool) (ev : CellEvent) (s : State) : State :=
  match ev with
  | .edge => takeEdge ch ok s
  | .inj => takeInj ch ok s
  | .cause b => if !ok then frameFailed ch rcLaneCrc s else if hasCond (s.cell ch) b then causeOn ch b s else s
  | .hart => if ok then s else frameFailed ch rcLaneCrc s

/-- EVENT_FRAME_RECEIVED: the frame is over, and the cell starts its next one (R60, R126, R159). -/
def execEventFrameReceived (ch : Ch) (ok : Bool) (ev : CellEvent) (s : State) : Outcome :=
  .next (if (s.cell ch).lane.state = .up ∧ upIs .event (s.cell ch).lane then
      (takeEvent ch ok ev s.wakeCore).modCell ch (endUp s.clk)
    else s)

/-- CELL_CAUSE_CLEAR (R145). -/
def execCellCauseClear (ch : Ch) (val : Word) (s : State) : Outcome := .next (causeClear ch val s)

end Sys2Proof.Machine
end

