-- ==== Sys2Proof/Machine/Operands.lean ====
section
/-! DEFINITION. Operand forms of the packets: parameter pairs (R395, R396), the relations between parameters, and the load
check (R53 to R56). -/

namespace Sys2Proof.Machine

open Sys2Proof

/-! ### Pairs (R396) -/

/-- The pairs a packet carries: ID words and value words, read as signed where the parameter is. -/
def pairsOf : List Word → List (Nat × Word)
  | a :: b :: r => (a.toNat, b) :: pairsOf r
  | _ => []

/-- No ID stands twice (R396). -/
def noRepeat : List Nat → Bool
  | [] => true
  | x :: r => !r.contains x && noRepeat r

/-- The value of a pair. -/
def pairValue (p : Param) (w : Word) : Int := if p.signed then w.toInt else w.toNat

/-- Every pair names a parameter of the table with a value in its range; the values (R146, R396). -/
def checkPairs (ps : List Param) (l : List (Nat × Word)) : Option (List (Nat × Int)) :=
  if noRepeat (l.map Prod.fst) then
    l.mapM fun x => (findParam ps x.1).bind fun p => if paramOk p (pairValue p x.2) then some (x.1, pairValue p x.2) else none
  else none

/-- Settings after the pairs were applied. -/
def applyPairs (cfg : List (Nat × Int)) (l : List (Nat × Int)) : List (Nat × Int) := l.foldl (fun c x => assocSet x.1 x.2 c) cfg

/-- The pair count m in W1 [23:16] agrees with the packet, and the other bits of W1 that `used` leaves out are 0 (R395). -/
def pairsFit (ws : List Word) (used : Word) : Bool :=
  ws.length == 1 + 2 * field (par ws 1) 16 8 && !reservedBad (par ws 1) (used ||| 0x00FF0000)

/-! ### The DI presets (R149, Table 7-3, Table 3-4) -/

/-- V_ON, V_OFF, I_LIM and V_DECL of a preset. -/
def presetRow (p : Int) : Int × Int × Int × Int :=
  if p = 2 then (80, 65, 2, 30) else if p = 3 then (336, 288, 1, 60) else if p = 4 then (770, 660, 1, 132)
  else if p = 5 then (875, 750, 1, 150) else if p = 6 then (1540, 1320, 1, 264) else (110, 90, 2, 30)

/-- The DI settings before the explicit pairs: a named preset sets thresholds and V_DECL, NONE sets V_DECL to 300 V (R149). -/
def diBase (base pairs : List (Nat × Int)) : List (Nat × Int) :=
  let explicit := pairs.any fun x => x.1 == 0x00070102 || x.1 == 0x00070103 || x.1 == 0x00070104
  let b := match assocGet 0x00070101 pairs with
    | none => base
    | some p =>
      if p = 0 then assocSet 0x00070105 300 base
      else
        let r := presetRow p
        applyPairs base [(0x00070102, r.1), (0x00070103, r.2.1), (0x00070104, r.2.2.1), (0x00070105, r.2.2.2), (0x00070101, p)]
  if explicit then assocSet 0x00070101 0 b else b

/-- The DI settings after a CH_CONFIG: explicit values override the preset's, and PRESET then reads NONE (R149). -/
def diApply (base pairs : List (Nat × Int)) : List (Nat × Int) :=
  let explicit := pairs.any fun x => x.1 == 0x00070102 || x.1 == 0x00070103 || x.1 == 0x00070104
  let l := applyPairs (diBase base pairs) (pairs.filter fun x => x.1 != 0x00070101)
  if explicit ∨ assocGet 0x00070101 pairs = some 0 then assocSet 0x00070101 0 l else l

/-! ### Relations between parameters (Tables 7-1, 8-1) -/

/-- The relations the tables state hold on the whole configuration of a channel. -/
def relationsOk (f : Func) (cfg : List (Nat × Int)) : Bool :=
  let v := valueIn (funcParams f) cfg
  match f with
  | .di => decide (v 0x00070103 + 5 ≤ v 0x00070102) && decide (v 0x00070102 ≤ 10 * v 0x00070105) &&
      decide (50 * v 0x00070109 < diILimUa (v 0x00070104))
  | .dout => decide (5 * v 0x00080102 ≤ 25 * v 0x00080103) && decide (v 0x0008010C < 50 * v 0x00080102)
  | .xsd => decide (v 0x00080104 ≤ v 0x00080105) && decide (v 0x0008010C * v 0x00080112 < 5000 * v 0x00080104) &&
      (v 0x00080117 == 0 || decide (100 ≤ v 0x00080112))
  | .off | .aiv | .aii | .aih | .aoa | .aop => true

/-- The configuration a CH_CONFIG asks for, from the one accepted before; none where a check fails (R405). -/
def newConfig (oldF : Func) (old : List (Nat × Int)) (f : Func) (ws : List Word) : Option (List (Nat × Int)) :=
  (checkPairs (funcParams f) (pairsOf (ws.drop 1))).bind fun pairs =>
    let base := if f = oldF then old else []
    let cfg := if f = .di then diApply base pairs else applyPairs base pairs
    if relationsOk f cfg then some cfg else none

/-! ### The load check (R53 to R56) -/

/-- SRC of a DO or AOA channel is FLD (Table 3-2). -/
def onFld (f : Func) (cfg : List (Nat × Int)) : Bool :=
  (f == .dout && setting cfg 0x00080101 0 == 2) || (f == .aoa && setting cfg 0x000A0101 0 == 2)

/-- P_CPL of a cell in µW (Table 3-3). -/
def pCpl (f : Func) (cfg : List (Nat × Int)) : Nat :=
  match f with
  | .off => 5000
  | .di => if setting cfg 0x00070107 0 = 1 then 780000 else 60000
  | .dout => if onFld f cfg then 5000 else 80000
  | .aiv | .aih => 90000
  | .aii => if setting cfg 0x00090104 0 = 1 then 740000 else 100000
  | .aoa => if onFld f cfg then 5000 else 800000
  | .aop => 0
  | .xsd => 150000

/-- P_CELL of a cell in µW (Table 3-3). -/
def pCell (f : Func) (cfg : List (Nat × Int)) : Nat :=
  match f with
  | .off => 5000
  | .di => 60000 + diILimUa (setting cfg 0x00070104 2) * (setting cfg 0x00070105 30).toNat +
      (if setting cfg 0x00070107 0 = 1 then 60000 else 0)
  | .dout => (if onFld f cfg then 100000 else 80000) + (setting cfg 0x00080102 10).toNat * (setting cfg 0x00080102 10).toNat * 550
  | .aiv | .aih => 90000
  | .aii => if setting cfg 0x00090104 0 = 1 then 160000 else 130000
  | .aoa => if onFld f cfg then 320000 else 180000
  | .aop => 24000 * (setting cfg 0x000A0102 32).toNat
  | .xsd => 150000

/-- Network ports a configuration enables (Table 13-1). -/
def netPorts (applied : Bool) (cfg : List (Nat × Int)) : Nat :=
  if applied then (if setting cfg 0x000D0201 2 = 0 then 1 else 2) else 0

/-- P_CORE in µW (Table 3-5). -/
def pCore (s : State) : Nat :=
  3400000 + 350000 * netPorts s.net.applied s.net.cfg + (if setting s.cas.cfg 0x000E0101 0 = 1 then 500000 else 0) +
    (if setting s.recs.cfg 0x00130301 0 = 1 then 300000 else 0)

/-- P_CPL_SUM in µW, over the configurations accepted (R53, R398). -/
def cplSum (s : State) : Nat := (s.cells.toList.map fun c => pCpl c.accFunc c.accPar).sum

/-- The sum of P_CELL in µW. -/
def cellSum (s : State) : Nat := (s.cells.toList.map fun c => pCell c.accFunc c.accPar).sum

/-- P_DISS × 36, in µW (R53). -/
def pDiss36 (s : State) : Nat := 40 * pCore s + 9 * cplSum s + 36 * cellSum s

/-- P_IN × 36, in µW (R53). -/
def pIn36 (s : State) : Nat := 40 * pCore s + 45 * cplSum s

/-- The load check passes: at most 26 W, 12 W and 40 W (R53). -/
def loadOk (s : State) : Bool :=
  decide (cplSum s ≤ 26000000) && decide (pDiss36 s ≤ 36 * 12000000) && decide (pIn36 s ≤ 36 * 40000000)

/-- BUDGET_A and BUDGET_B after an accepted load, in mW to the nearest (R69, log 51). -/
def noteBudget (s : State) : State :=
  { s with pwr := { s.pwr with
      budCpl := (cplSum s + 500) / 1000, budDiss := (pDiss36 s + 18000) / 36000, budIn := (pIn36 s + 18000) / 36000 } }

/-! ### Module, network, time, culvert and record settings -/

/-- Table 4-10. -/
def sysParams : List Param :=
  [flag 0x00040A01 0, flag 0x00040A02 0, flag 0x00040A03 0, range 0x00040A04 1 600 60, flag 0x00040A05 0, flag 0x00040A06 1,
   range 0x00040A07 10 255 10]

/-- Table 13-2. -/
def netParams : List Param :=
  [range 0x000D0201 0 3 2, flag 0x000D0202 0, flag 0x000D0203 0, flag 0x000D0204 0, flag 0x000D0205 1, flag 0x000D0206 1,
   flag 0x000D0207 0, { range 0x000D0208 10 1000 400 with step := 10 }, range 0x000D0209 0 0xFFFFFFFF 0,
   range 0x000D020A 0 0xFFFFFFFF 0, range 0x000D020B 0 0xFFFFFFFF 0, flag 0x000D020C 0, flag 0x000D020D 0,
   range 0x000D020E 0 4094 0, range 0x000D020F 1024 65535 50200, { range 0x000D0210 100 10000 2000 with step := 100 }]

/-- Tables 5-6, 5-13 and 13-3. -/
def ptpParams : List Param :=
  [range 0x00050601 0 2 0, range 0x00050602 1 1000 50, range 0x00050603 1 20 10, flag 0x00050604 1, range 0x00050605 1 100 10,
   range 0x00050D01 0 2 0, flag 0x00050D02 0, range 0x00050D04 0 3 0, flag 0x00050D05 0, flag 0x000D0301 0,
   range 0x000D0302 0 255 0, range 0x000D0303 0 255 128, range 0x000D0304 0 255 128, flag 0x000D0305 0] ++
  [0x000D0306, 0x000D0307, 0x000D0308, 0x000D0309].map fun i => { range i (-2000) 2000 0 with signed := true }

/-- Table 14-1, MAP and RECLAIM aside. PUB_BASE names 60 words of the publication region (Table 12-4). -/
def casParams : List Param :=
  [flag 0x000E0101 0, range 0x000E0102 2 8 2, range 0x000E0103 0x0540 0x08C4 0x0540, range 0x000E0105 1 15 2]

/-- Table 19-3. -/
def recParams : List Param :=
  [flag 0x00130301 0, range 0x00130302 2 16 8, range 0x00130303 0 349525 1600, range 0x00130304 1 349525 8000,
   range 0x00130305 0 0xFFFF 0xFFFF, flag 0x00130306 0, flag 0x00130307 0]

/-- The slot capacity in ticks (Table 19-3). -/
def slotCapacity (slots : Nat) : Nat := 50331648 / slots / 144

/-- PRE + POST + 1 fits the slot (R441). -/
def recOk (cfg : List (Nat × Int)) : Bool :=
  decide ((valueIn recParams cfg 0x00130303 + valueIn recParams cfg 0x00130304 + 1).toNat ≤
    slotCapacity (valueIn recParams cfg 0x00130302).toNat)

/-- An IPv4 mask is contiguous: its complement plus one has no bit in common with it below. -/
def maskOk (m : Nat) : Bool := let c := 0xFFFFFFFF - m; (c &&& (c + 1)) == 0

/-- An IPv4 address is unicast, or 0.0.0.0 as the default is: not multicast, reserved or broadcast. -/
def ipOk (a : Nat) : Bool := decide (a < 0xE0000000)

/-- The address relations of Table 13-2. -/
def netOk (cfg : List (Nat × Int)) : Bool :=
  ipOk (valueIn netParams cfg 0x000D0209).toNat && maskOk (valueIn netParams cfg 0x000D020A).toNat &&
    ipOk (valueIn netParams cfg 0x000D020B).toNat

/-- SRC = PPS needs IN_ROLE = PPS (R111). -/
def ptpOk (cfg : List (Nat × Int)) : Bool := valueIn ptpParams cfg 0x00050601 != 1 || valueIn ptpParams cfg 0x00050D01 == 1

/-- Check the pairs of a packet against a table and a relation, on the settings in force (R395, R396). -/
def pairsApply (ps : List Param) (rel : List (Nat × Int) → Bool) (cfg : List (Nat × Int)) (ws : List Word) (used : Word) :
    Option (List (Nat × Int)) :=
  if pairsFit ws used then
    (checkPairs ps (pairsOf (ws.drop 1))).bind fun l =>
      let c := applyPairs cfg l
      if rel c then some c else none
  else none

end Sys2Proof.Machine
end

