-- ==== Sys2Proof/Machine/Channel.lean ====
section
/-! DEFINITION. The channel and calibration commands (Tables 17-3 and 17-4), and records in parts (R401). -/

namespace Sys2Proof.Machine

open Sys2Proof

/-! ### Shared checks -/

/-- The module is in one of the modes of a number list. Under the recovery loader every packet but those it names answers
WRONG_MODE (R469). -/
def inModeList (s : State) (l : List Nat) : Bool := !s.md.recovery && l.contains (modeNum s.md.mode)

/-- M3 to M7 and M10. -/
abbrev modesConfig : List Nat := [3, 4, 5, 6, 7, 10]

/-- M3 to M10. -/
abbrev modesAll : List Nat := [3, 4, 5, 6, 7, 8, 9, 10]

/-- M3 to M7, M9 and M10. -/
abbrev modesNo8 : List Nat := [3, 4, 5, 6, 7, 9, 10]

/-- The mode check, then the rest (R372). -/
def modeGate (l : List Nat) (c : Ctx) (k : State → State) (s : State) : State := inModes (inModeList s l) c k s

/-- The lane of a channel is UP and its cell has rejoined; else the cell counts as lost (R81, R134, R501). -/
def cellUp (s : State) (ch : Ch) : Bool := (s.cell ch).lane.state == .up && (s.cell ch).joined

/-- A long command on a channel: BUSY while an operation uses the channel or 8 run, else ACCEPTED and its operation; a lane
that is not UP ends it at once with FAULT, LANE_DOWN (R375, R398, Table 17-1). -/
def longChannel (c : Ctx) (opcode : Nat) (ch : Ch) (arg : Word) (k : State → State) (s : State) : State :=
  if chInUse s ch || opsFull s c then answer c stBusy [] s
  else
    let s1 := startOp c (newOp c opcode (chBit ch) arg) s
    if (s.cell ch).lane.state = .up then k s1 else finishOp (ctxRef c opcode) stFault rcLaneDown [] s1

/-! ### Records in parts (R401) -/

/-- The partial record of an opcode, whichever source holds it. -/
def findPart (s : State) (opcode : Nat) : Option Part := s.parts.find? fun p => p.opcode == opcode

/-- Drop the partial record of a source and opcode. -/
def dropPart (src : Src) (opcode : Nat) (s : State) : State :=
  { s with parts := s.parts.filter fun p => !(p.src == src && p.opcode == opcode) }

/-- One part of a record: its offset, count and words. `lenOf` is the length the record states in its header, and `whole`
carries out the command on the complete record. -/
def takePart (c : Ctx) (opcode key off k : Nat) (data : List Word) (lenOf : List Word → Option Nat)
    (whole : List Word → State → State) (s : State) : State :=
  let held := findPart s opcode
  let other := match held with
    | some p => p.src != c.src
    | none => false
  let cur := match held with
    | some p => if off = 0 ∨ p.key ≠ key then [] else p.words
    | none => []
  let ws := cur ++ data
  let full := match lenOf ws with
    | some l => decide (l ≤ ws.length)
    | none => false
  if k = 0 ∨ 240 < k ∨ data.length ≠ k then answer c stBadParam [] s
  else if other then answer c stBusy [] s
  else if off ≠ cur.length ∨ (full = true ∧ lenOf ws ≠ some ws.length) then answer c stBadParam [] s
  else if full then whole ws (dropPart c.src opcode s)
  else answer c stOk [] { dropPart c.src opcode s with
    parts := ⟨c.src, opcode, key, ws, s.clk⟩ :: (dropPart c.src opcode s).parts }

/-- PARTIAL_RECORD_DISCARD: 10 s after its last part (R401). -/
def execPartialRecordDiscard (src : Src) (opcode : Byte) (s : State) : Outcome := .next (dropPart src opcode.toNat s)

/-! ### CH_CONFIG and CH_READ_CONFIG (R119, R405, R501) -/

/-- The register writes a change needs: FUNC when it changes, and every value named or altered (R130, Table 6-7). -/
def changedRegs (sameF : Bool) (f : Func) (old new : List (Nat × Int)) (named : List Nat) : List (Nat × BitVec 32) :=
  (if sameF then [] else [(regFunc, BitVec.ofNat 32 (funcNum f))]) ++
    (new.filter fun x => !sameF || named.contains x.1 || assocGet x.1 old != some x.2).map fun x => (cellRegAddr x.1, intWord x.2)

/-- The change enters the configuration as accepted (R398). -/
def acceptConfig (ch : Ch) (f : Func) (pars : List (Nat × Int)) (s : State) : State :=
  noteBudget (s.modCell ch fun c => { c with accFunc := f, accPar := pars })

/-- A change for a cell that counts as lost is in force at acceptance and completes with DEFERRED = 1 (R501). -/
def deferConfig (c : Ctx) (ch : Ch) (f : Func) (pars : List (Nat × Int)) (s : State) : State :=
  let s1 := startOp c (newOp c 0x10 (chBit ch) 0) (acceptConfig ch f pars s)
  let s2 := s1.modCell ch fun x => { x with cfgFunc := f, cfgPar := pars, joined := false, joinNext := false }
  refreshLoss (finishOp (ctxRef c 0x10) stOk 0 [1]
    (if (s2.cell ch).lane.state = .up ∧ (s2.cell ch).cal.selfOk then rejoinConfig ch s2 else s2))

/-- The parameter checks, the load check and the write of a CH_CONFIG. -/
def configChannel (c : Ctx) (ws : List Word) (ch : Ch) (f : Func) (s : State) : State :=
  let x := s.cell ch
  let same := f == x.accFunc
  match (if pairsFit ws 0x00000FFF then newConfig x.accFunc x.accPar f ws else none) with
  | none => answer c stBadParam [] s
  | some pars =>
    if chInUse s ch || opsFull s c then answer c stBusy [] s
    else if !loadOk (acceptConfig ch f pars s) then answer c stResource [] s
    else if !cellUp s ch then deferConfig c ch f pars (noteConfig c.src s)
    else
      startWrite ch { kind := .config f, frames := writeFrames (changedRegs same f x.accPar pars ((pairsOf (ws.drop 1)).map Prod.fst))
                      since := 0, func := f, pars := pars, ref := some (ctxRef c 0x10), immediate := false }
        (startOp c (newOp c 0x10 (chBit ch) (par ws 1)) (acceptConfig ch f pars (noteConfig c.src s)))

/-- CH_CONFIG's operation (R405). -/
def opChConfig (c : Ctx) (ws : List Word) (s : State) : State :=
  modeGate modesConfig c (fun s =>
    withCh (par ws 1) c (fun ch s =>
      match funcOfNum (field (par ws 1) 8 4) with
      | none => answer c stBadParam [] s
      | some f => inModes (f == (s.cell ch).accFunc || s.md.mode == .m3) c (configChannel c ws ch f) s) s) s

/-- CH_CONFIG. -/
def execChConfig (c : Ctx) (ws : List Word) (s : State) : Outcome := .next (opChConfig c ws (acceptPacket c s))

/-- One pair for every parameter of a function (Table 17-3). -/
def configWords (f : Func) (cfg : List (Nat × Int)) : List Word :=
  (funcParams f).flatMap fun p => [BitVec.ofNat 32 p.id, intWord (setting cfg p.id p.dflt)]

/-- CH_READ_CONFIG's operation: the configuration in force. -/
def opChReadConfig (c : Ctx) (ws : List Word) (s : State) : State :=
  modeGate modesAll c (fun s =>
    refuseIf (reservedBad (par ws 1) 0xFF || ws.length != 1) stBadParam c (withCh (par ws 1) c fun ch s =>
      let x := s.cell ch
      let ps := configWords x.cfgFunc x.cfgPar
      answer c stOk (packWord [(0, 8, ch.val), (8, 4, funcNum x.cfgFunc), (16, 8, ps.length / 2)] :: ps) s) s) s

/-- CH_READ_CONFIG. -/
def execChReadConfig (c : Ctx) (ws : List Word) (s : State) : Outcome := .next (opChReadConfig c ws (acceptPacket c s))

/-! ### CH_SET_FAILSAFE (R139) -/

/-- The option and value of a fail-safe record are those of Table 6-9. -/
def failsafeOf (f : Func) (opt : Nat) (v : Int) : Option (FsOpt × Int) :=
  match opt with
  | 0 => some (.deenergise, 0)
  | 1 => some (.hold, 0)
  | 2 =>
    if isSw f then (if v = 0 ∨ v = 1 then some (.value, v) else none)
    else if aoMin f ≤ v ∧ v ≤ 24000000 ∧ v % 1000 = 0 then some (.value, v) else none
  | _ => none

/-- CH_SET_FAILSAFE's operation. -/
def opChSetFailsafe (c : Ctx) (ws : List Word) (s : State) : State :=
  modeGate modesConfig c (fun s =>
    refuseIf (reservedBad (par ws 1) 0x3FF || !wordCount ws 1 (field (par ws 1) 8 2 == 2).toNat 1) stBadParam c (withCh (par ws 1) c fun ch s =>
      let f := (s.cell ch).accFunc
      match (if isOut f then failsafeOf f (field (par ws 1) 8 2) (wordInt (par ws 2)) else none) with
      | none => answer c stBadParam [] s
      | some (o, v) =>
        longChannel c 0x12 ch (par ws 1) (startWrite ch
          { kind := .failsafe o v, frames := writeFrames [(regFsOpt, BitVec.ofNat 32 (fsOptNum o)), (regFsValue, intWord v)], since := 0
            func := f, pars := [], ref := some (ctxRef c 0x12), immediate := false }) s) s) s

/-- CH_SET_FAILSAFE. -/
def execChSetFailsafe (c : Ctx) (ws : List Word) (s : State) : Outcome := .next (opChSetFailsafe c ws (acceptPacket c s))

/-! ### CH_FORCE and CH_CLEAR_LATCH (R406, R165, R194, R221, R244) -/

/-- The channels a word names: one, or all with 0xFF (R395). -/
def chsOf (w : Word) : Option (List Ch) :=
  if field w 0 8 = 0xFF then some allCh else (chOf w).map fun c => [c]

/-- Set a force or simulation of a channel for the next frame start. -/
def forceCell (op : Nat) (v w3 : Word) (c : Cell) : Cell :=
  if op = 0 then { c with forceNext := some none, simNext := some none }
  else if op = 1 then { c with forceNext := some (some v.toInt) }
  else { c with simNext := some (some (v, w3.setWidth 4)) }

/-- CH_FORCE's operation. -/
def opChForce (c : Ctx) (ws : List Word) (s : State) : State :=
  modeGate [10] c (fun s =>
    let op := field (par ws 1) 8 2
    match chsOf (par ws 1) with
    | none => answer c stBadParam [] s
    | some l =>
      let bad := reservedBad (par ws 1) 0x3FF || op == 3 || !wordCount ws 1 op 2 || (op == 1 && l.any fun ch => !isOut (s.cell ch).cfgFunc) ||
        (op == 2 && reservedBad (par ws 3) 0xF)
      refuseIf bad stBadParam c (fun s =>
        answer c stOk [] (l.foldl (fun s ch => s.modCell ch (forceCell op (par ws 2) (par ws 3))) s)) s) s

/-- CH_FORCE. -/
def execChForce (c : Ctx) (ws : List Word) (s : State) : Outcome := .next (opChForce c ws (acceptPacket c s))

/-- The options of CH_CLEAR_LATCH a function has: COUNTER and CHATTER for DI, PROTECT for DO and XSD, INJ for analogue
inputs, none for the others. -/
def latchOptions : Func → Word
  | .di => 3
  | .dout | .xsd => 4
  | .aiv | .aii | .aih => 8
  | .off | .aoa | .aop => 0

/-- CH_CLEAR_LATCH's operation. -/
def opChClearLatch (c : Ctx) (ws : List Word) (s : State) : State :=
  modeGate modesConfig c (fun s =>
    refuseIf (reservedBad (par ws 1) 0xFF || ws.length != 2) stBadParam c (withCh (par ws 1) c fun ch s =>
      refuseIf (reservedBad (par ws 2) (latchOptions (s.cell ch).cfgFunc)) stBadParam c (fun s =>
        answer c stOk [] (s.modCell ch fun x => { x with clearReq := x.clearReq ||| (par ws 2).setWidth 4 })) s) s) s

/-- CH_CLEAR_LATCH. -/
def execChClearLatch (c : Ctx) (ws : List Word) (s : State) : Outcome := .next (opChClearLatch c ws (acceptPacket c s))

/-! ### INPUT_TEST and INJ_SEQ_CONFIG (R162, R210, R211) -/

/-- The test starts: Q is disconnected, and an open candidate is abandoned (R162). -/
def beginTest (c : Cell) : Cell :=
  { c with pstate := 0, di := { c.di with test := true, cand := none, candOpen := false, candLate := false, candTest := false } }

/-- INPUT_TEST's operation. -/
def opInputTest (c : Ctx) (ws : List Word) (s : State) : State :=
  modeGate modesConfig c (fun s =>
    refuseIf (reservedBad (par ws 1) 0xFF || ws.length != 1) stBadParam c (withCh (par ws 1) c fun ch s =>
      let f := (s.cell ch).cfgFunc
      refuseIf (!(f == .di || isAi f)) stBadParam c (fun s =>
        if (s.cell ch).cal.busy then answer c stBusy [] s
        else longChannel c 0x15 ch 0 (fun s => s.modCell ch beginTest) s) s) s) s

/-- INPUT_TEST. -/
def execInputTest (c : Ctx) (ws : List Word) (s : State) : Outcome := .next (opInputTest c ws (acceptPacket c s))

/-- INJ_SEQ_CONFIG's operation: it answers once the cell confirms, or FAULT with a lane reason. -/
def opInjSeqConfig (c : Ctx) (ws : List Word) (s : State) : State :=
  modeGate modesAll c (fun s =>
    refuseIf (reservedBad (par ws 1) 0xFFF || reservedBad (par ws 2) 0x7777 || ws.length != 2) stBadParam c (withCh (par ws 1) c fun ch s =>
      let n := field (par ws 1) 9 3
      let m (i : Nat) : Nat := field (par ws 2) (4 * i) 3
      let bad := !isAi (s.cell ch).cfgFunc || decide (3 < n) || decide (5 < m 0 ∨ 5 < m 1 ∨ 5 < m 2 ∨ 5 < m 3)
      refuseIf bad stBadParam c (fun s =>
        if (s.cell ch).lane.state ≠ .up then answerFault c 0x16 rcLaneDown s
        else startWrite ch { kind := .inj ⟨bitOf (par ws 1) 8, n + 1, #v[m 0, m 1, m 2, m 3]⟩
                             frames := writeFrames [(regInj, par ws 1), (regInj + 1, par ws 2)], since := 0
                             func := .off, pars := [], ref := some (ctxRef c 0x16), immediate := true } s) s) s) s

/-- INJ_SEQ_CONFIG. -/
def execInjSeqConfig (c : Ctx) (ws : List Word) (s : State) : Outcome := .next (opInjSeqConfig c ws (acceptPacket c s))

/-! ### HART_TX and HART_RX (R237, R238, R241) -/

/-- The frame of a request: delimiter, address, command, byte count, data, checksum (Table 10-6). -/
def hartRequest (long : Bool) (count : Nat) (bs : List Byte) : List Byte :=
  let n := if long then 5 else 1
  let body := (if long then 0x82 else 0x02) :: (bs.take (n + 1) ++ [BitVec.ofNat 8 count] ++ bs.drop (n + 1))
  body ++ [xorBytes body]

/-- A list of `k` words of bytes, four per word, first byte in [31:24], padded with 0. -/
def bytesWords : Nat → List Byte → List Word
  | 0, _ => []
  | k + 1, bs => packWord [(24, 8, (bs.getD 0 0).toNat), (16, 8, (bs.getD 1 0).toNat), (8, 8, (bs.getD 2 0).toNat),
      (0, 8, (bs.getD 3 0).toNat)] :: bytesWords k (bs.drop 4)

/-- Words for consecutive registers. -/
def regBlock (base : Nat) (ws : List Word) : List (Nat × BitVec 32) := (List.range ws.length).map fun i => (base + i, ws.getD i 0)

/-- A request as it travels to the cell, four bytes a frame, after its length (R238, Table 6-5). -/
def hartRegs (bs : List Byte) : List (Nat × BitVec 32) :=
  regBlock regHart (BitVec.ofNat 32 bs.length :: bytesWords ((bs.length + 3) / 4) bs)

/-- HART_TX's operation. -/
def opHartTx (c : Ctx) (ws : List Word) (s : State) : State :=
  modeGate [4, 5, 6, 7, 9, 10] c (fun s =>
    refuseIf (reservedBad (par ws 1) 0xFF01FF) stBadParam c (withCh (par ws 1) c fun ch s =>
      let x := s.cell ch
      let long := bitOf (par ws 1) 8
      let count := field (par ws 1) 16 8
      let n := (if long then 5 else 1) + 1 + count
      let bytes := (ws.drop 1).flatMap wordBytes
      let bad := !(isAo x.cfgFunc || x.cfgFunc == .aii) || valueIn (funcParams x.cfgFunc) x.cfgPar 0x000A0109 != 1 ||
        ws.length != 1 + (n + 3) / 4 || (bytes.drop n).any fun b => b != 0
      refuseIf bad stBadParam c (longChannel c 0x17 ch (par ws 1) fun s =>
        startWrite ch { kind := .hart, frames := writeFrames (hartRegs (hartRequest long count (bytes.take n))), since := 0
                        func := .off, pars := [], ref := some (ctxRef c 0x17), immediate := false }
          (s.modCell ch fun x => { x with hart := { x.hart with ex := some ⟨ctxRef c 0x17, .loading, []⟩ } })) s) s) s

/-- HART_TX. -/
def execHartTx (c : Ctx) (ws : List Word) (s : State) : Outcome := .next (opHartTx c ws (acceptPacket c s))

/-- The reply of HART_RX (Table 10-8); an empty buffer gives W1 alone, with no entry present (log 48). -/
def hartReplyWords (h : HartSt) : List Word :=
  match h.buf with
  | [] => [packWord [(8, 8, h.lost)]]
  | f :: r => packWord [(0, 3, r.length), (3, 1, 1), (4, 2, if f.burst then 1 else 0), (8, 8, h.lost), (16, 16, f.bytes.length)] ::
      tsLo (some f.ts) :: tsHi (some f.ts) :: bytesWords ((f.bytes.length + 3) / 4) f.bytes

/-- HART_RX's operation: the oldest entry, removed; FLUSH empties the buffer and clears LOST. -/
def opHartRx (c : Ctx) (ws : List Word) (s : State) : State :=
  modeGate [4, 5, 6, 7, 9, 10] c (fun s =>
    refuseIf (reservedBad (par ws 1) 0x1FF || ws.length != 1) stBadParam c (withCh (par ws 1) c fun ch s =>
      if bitOf (par ws 1) 8 then
        answer c stOk [0] (s.modCell ch fun x => { x with hart := { x.hart with buf := [], lost := 0 } })
      else
        answer c stOk (hartReplyWords (s.cell ch).hart)
          (s.modCell ch fun x => { x with hart := { x.hart with buf := x.hart.buf.drop 1 } })) s) s

/-- HART_RX. -/
def execHartRx (c : Ctx) (ws : List Word) (s : State) : Outcome := .next (opHartRx c ws (acceptPacket c s))

/-! ### SELFCAL (R249, R250) -/

/-- A named cell is busy for SELFCAL: self-calibrating, in an input test or in a trim (R249). -/
def selfcalBusy (s : State) (ch : Ch) : Bool :=
  let c := s.cell ch
  c.cal.busy || c.di.test || c.cal.trim.isSome ||
    s.ops.any fun o => bitOf o.mask ch.val && o.ref.opcode != 0x17

/-- The named cells start; a HART exchange on one is shed; a cell that cannot calibrate has failed at once. -/
def selfcalStart (m : Word) (s : State) : State :=
  allCh.foldl (fun s ch =>
    if bitOf m ch.val then
      if (s.cell ch).running ∧ (s.cell ch).lane.state = .up then (hartEnd ch stFault rcHartShed s).modCell ch selfcalBegin
      else selfcalTick ch true rcLaneDown s
    else s) s

/-- SELFCAL's operation. -/
def opSelfcal (c : Ctx) (ws : List Word) (s : State) : State :=
  let m := par ws 1
  let onlyAi := allCh.all fun ch => !bitOf m ch.val || isAi (s.cell ch).cfgFunc
  inModes (inModeList s modesNo8 && (onlyAi || s.md.mode == .m3)) c (fun s =>
    if ws.length ≠ 1 then answer c stBadParam [] s
    else if allCh.any (fun ch => bitOf m ch.val && selfcalBusy s ch) || opsFull s c then answer c stBusy [] s
    else selfcalStart m (startOp c { newOp c 0x30 m m with left := m } s)) s

/-- SELFCAL. -/
def execSelfcal (c : Ctx) (ws : List Word) (s : State) : Outcome := .next (opSelfcal c ws (acceptPacket c s))

/-! ### CAL_WRITE, CAL_EXPORT, CAL_RESTORE (R255 to R259) -/

/-- Start the write of a calibration entry: its eight words but for WRITES and the CRC, which the cell makes (R253, R255, log 138). -/
def startEntryWrite (ch : Ch) (p : CalPend) (opcode : Nat) (s : State) : State :=
  startWrite ch { kind := .calEntry, since := 0, func := .off, pars := []
                  frames := writeFrames (regBlock regCal [packWord [(24, 8, p.entry.val), (16, 8, p.user.toNat)], tsHi p.date, tsLo p.date,
                    intWord p.ofs, BitVec.ofNat 32 p.gain, intWord p.coef1, intWord p.coef2])
                  ref := some { p.ref with opcode := opcode }, immediate := false }
    (s.modCell ch fun x => { x with cal := { x.cal with pendW := some p } })

/-- The entry number of a command, 0 to 5. -/
def entryNum (n : Nat) : Option (Fin 6) := if h : n < 6 then some ⟨n, h⟩ else none

/-- CAL_WRITE's operation. -/
def opCalWrite (c : Ctx) (ws : List Word) (s : State) : State :=
  modeGate [3] c (fun s =>
    refuseIf (reservedBad (par ws 1) 0x1FFFF || ws.length != 5) stBadParam c (withCh (par ws 1) c fun ch s =>
      let ofs := wordInt (par ws 2)
      let gain := (par ws 3).toNat
      match entryNum (field (par ws 1) 8 8) with
      | none => answer c stBadParam [] s
      | some e =>
        if e = 4 then answer c stDenied [] s
        else if !entryWithin e.val ofs gain then answer c stBadParam [] s
        else if (s.cell ch).cal.busy || chInUse s ch then answer c stBusy [] s
        else if !(s.cell ch).cal.entries[e].user && !bitOf (par ws 1) 16 then answer c stDenied [] s
        else longChannel c 0x31 ch (par ws 1) (startEntryWrite ch
          ⟨e, true, some s.now, ofs, gain, wordInt (par ws 4), wordInt (par ws 5), [], ctxRef c 0x31⟩ 0x31) s) s) s

/-- CAL_WRITE. -/
def execCalWrite (c : Ctx) (ws : List Word) (s : State) : Outcome := .next (opCalWrite c ws (acceptPacket c s))

/-- The 32-byte entry as eight words, its CRC last (Table 11-3). -/
def entryWords (n : Nat) (e : CalEntry) : List Word :=
  let ws : List Word := [packWord [(24, 8, n), (16, 8, e.user.toNat), (0, 16, e.writes)], tsHi e.date, tsLo e.date,
    intWord e.ofs, BitVec.ofNat 32 e.gain, intWord e.coef1, intWord e.coef2]
  ws ++ [BitVec.ofNat 32 (crc16 ((ws.flatMap wordBytes) ++ [0, 0])).toNat]

/-- The words of the signature pair of a FACTORY entry: those a CAL_RESTORE stored, or those of production, whose last word ends in
three zero bytes (R258, R259, Table 11-4). -/
def sigWordsOf (ch : Ch) (n : Nat) (e : CalEntry) : List Word :=
  if e.sigWords.isEmpty then
    (List.range 844).map fun i => if i = 843 then Config.factorySig ch.val n i &&& 0xFF000000 else Config.factorySig ch.val n i
  else e.sigWords

/-- The export record of an entry (Table 11-4). -/
def exportRecord (s : State) (ch : Ch) (n : Fin 6) : List Word :=
  let e := (s.cell ch).cal.entries[n]
  let total := if e.user then 12 else 856
  [lo32 s.fw.serial, hi32 s.fw.serial, packWord [(0, 8, ch.val), (8, 8, n.val), (16, 16, total)], 0] ++ entryWords n.val e ++
    (if e.user then [] else sigWordsOf ch n.val e)

/-- A window of at most `k` words of a record, from a word offset. -/
def wordsFrom (l : List Word) (off k : Nat) : List Word := (l.drop off).take k

/-- CAL_EXPORT's operation. -/
def opCalExport (c : Ctx) (ws : List Word) (s : State) : State :=
  modeGate modesAll c (fun s =>
    refuseIf (reservedBad (par ws 1) 0xFFFF || ws.length != 3) stBadParam c (withCh (par ws 1) c fun ch s =>
      match entryNum (field (par ws 1) 8 8) with
      | none => answer c stBadParam [] s
      | some e =>
        let r := exportRecord s ch e
        let off := (par ws 2).toNat
        let k := (par ws 3).toNat
        if k = 0 ∨ 240 < k ∨ r.length ≤ off then answer c stBadParam [] s
        else answer c stOk (BitVec.ofNat 32 r.length :: par ws 2 :: wordsFrom r off k) s) s) s

/-- CAL_EXPORT. -/
def execCalExport (c : Ctx) (ws : List Word) (s : State) : Outcome := .next (opCalExport c ws (acceptPacket c s))

/-- A complete export record: its DATE is a TS64, both signatures pass, it is this module's and it is FACTORY; else BAD_PARAM or
DENIED (R8, R259). -/
def restoreRecord (c : Ctx) (sigOk : Bool) (r : List Word) (s : State) : State :=
  let w (i : Nat) : Word := r.getD i 0
  match chOf (w 2), entryNum (field (w 2) 8 8), tsParse (w 6) (w 5) with
  | some ch, some e, some date =>
    if r.length ≠ 856 then answer c stDenied [] s
    else if !sigOk || w 0 != lo32 s.fw.serial || w 1 != hi32 s.fw.serial || field (w 4) 16 8 != 0 then answer c stDenied [] s
    else if (s.cell ch).cal.busy then answer c stBusy [] s
    else longChannel c 0x34 ch 0 (startEntryWrite ch
      ⟨e, false, date, wordInt (w 7), (w 8).toNat, wordInt (w 9), wordInt (w 10), r.drop 12, ctxRef c 0x34⟩ 0x34) s
  | _, _, _ => answer c stBadParam [] s

/-- CAL_RESTORE's operation; the security element's verdict on both signatures is `sigOk`. -/
def opCalRestore (c : Ctx) (ws : List Word) (sigOk : Bool) (s : State) : State :=
  modeGate [3] c (fun s =>
    refuseIf (reservedBad (par ws 1) 0xFFFFFF) stBadParam c (takePart c 0x34 0 (field (par ws 1) 0 16) (field (par ws 1) 16 8)
      (ws.drop 1) (fun r => if r.length < 3 then none else some (field (r.getD 2 0) 16 16)) (restoreRecord c sigOk)) s) s

/-- CAL_RESTORE. -/
def execCalRestore (c : Ctx) (ws : List Word) (sigOk : Bool) (s : State) : Outcome :=
  .next (opCalRestore c ws sigOk (acceptPacket c s))

/-! ### AO_TRIM (R260, R407) -/

/-- START (R256, R407). -/
def trimStart (c : Ctx) (ch : Ch) (factoryOk : Bool) (s : State) : State :=
  if !isAo (s.cell ch).cfgFunc then answer c stBadParam [] s
  else if (s.cell ch).cal.busy || chInUse s ch then answer c stBusy [] s
  else if !(s.cell ch).cal.entries[3].user && !factoryOk then answer c stDenied [] s
  else longChannel c 0x33 ch 0 (fun s => s.modCell ch fun x =>
    { x with cal := { x.cal with trim := some ⟨ctxRef c 0x33, 4000000, none, false, s.clk⟩ } }) s

/-- POINT1: the first reading; the cell then applies 20 mA. -/
def trimPoint1 (c : Ctx) (ch : Ch) (m : Int) (t : TrimSt) (s : State) : State :=
  if 40000 < (m - 4000000).natAbs then answer c stBadParam [] s
  else answer c stOk [] (s.modCell ch fun x =>
    { x with cal := { x.cal with trim := some { t with drive := 20000000, m1 := some m, lastAt := s.clk } } })

/-- POINT2: the second reading; the new entry is written with ORIGIN = USER. -/
def trimPoint2 (c : Ctx) (ch : Ch) (m : Int) (t : TrimSt) (s : State) : State :=
  match t.m1 with
  | none => answer c stBadParam [] s
  | some m1 =>
    let e := trimEntry m1 m
    if 200000 < (m - 20000000).natAbs ∨ entryWithin 3 e.1 e.2 = false then answer c stBadParam [] s
    else startEntryWrite ch ⟨3, true, some s.now, e.1, e.2, 0, 0, [], t.ref⟩ 0x33
      (answer c stOk [] (s.modCell ch fun x => { x with cal := { x.cal with trim := some { t with writing := true, lastAt := s.clk } } }))

/-- CANCEL: the trim is abandoned, and START completes with ABORTED. -/
def trimCancel (c : Ctx) (ch : Ch) (t : TrimSt) (s : State) : State :=
  finishOp t.ref stAborted 0 [] (answer c stOk [] (s.modCell ch fun x => { x with cal := { x.cal with trim := none } }))

/-- POINT1 and POINT2 carry a reading. -/
def trimReads (ws : List Word) : Bool := field (par ws 1) 8 2 == 1 || field (par ws 1) 8 2 == 2

/-- AO_TRIM's operation. -/
def opAoTrim (c : Ctx) (ws : List Word) (s : State) : State :=
  modeGate [3, 10] c (fun s =>
    refuseIf (reservedBad (par ws 1) 0x103FF || !wordCount ws 1 (trimReads ws).toNat 1) stBadParam c (withCh (par ws 1) c fun ch s =>
      let step := field (par ws 1) 8 2
      let m := wordInt (par ws 2)
      if step = 0 then trimStart c ch (bitOf (par ws 1) 16) s
      else match (s.cell ch).cal.trim with
        | none => answer c stBadParam [] s
        | some t =>
          if t.writing then answer c stBadParam [] s
          else if step = 1 then trimPoint1 c ch m t s
          else if step = 2 then trimPoint2 c ch m t s
          else trimCancel c ch t s) s) s

/-- AO_TRIM. -/
def execAoTrim (c : Ctx) (ws : List Word) (s : State) : Outcome := .next (opAoTrim c ws (acceptPacket c s))

end Sys2Proof.Machine
end

