-- ==== Sys2Proof/Machine/Records.lean ====
section
/-! DEFINITION. Reservoir records, their COMTRADE export, SOE reads and life counters (chapter 19, Table 17-7). -/

namespace Sys2Proof.Machine

open Sys2Proof

/-! ### Recording (R437 to R445) -/

/-- A REC_CONFIG setting in force (Table 19-3). -/
def recSet (s : State) (id : Nat) : Nat := (valueIn recParams s.recs.cfg id).toNat

def recSlots (s : State) : Nat := recSet s 0x00130302
def recCap (s : State) : Nat := slotCapacity (recSlots s)

/-- Recording runs: REC_EN, in a mode that records (R439, Table 4-1). -/
def recOn (s : State) : Bool := recSet s 0x00130301 == 1 && modeRecords s.md.mode

/-- The records held, and the numbers of the slots that hold them. -/
def heldSums (s : State) : List RecSum := s.recs.sums.filter fun r => r.held
def heldSlots (s : State) : List Nat := (heldSums s).map fun r => r.slot

/-- The ticks of a slot, newest first. -/
def slotTicks (s : State) (n : Nat) : List TickRec := s.recs.slots.toList.getD n []

/-- Replace the ticks of a slot. -/
def setSlot (n : Nat) (l : List TickRec) (s : State) : State :=
  if h : n < 16 then { s with recs := { s.recs with slots := s.recs.slots.set n l } } else s

/-- A record has a gap: a stretched frame in it, or TICK_CNT that does not run on (R444). -/
def hasGap : List TickRec → Bool
  | a :: b :: r => a.flags.getLsbD 10 || b.cnt + 1 != a.cnt || hasGap (b :: r)
  | [a] => a.flags.getLsbD 10
  | [] => false

/-- TQ of a tick record. -/
def recTq (r : TickRec) : Nat := (r.flags.toNat / 256) % 4

/-- The first free slot: neither writing nor held. -/
def freeSlot (s : State) : Option Nat :=
  (List.range (recSlots s)).find? fun n => n != s.recs.wslot && !(heldSlots s).contains n

/-- The open record closes: its slot is held, the writer moves to a free slot (R442, R444). -/
def closeRecord (trunc : Bool) (s : State) : State :=
  match s.recs.opened with
  | none => s
  | some r =>
    let ts := (slotTicks s s.recs.wslot).take r.ticks
    let done := { r with held := true, slot := s.recs.wslot, trunc := trunc, gap := hasGap ts
                         tq := ts.foldl (fun m t => max m (recTq t)) 0, firstT := (ts.getLastD ⟨0, r.trigT, 0, 0, Vector.replicate 32 0⟩).tk }
    let s1 := setSlot s.recs.wslot ts { s with recs := { s.recs with opened := none, post := 0, sums := (done :: s.recs.sums).take 256 } }
    match freeSlot s1 with
    | some n => setSlot n [] { s1 with recs := { s1.recs with wslot := n } }
    | none => s1

/-- A held record is released: its waveform is given up, its summary says so. -/
def releaseRecord (num : Nat) (s : State) : State :=
  { s with recs := { s.recs with sums := s.recs.sums.map fun r => if r.num = num ∧ r.held = true then { r with held := false, released := true } else r } }

/-- A record is releasable: no REC_READ of it was answered within the last 1 s (R443). -/
def releasable (s : State) (r : RecSum) : Bool :=
  match assocGet r.num s.recs.readAt with
  | some t => s.elapsed t 1000000000
  | none => true

/-- The oldest releasable record. -/
def oldestReleasable (s : State) : Option RecSum := ((heldSums s).reverse).find? (releasable s)

/-- A trigger would open a record now (R443). -/
def wouldOpen (s : State) : Bool :=
  decide ((heldSums s).length < recSlots s - 1) || (recSet s 0x00130306 == 0 && (oldestReleasable s).isSome)

/-- Number of the record after `n` (R445). -/
def nextRecord (n : Nat) : Nat := if n = 65535 then 1 else n + 1

/-- A record opens at the trigger tick just written (R442). -/
def openRecord (n : Nat) (s : State) : State :=
  let l := slotTicks s s.recs.wslot
  let pre := min (recSet s 0x00130303) (l.length - 1)
  let r : RecSum := { num := s.recs.nextNum, mask := BitVec.ofNat 16 (2 ^ n), trigT := s.spring.tk, firstT := 0, ticks := pre + 1
                      code := s.spring.code, tq := 0, held := false, read := false, released := false, trunc := false, gap := false
                      lostPwr := false, slot := s.recs.wslot, pre := pre, funcs := s.cells.toList.map fun c => c.cfgFunc }
  { s with recs := { s.recs with opened := some r, post := recSet s 0x00130304, lastNum := s.recs.nextNum, nextNum := nextRecord s.recs.nextNum } }

/-- Trigger `n` acts in this frame (R442, R443). -/
def recTrigger (s : State) (n : Nat) : State :=
  if !(recOn s && (recSet s 0x00130305).testBit n) then s
  else match s.recs.opened with
    | some r => { s with recs := { s.recs with opened := some { r with mask := r.mask ||| BitVec.ofNat 16 (2 ^ n) } } }
    | none =>
      if (heldSums s).length < recSlots s - 1 then openRecord n s
      else if recSet s 0x00130306 = 0 then
        match oldestReleasable s with
        | some r => openRecord n (releaseRecord r.num s)
        | none => { s with recs := { s.recs with refused := satAdd 16 s.recs.refused 1 } }
      else { s with recs := { s.recs with refused := satAdd 16 s.recs.refused 1 } }

/-- The record writer copies a committed frame, then its triggers act (R439, R442). A record whose POST ticks are written
closes first where RECORD_CLOSE has not come. -/
def recordFrame (t : TickRec) (triggers : List Nat) (s : State) : State :=
  if !recOn s then s
  else
    let s := if s.recs.opened.isSome ∧ s.recs.post = 0 then closeRecord false s else s
    let s := setSlot s.recs.wslot ((t :: slotTicks s s.recs.wslot).take (recCap s)) s
    let s := match s.recs.opened with
      | some r => { s with recs := { s.recs with opened := some { r with ticks := r.ticks + 1 }, post := s.recs.post - 1 } }
      | none => s
    triggers.foldl recTrigger s

/-- RECORD_CLOSE (R442). -/
def execRecordClose (s : State) : Outcome :=
  .next (if s.recs.opened.isSome ∧ s.recs.post = 0 then closeRecord false s else s)

/-- Every waveform is discarded; the summaries of held records are marked (R441, R445). -/
def discardRecords (mark : RecSum → RecSum) (s : State) : State :=
  { s with recs := { s.recs with
      slots := Vector.replicate 16 [], wslot := 0, opened := none, post := 0
      sums := s.recs.sums.map fun r => if r.held then mark { r with held := false } else r } }

/-! ### REC_CONFIG, REC_TRIGGER -/

/-- REC_CONFIG's operation (R441). -/
def opRecConfig (c : Ctx) (ws : List Word) (s : State) : State :=
  modeGate [3] c (fun s =>
    match pairsApply recParams recOk s.recs.cfg ws 0 with
    | none => answer c stBadParam [] s
    | some cfg =>
      let geom := fun (l : List (Nat × Int)) => [0x00130302, 0x00130303, 0x00130304].map fun i => valueIn recParams l i
      let s1 := noteConfig c.src { s with recs := { s.recs with cfg := cfg } }
      if !loadOk s1 then answer c stResource [] s
      else answer c stOk [] (noteBudget (if geom cfg = geom s.recs.cfg then s1 else discardRecords (fun r => { r with released := true }) s1))) s

/-- REC_CONFIG. -/
def execRecConfig (c : Ctx) (ws : List Word) (s : State) : Outcome := .next (opRecConfig c ws (acceptPacket c s))

/-- REC_TRIGGER's operation: the trigger acts at the next commit (R442). -/
def opRecTrigger (c : Ctx) (ws : List Word) (s : State) : State :=
  modeGate modesConfig c (inModes (s.md.mode != .m3) c
    (refuseIf (reservedBad (par ws 1) 0xF || ws.length != 1) stBadParam c fun s =>
      answer c stOk [] { s with recs := { s.recs with trigReq := s.recs.trigReq ||| BitVec.ofNat 16 (2 ^ field (par ws 1) 0 4) } })) s

/-- REC_TRIGGER. -/
def execRecTrigger (c : Ctx) (ws : List Word) (s : State) : Outcome := .next (opRecTrigger c ws (acceptPacket c s))

/-! ### The COMTRADE export (R446 to R448) -/

/-- The bytes of a number in decimal; `fuel` digits at most. -/
def decDigits : Nat → Nat → List Byte
  | 0, _ => []
  | k + 1, n => if n < 10 then [BitVec.ofNat 8 (48 + n)] else decDigits k (n / 10) ++ [BitVec.ofNat 8 (48 + n % 10)]

/-- A number in decimal. -/
def dec (n : Nat) : List Byte := decDigits 24 n

/-- A number in exactly `k` decimal digits. -/
def decPad : Nat → Nat → List Byte
  | 0, _ => []
  | k + 1, n => decPad k (n / 10) ++ [BitVec.ofNat 8 (48 + n % 10)]

/-- A number in exactly `k` hexadecimal digits. -/
def hexPad : Nat → Nat → List Byte
  | 0, _ => []
  | k + 1, n => let d := n % 16; hexPad k (n / 16) ++ [BitVec.ofNat 8 (if d < 10 then 48 + d else 55 + d)]

/-- The bytes of an ASCII text. -/
def ascii (t : String) : List Byte := t.toList.map fun ch => BitVec.ofNat 8 ch.toNat

/-- Fields of a .cfg line, with commas, and the line's end. -/
def cfgLine (fs : List (List Byte)) : List Byte := (fs.intersperse (ascii ",")).flatten ++ [13#8, 10#8]

/-- Year, month and day of a day number since 1970-01-01. -/
def civil (z : Nat) : Nat × Nat × Nat :=
  let z := z + 719468
  let era := z / 146097
  let doe := z % 146097
  let yoe := (doe - doe / 1460 + doe / 36524 - doe / 146096) / 365
  let doy := doe - (365 * yoe + yoe / 4 - yoe / 100)
  let mp := (5 * doy + 2) / 153
  let m := if mp < 10 then mp + 3 else mp - 9
  (yoe + era * 400 + (if m ≤ 2 then 1 else 0), m, doy - (153 * mp + 2) / 5 + 1)

/-- Date and time of an instant as C37.111 writes them, in UTC where the offset is known, else in TAI (R447). -/
def cfgTime (s : State) (t : Nat) : List (List Byte) :=
  let t := if s.spring.utcValid then ((t : Int) - s.spring.utcOfs * 1000000000).toNat else t
  let sec := t / 1000000000
  let d := civil (sec / 86400)
  let r := sec % 86400
  [decPad 2 d.2.2 ++ ascii "/" ++ decPad 2 d.2.1 ++ ascii "/" ++ decPad 4 d.1,
   decPad 2 (r / 3600) ++ ascii ":" ++ decPad 2 (r / 60 % 60) ++ ascii ":" ++ decPad 2 (r % 60) ++ ascii "." ++ decPad 9 (t % 1000000000)]

/-- The function of a channel in a record. -/
def recFunc (r : RecSum) (c : Ch) : Func := r.funcs.getD c.val .off

/-- Channels with an analogue channel, and the digital channels with the TI_VALUE bit each shows (R447). -/
def analogCh (r : RecSum) : List Ch := allCh.filter fun c => isAi (recFunc r c) || isAo (recFunc r c)
def digitalCh (r : RecSum) : List (Ch × Nat × String) :=
  allCh.flatMap fun c =>
    match recFunc r c with
    | .di => [(c, 0, "STATE")]
    | .dout | .xsd => [(c, 0, "CMD"), (c, 1, "ON")]
    | .off | .aiv | .aii | .aih | .aoa | .aop => []

/-- Unit and factor of an analogue channel (R447). -/
def cfgUnit : Func → String × String
  | .aiv => ("V", "0.000001")
  | .aih => ("V", "0.00001")
  | _ => ("mA", "0.000001")

/-- timemult and its divisor in ns×10^-3: the smallest with which the duration fits (R447). -/
def timeMult (dur : Nat) : String × Nat :=
  if dur < 2 ^ 31 then ("0.001", 1) else if dur / 10 < 2 ^ 31 then ("0.01", 10) else if dur / 100 < 2 ^ 31 then ("0.1", 100)
  else ("1", 1000)

/-- tmq_code of the worst TQ (R447). -/
def tmqCode (s : State) (tq : Nat) : List Byte :=
  if !s.spring.utcValid then ascii "F" else if tq = 0 then ascii "0" else if tq = 1 then ascii "5" else if tq = 2 then ascii "B" else ascii "F"

/-- leapsec: a leap second inserted or deleted within the record (R447). -/
def leapCode (s : State) (t0 t1 : Nat) : List Byte :=
  match s.spring.leapAt with
  | some (t, inserted) => if t0 ≤ t ∧ t ≤ t1 then (if inserted then ascii "1" else ascii "2") else ascii "0"
  | none => ascii "0"

/-- The .cfg of a record (R447). -/
def cfgFile (s : State) (r : RecSum) (ts : List TickRec) : List Byte :=
  let an := analogCh r
  let dg := digitalCh r
  let last := (ts.getLastD ⟨0, r.firstT, 0, 0, Vector.replicate 32 0⟩).tk
  let aLine := fun (x : Nat × Ch) =>
    let u := cfgUnit (recFunc r x.2)
    cfgLine [dec (x.1 + 1), Config.cfgText 0 x.2.val, [], [], ascii u.1, ascii u.2, ascii "0", ascii "0",
      Config.cfgText 1 x.2.val, Config.cfgText 2 x.2.val, ascii "1", ascii "1", ascii "P"]
  let dLine := fun (x : Nat × Ch × Nat × String) =>
    cfgLine [dec (x.1 + 1), ascii "CH" ++ decPad 2 x.2.1.val ++ ascii " " ++ ascii x.2.2.2, [], [], ascii "0"]
  cfgLine [ascii "YTN32-" ++ hexPad 16 s.fw.serial, dec r.num, ascii "2013"]
    ++ cfgLine [dec (an.length + dg.length), dec an.length ++ ascii "A", dec dg.length ++ ascii "D"]
    ++ ((List.range an.length).zip an).flatMap aLine ++ ((List.range dg.length).zip dg).flatMap dLine
    ++ cfgLine [ascii (if recSet s 0x00130307 = 1 then "60" else "50")]
    ++ cfgLine [ascii (if r.gap then "0" else "1")]
    ++ cfgLine [if r.gap then ascii "0" else dec (tickRate r.code), dec ts.length]
    ++ cfgLine (cfgTime s r.firstT) ++ cfgLine (cfgTime s r.trigT) ++ cfgLine [ascii "BINARY32"]
    ++ cfgLine [ascii (timeMult (last - r.firstT)).1] ++ cfgLine [ascii "0", ascii "0"]
    ++ cfgLine [tmqCode s r.tq, leapCode s r.firstT last]

/-- Four bytes, and two bytes, least significant first. -/
def le32 (n : Nat) : List Byte := [BitVec.ofNat 8 n, BitVec.ofNat 8 (n / 256), BitVec.ofNat 8 (n / 65536), BitVec.ofNat 8 (n / 16777216)]
def le16 (n : Nat) : List Byte := [BitVec.ofNat 8 n, BitVec.ofNat 8 (n / 256)]

/-- Digital channels in groups of 16, the first in bit 0. -/
def digWords : Nat → List Bool → List Byte
  | 0, _ => []
  | _, [] => []
  | k + 1, l =>
    let g := l.take 16
    le16 (((List.range 16).zip g).foldl (fun n x => if x.2 then n + 2 ^ x.1 else n) 0) ++ digWords k (l.drop 16)

/-- One .dat sample (R448). -/
def datSample (r : RecSum) (div n : Nat) (t : TickRec) : List Byte :=
  le32 n ++ le32 ((t.tk - r.firstT) / div)
    ++ (analogCh r).flatMap (fun c => le32 (if t.valid.getLsbD c.val then t.vals[c].toNat else 0x80000000))
    ++ digWords 4 ((digitalCh r).map fun x => t.vals[x.1].getLsbD x.2.1)

/-- The .dat of a record. -/
def datFile (r : RecSum) (ts : List TickRec) : List Byte :=
  let last := (ts.getLastD ⟨0, r.firstT, 0, 0, Vector.replicate 32 0⟩).tk
  let div := (timeMult (last - r.firstT)).2
  ((List.range ts.length).zip ts).flatMap fun x => datSample r div (x.1 + 1) x.2

/-- Zero bytes up to a multiple of 4. -/
def padFour (l : List Byte) : List Byte := l ++ List.replicate ((4 - l.length % 4) % 4) 0

/-- The export stream of a record (Table 19-5). -/
def exportStream (s : State) (r : RecSum) : List Byte :=
  let ts := ((slotTicks s r.slot).take r.ticks).reverse
  let cfg := cfgFile s r ts
  let dat := datFile r ts
  wordBytes (BitVec.ofNat 32 cfg.length) ++ wordBytes (BitVec.ofNat 32 dat.length) ++ padFour cfg ++ dat

/-- The eight words of a summary (Table 19-4). -/
def summaryWords (r : RecSum) : List Word :=
  [packWord [(0, 16, r.num), (16, 16, r.mask.toNat)], tsLo (some r.trigT), tsHi (some r.trigT), tsLo (some r.firstT), tsHi (some r.firstT),
   BitVec.ofNat 32 r.ticks,
   packWord [(0, 3, r.code), (3, 2, r.tq), (8, 1, r.held.toNat), (9, 1, r.read.toNat), (10, 1, r.released.toNat), (11, 1, r.trunc.toNat),
     (12, 1, r.gap.toNat), (13, 1, r.lostPwr.toNat), (16, 4, r.slot)],
   BitVec.ofNat 32 r.pre]

/-- Four bytes a word, the first in [31:24], the last word padded with zeros. -/
def packBytes : Nat → List Byte → List Word
  | 0, _ => []
  | _, [] => []
  | k + 1, l =>
    packWord [(24, 8, (l.getD 0 0).toNat), (16, 8, (l.getD 1 0).toNat), (8, 8, (l.getD 2 0).toNat), (0, 8, (l.getD 3 0).toNat)]
      :: packBytes k (l.drop 4)

/-- What a REC_READ that was answered leaves: READ once the last byte has gone, and the release under STOP (R443). -/
def noteRead (num off words total : Nat) (s : State) : State :=
  let s1 := { s with recs := { s.recs with readAt := assocSet num s.clk s.recs.readAt } }
  if off + 4 * words < total then s1
  else
    let s2 := { s1 with recs := { s1.recs with sums := s1.recs.sums.map fun r => if r.num = num ∧ r.held = true then { r with read := true } else r } }
    if recSet s 0x00130306 = 1 then releaseRecord num s2 else s2

/-- Part of a stream from a byte offset; an offset at or beyond its end answers BAD_PARAM (R446). -/
def answerStream (c : Ctx) (stream : List Byte) (off words : Nat) (after : State → State) (s : State) : State :=
  if stream.length ≤ off then answer c stBadParam [] s
  else answer c stOk (BitVec.ofNat 32 stream.length :: BitVec.ofNat 32 off :: packBytes words (stream.drop off)) (after s)

/-- REC_READ's operation (R445, R446). -/
def opRecRead (c : Ctx) (ws : List Word) (s : State) : State :=
  modeGate modesAll c (fun s =>
    let num := field (par ws 1) 0 16
    let off := (par ws 2).toNat
    let n := (par ws 3).toNat
    if reservedBad (par ws 1) 0xFFFF || ws.length != 3 || n = 0 || 240 < n then answer c stBadParam [] s
    else if num = 0 then
      memoryRead 1 c 0x72 (answerStream c (s.recs.sums.flatMap fun r => (summaryWords r).flatMap wordBytes) off n id) s
    else match (heldSums s).find? fun r => r.num == num with
      | none => answer c stBadParam [] s
      | some r =>
        let st := exportStream s r
        memoryRead 0 c 0x72 (answerStream c st off n (noteRead num off n st.length)) s) s

/-- REC_READ. -/
def execRecRead (c : Ctx) (ws : List Word) (s : State) : Outcome := .next (opRecRead c ws (acceptPacket c s))

/-! ### SOE_READ (R451) -/

/-- The three words of an SOE entry (Table 19-6). -/
def soeWords (e : SoeEntry) : List Word :=
  [tsLo e.ts, tsHi e.ts, packWord [(0, 16, e.low), (16, 8, e.chan), (24, 3, e.kind), (27, 1, e.test.toNat), (28, 1, e.late.toNat),
    (29, 1, e.st.toNat), (30, 2, e.tq)]]

/-- Entries of a log from an index, `next` being the next one to be written: one overwritten gives the oldest one held. -/
def soeFrom (log : List SoeEntry) (next first n : Nat) : Nat × List SoeEntry :=
  let behind := (next + 2 ^ 32 - first % 2 ^ 32) % 2 ^ 32
  let back := if behind ≤ log.length then behind else if 2 ^ 31 ≤ behind then 0 else log.length
  ((next + 2 ^ 32 - back) % 2 ^ 32, ((log.take back).reverse).take (min n 82))

/-- SOE_READ's operation. -/
def opSoeRead (c : Ctx) (ws : List Word) (s : State) : State :=
  modeGate modesAll c
    (refuseIf (reservedBad (par ws 1) 1 || ws.length != 3) stBadParam c fun s =>
      let mram := bitOf (par ws 1) 0
      let r := soeFrom (if mram then s.soe.mlog else s.soe.ring) ((if mram then s.soe.midx else s.soe.idx) % 2 ^ 32)
        (par ws 2).toNat (par ws 3).toNat
      memoryRead (if mram then 1 else 0) c 0x73
        (answer c stOk (BitVec.ofNat 32 r.1 :: BitVec.ofNat 32 (r.1 + r.2.length) :: r.2.flatMap soeWords)) s) s

/-- SOE_READ. -/
def execSoeRead (c : Ctx) (ws : List Word) (s : State) : Outcome := .next (opSoeRead c ws (acceptPacket c s))

/-! ### Life counters (R453 to R455) -/

/-- The declared maximum field voltage of a powered cell (R453). -/
def cellVolts (c : Cell) : Int :=
  if !c.powered then 0
  else match c.cfgFunc with
    | .di => valueIn (funcParams .di) c.cfgPar 0x00070105
    | .xsd => valueIn (funcParams .xsd) c.cfgPar 0x00080113
    | .aop => valueIn (funcParams .aop) c.cfgPar 0x000A0102
    | _ => 0

/-- The histogram counter of a case temperature in 1/64 °C (Table 19-8 rows 4 to 11). -/
def tempBin (t : Int) : Nat :=
  if t < 0 then 3 else if t < 20 * 64 then 4 else if t < 40 * 64 then 5 else if t < 60 * 64 then 6
  else if t < 70 * 64 then 7 else if t < 80 * 64 then 8 else if t < 90 * 64 then 9 else 10

/-- The voltage counter of the highest declared voltage (Table 19-8 rows 12 to 14). -/
def voltBin (v : Int) : Nat := if v ≤ 60 then 11 else if v ≤ 150 then 12 else 13

/-- Add to a module life counter. -/
def ctrAdd (i n : Nat) (s : State) : State :=
  if h : i < 17 then { s with life := { s.life with ctrs := s.life.ctrs.set i (satAdd 64 s.life.ctrs[i] n) } } else s

/-- Count the whole seconds powered since the last count (R453). -/
def lifeCount (s : State) : State :=
  let secs := (s.clk - s.life.acc) / 1000000000
  let v := s.cells.toList.foldl (fun m c => max m (cellVolts c)) 0
  let s1 := { s with life := { s.life with acc := s.life.acc + secs * 1000000000 } }
  ctrAdd (voltBin v) secs (ctrAdd (tempBin s.pwr.caseT) secs (ctrAdd 0 secs s1))

/-- Write the counters to MRAM (R454); how many words that and the other MRAM writes since took is a free value. -/
def lifeSave (s : State) : State :=
  let s1 := ctrAdd 16 (Config.free s.free) (lifeCount s).drawFree
  { s1.mapCells (fun _ c => { c with lifeSaved := c.life }) with
    life := { s1.life with saved := s1.life.ctrs, savedAt := s1.clk } }

/-- LIFE_COUNTER_SAVE: the core, while it runs, saves them every 60 s (R454). -/
def execLifeCounterSave (s : State) : Outcome := .next (whenCore lifeSave s)

/-- LIFE_CELL_COPY: each powered cell's store takes a copy of its channel counters (R455). -/
def execLifeCellCopy (s : State) : Outcome :=
  .next (s.mapCells fun _ c => if c.lane.state = .up then { c with lifeCopy := c.life } else c)

/-- 64-bit counters as LO and HI pairs. -/
def pairWords (l : List Nat) : List Word := l.flatMap fun n => [lo32 n, hi32 n]

/-- LIFE_READ's operation (R453). -/
def opLifeRead (c : Ctx) (ws : List Word) (s : State) : State :=
  modeGate modesAll c
    (refuseIf (reservedBad (par ws 1) 0xFF || ws.length != 1) stBadParam c fun s =>
      let s1 := lifeCount s
      memoryRead 1 c 0x74 (fun s =>
        if field (par ws 1) 0 8 = 0xFF then answer c stOk (pairWords s.life.ctrs.toList) s
        else withCh (par ws 1) c (fun ch s => answer c stOk (pairWords (s.cell ch).life.toList) s) s) s1) s

/-- LIFE_READ. -/
def execLifeRead (c : Ctx) (ws : List Word) (s : State) : Outcome := .next (opLifeRead c ws (acceptPacket c s))

end Sys2Proof.Machine
end

