-- ==== Sys2Proof/Machine/Regs.lean ====
section
/-! DEFINITION. What every register of the window reads (Table 21-2), block by block. -/

namespace Sys2Proof.Machine

open Sys2Proof

/-- A Boolean field of a register. -/
def bit1 (lo : Nat) (b : Bool) : Nat × Nat × Nat := (lo, 1, b.toNat)

/-- Whole seconds since an instant, saturating at `w` bits. -/
def secsSince (s : State) (t w : Nat) : Nat := min ((s.clk - t) / 1000000000) (2 ^ w - 1)

/-! ### Identity and global state (Tables 21-3, 21-4, 4-7, 3-12, 20-10) -/

/-- The core knows of the hold-over of a cell from its frames, its HELLO first; else as it last stood (R143, R144). -/
def holdKnown (c : Cell) : Bool := if fromCell c then c.wd == .holdover else field c.bits 10 2 == 1

/-- A service hold-over is in force: a cell is in hold-over, in SERVICE or after a warm reset (R143, R475). -/
def holdoverOn (s : State) : Bool := s.cells.toList.any holdKnown

/-- A force or a simulation is in force (R282, R406). -/
def anyForce (s : State) : Bool := s.cells.toList.any fun c => c.force.isSome || c.sim.isSome

/-- A SYS_CONFIG setting in force (Table 4-10). -/
def sysSet (s : State) (row : Nat) : Nat := (valueIn sysParams s.sys (0x00040A00 + row)).toNat

/-- MODE (Table 4-7). -/
def modeWord (s : State) : Word :=
  packWord [(0, 4, modeNum s.md.mode), (4, 4, s.md.prev), bit1 8 s.md.loss, bit1 9 s.flt.stormHold, bit1 10 (holdoverOn s),
    bit1 11 (anyForce s), (12, 3, s.md.safeWhy), (15, 1, sysSet s 1)]

/-- PWR_STATE (Table 3-12). -/
def pwrStateWord (s : State) : Word :=
  packWord [(0, 3, s.pwr.pstate), (4, 3, s.pwr.limit), bit1 8 s.pwr.vsysValid, bit1 9 s.pwr.vioOk, bit1 10 s.pwr.vbatOk,
    bit1 11 s.pwr.holdupOk]

/-- BOOT_SLOT (Table 20-10). -/
def bootSlotWord (s : State) : Word :=
  let f := s.fw
  packWord [(0, 1, f.bootCfw), (1, 1, f.bootLgp), (2, 1, f.actCfg), (3, 1, f.actCmc), bit1 4 f.prevBoot,
    bit1 5 (f.trial && f.bootCfw == f.actCfw), (6, 2, f.attempt), bit1 8 f.dirty]

/-- The identity block. -/
def idRead (s : State) : Nat → Word
  | 0x00 => 0x4B57414F
  | 0x04 => 0x59542000
  | 0x08 => s.fw.idRev.setWidth 32
  | 0x0C => lo32 s.fw.serial
  | 0x10 => hi32 s.fw.serial
  | 0x14 => modeWord s
  | 0x18 => pwrStateWord s
  | 0x1C => BitVec.ofNat 32 (secsSince s s.md.resetAt 32)
  | 0x20 => bootSlotWord s
  | 0x24 => s.fw.fwVer
  | 0x28 => s.fw.lgpVer
  | 0x2C => s.fw.cmcVer
  | 0x30 => s.fw.cfgVer
  | _ => 0

/-! ### Events (Tables 15-8 to 15-11) -/

/-- A third of a 96-bit mask. -/
def third (i : Nat) (m : BitVec 96) : Word := (m >>> (32 * i)).setWidth 32

/-- EVT_FIRST (Table 15-9). -/
def evtFirstWord (s : State) : Word :=
  packWord [(0, 7, s.evt.firstSrc), bit1 7 s.evt.firstValid, (16, 16, s.evt.firstTick)]

/-- The event block. -/
def evtRead (s : State) : Nat → Word
  | 0x00 => third 0 s.evt.pend
  | 0x04 => third 1 s.evt.pend
  | 0x08 => third 2 s.evt.pend
  | 0x0C => third 0 s.evt.mask
  | 0x10 => third 1 s.evt.mask
  | 0x14 => third 2 s.evt.mask
  | 0x18 => evtFirstWord s
  | 0x1C => s.evt.intCtl.setWidth 32
  | 0x20 => (evtSysRead s).setWidth 32
  | _ => 0

/-! ### Host port (Table 15-12) -/

/-- HEAD_LEN: words of the head entry, 0 when the queue is empty (Table 15-4). -/
def headLen (s : State) : Nat := (s.hp.queue.head?.map fun e => e.words.length).getD 0

/-- HP_QUEUE (Table 15-12). -/
def hpQueueWord (s : State) : Word :=
  packWord [(0, 5, s.hp.queue.length), (8, 2, s.hp.inBuf), (12, 4, opsOf s .host), (24, 8, headLen s)]

/-- HP_ALIVE: EXPECTED follows the last accepted counter (R373). -/
def hpAliveWord (s : State) : Word :=
  let a := aliveOf s .host
  packWord [(0, 8, a.last.toNat), (8, 8, if a.sync then (a.last + 1).toNat else 0), bit1 16 a.sync, (24, 8, a.tag.toNat)]

/-- The host port block. -/
def hpRead (s : State) : Nat → Word
  | 0x00 => packWord [bit1 0 s.hp.mode3, (8, 8, s.hp.lastErr.toNat), (16, 16, s.hp.since)]
  | 0x04 => hpAliveWord s
  | 0x08 => BitVec.ofNat 32 s.hp.frames
  | 0x0C => packWord [(0, 16, s.hp.eFrame), (16, 16, s.hp.eLen)]
  | 0x10 => packWord [(0, 16, s.hp.eReg), (16, 16, s.hp.ePkt)]
  | 0x14 => packWord [(0, 16, s.hp.eAlive), (16, 16, s.hp.eRepeat)]
  | 0x18 => packWord [(0, 16, s.hp.eRefused), (16, 16, s.hp.eStretch)]
  | 0x1C => packWord [(0, 16, s.hp.eRdy)]
  | 0x20 => hpQueueWord s
  | _ => 0

/-! ### Time (Tables 5-9 to 5-13) -/

/-- TICK_CFG (Table 5-10). -/
def tickCfgWord (s : State) : Word :=
  let p := s.spring
  packWord [(0, 3, p.code), bit1 3 p.next.isSome, (4, 3, (p.next.map fun n => n.code).getD p.code), (16, 16, p.stretch)]

/-- A PTP_CONFIG setting in force. -/
def ptpSet (s : State) (id : Nat) : Int := valueIn ptpParams s.net.ptp id

/-- The module takes its tick from the culvert tick master (R337). -/
def stackFollow (s : State) : Bool := s.cas.state == 2 && s.cas.role == 0 && !s.cas.localT

/-- TIME_STAT (Table 5-11). -/
def timeStatWord (s : State) : Word :=
  let p := s.spring
  packWord [(0, 3, springNum p.state), (3, 2, (ptpSet s 0x00050601).toNat), bit1 5 p.rtcValid, bit1 6 p.slewing, bit1 7 p.utcValid,
    bit1 8 (stackFollow s), bit1 9 (decide (s.tq ≤ 1)), (16, 16, p.lockMin)]

/-- UTC_OFS (Table 5-12). -/
def utcWord (s : State) : Word :=
  let p := s.spring
  packWord [(0, 16, intBits 16 p.utcOfs), bit1 16 p.leap61, bit1 17 p.leap59, bit1 18 p.utcValid]

/-- SYNC_CFG (Table 5-13). -/
def syncCfgWord (s : State) : Word :=
  packWord [(0, 2, (ptpSet s 0x00050D01).toNat), (2, 1, (ptpSet s 0x00050D02).toNat), (4, 2, (ptpSet s 0x00050D04).toNat),
    (6, 1, (ptpSet s 0x00050D05).toNat), (16, 16, s.spring.ppsRej)]

/-- The time block. -/
def timeRead (s : State) : Nat → Word
  | 0x00 => tickCfgWord s
  | 0x04 => packWord [(0, 14, s.spring.num)]
  | 0x08 => lo32 s.spring.cnt
  | 0x0C => hi32 s.spring.cnt
  | 0x10 => tsLo (some s.now)
  | 0x14 => tsHi (some s.now)
  | 0x18 => timeStatWord s
  | 0x1C => intWord s.spring.offset
  | 0x20 => intWord s.spring.freq
  | 0x24 => BitVec.ofNat 32 s.spring.holdEst
  | 0x28 => utcWord s
  | 0x2C => syncCfgWord s
  | 0x30 => tsLo s.spring.syncTs
  | 0x34 => tsHi s.spring.syncTs
  | 0x38 => packWord [(0, 16, s.spring.stepCnt)]
  | 0x3C => packWord [(0, 16, s.spring.slewCnt)]
  | _ => 0

/-! ### Faults (Tables 18-5 to 18-9, 4-8, 4-9) -/

/-- The sources 32·`i` to 32·`i` + 31 for which a test holds, as a word. -/
def srcMask (s : State) (i : Nat) (p : FltSrc → Bool) : Word :=
  (List.range 32).foldl (fun m k =>
    if h : 32 * i + k < 96 then (if p s.srcs[32 * i + k] then m ||| BitVec.ofNat 32 (2 ^ k) else m) else m) 0

/-- FLT_SUMMARY (Table 18-6). -/
def fltSummaryWord (s : State) : Word :=
  packWord [(0, 7, countIf (fun f => f.present) s.srcs.toList), (8, 7, countIf (fun f => f.severe) s.srcs.toList),
    bit1 16 (!errOk s), bit1 17 (!s.flt.settle.isEmpty), bit1 18 s.flt.injSeen]

/-- ERR_CTL (Table 18-7). -/
def errCtlWord (s : State) : Word :=
  packWord [bit1 0 s.flt.errDyn, bit1 1 s.flt.errLatch, (8, 8, s.flt.errHold), bit1 16 (anyHold s), bit1 17 (ackWait s)]

/-- FLT_LAST (Table 18-9). -/
def fltLastWord (s : State) : Word :=
  let f := s.flt
  packWord [(0, 7, f.lastSrc), bit1 7 f.lastValid, bit1 8 f.lastConseq, bit1 9 f.lastSevere, bit1 10 f.lastInj, (16, 16, f.lastDetail)]

/-- RESET_CAUSE (Table 4-8). -/
def resetCauseWord (s : State) : Word :=
  let m := s.md
  packWord [(0, 4, m.cause), bit1 4 m.causeCold, bit1 5 m.prevSlot, bit1 6 m.causeStorm, (8, 8, m.causeFs), (16, 4, m.lastMode)]

/-- The fault block. -/
def fltRegRead (s : State) : Nat → Word
  | 0x00 => fltSummaryWord s
  | 0x04 => srcMask s 0 fun f => f.severe
  | 0x08 => srcMask s 1 fun f => f.severe
  | 0x0C => srcMask s 2 fun f => f.severe
  | 0x10 => srcMask s 0 fun f => f.present
  | 0x14 => srcMask s 1 fun f => f.present
  | 0x18 => srcMask s 2 fun f => f.present
  | 0x1C => errCtlWord s
  | 0x24 => fltLastWord s
  | 0x28 => resetCauseWord s
  | 0x2C => packWord [(0, 16, s.md.rstTotal), (16, 4, s.md.rstWindow)]
  | _ => 0

/-! ### Cell windows (Tables 6-10 to 6-15) -/

/-- The number of a lane state (Table 6-3). -/
def laneNum : LaneState → Nat
  | .down => 0 | .train => 1 | .up => 2

/-- CELL_STAT (Table 6-11): what comes from the cell is live while the headgate hears the cell and keeps its last
value else (R144). -/
def cellStatWord (c : Cell) : Word :=
  (if fromCell c then cellStatBits c else c.bits) |||
    packWord [(4, 2, laneNum c.lane.state), bit1 15 c.valid, bit1 16 (c.causeNow != 0)]

/-- A cell window. -/
def cellRead (c : Cell) : Nat → Word
  | 0x00 => cellStatWord c
  | 0x04 => c.cause.setWidth 32
  | 0x08 => c.value
  | 0x0C => c.aux
  | 0x10 => c.temp
  | 0x14 => c.supply
  | 0x18 => packWord [(0, 16, c.epoch), (16, 4, c.rstWhy)]
  | 0x1C => packWord [(0, 8, c.lane.retry), (8, 8, c.lane.failed), (16, 8, c.lane.downs), (28, 4, c.lane.lastCause)]
  | 0x20 => lo32 c.cnt
  | 0x24 => hi32 c.cnt
  | 0x28 => tsLo c.tse
  | 0x2C => tsHi c.tse
  | 0x30 => if fromCell c then calWord c else c.calReg
  | _ => 0

/-! ### The tick image (Tables 12-8 and 12-9) -/

/-- The buffer the host sees (R289). -/
def tiSeen (s : State) : TiBuf := s.ti.view.getD s.ti.live

/-- The channel of an index below 32. -/
def chAt (n : Nat) : Ch := ⟨n % 32, by omega⟩

/-- The tick image block. -/
def tiRead (s : State) (off : Nat) : Word :=
  let b := tiSeen s
  if off < 0x200 then
    let c := chAt (off / 16)
    match off % 16 with
    | 0x0 => b.vals[c]
    | 0x4 => b.stat[c]
    | 0x8 => b.ts[c]
    | _ => b.seq[c]
  else if off < 0x280 then b.outs[chAt ((off - 0x200) / 4)]
  else match off with
    | 0x280 => lo32 b.cnt
    | 0x284 => hi32 b.cnt
    | 0x288 => tsLo b.tk
    | 0x28C => tsHi b.tk
    | 0x290 => b.flags
    | 0x400 => packWord [bit1 0 s.ti.view.isSome, bit1 1 s.ti.auto, (8, 4, s.ti.age)]
    | _ => 0

/-! ### The logic engine (Table 12-10) -/

/-- LE_STAT.STATE. -/
def leState (e : Engine) : Nat := if e.deact then 3 else if e.active.isNone then 0 else if e.running then 2 else 1

/-- A number of the active program, 0 without one. -/
def ofActive (s : State) (f : Program → Nat) : Word := BitVec.ofNat 32 ((s.eng.active.map f).getD 0)

/-- The engine block. -/
def engRead (s : State) : Nat → Word
  | 0x00 => packWord [(0, 2, leState s.eng), bit1 2 s.eng.staged.isSome, bit1 3 s.eng.online, (4, 3, (s.eng.active.map fun p => p.code).getD 0)]
  | 0x04 => (s.eng.active.map fun p => p.progId).getD 0
  | 0x08 => if s.spring.ticked then BitVec.ofNat 32 (winCyc s.spring.code) else 0
  | 0x0C => ofActive s evalCyc
  | 0x10 => ofActive s passCyc
  | 0x14 => ofActive s fun p => periodMin s.spring.code - 10000 - 2 * passCyc p
  | 0x18 => packWord [(0, 8, s.eng.lastPass), bit1 8 s.eng.lastFb, bit1 9 s.eng.lastAb, (16, 16, s.eng.lastEnd)]
  | 0x1C => packWord [(0, 8, s.eng.peakPass), (16, 16, s.eng.peakEnd)]
  | 0x20 => lo32 s.eng.frames
  | 0x24 => hi32 s.eng.frames
  | 0x28 => BitVec.ofNat 32 s.eng.cFallback
  | 0x2C => BitVec.ofNat 32 s.eng.cLate
  | 0x30 => BitVec.ofNat 32 s.eng.cRevert
  | 0x34 => BitVec.ofNat 32 s.eng.cReplay
  | 0x38 => BitVec.ofNat 32 s.eng.cArith
  | _ => 0

/-! ### Network (Tables 13-11 to 13-13) -/

/-- A NET_CONFIG setting in force. -/
def netSet (s : State) (id : Nat) : Nat := (valueIn netParams s.net.cfg id).toNat

/-- The network mode in force: 0 SINGLE, 1 INDEP, 2 HSR, 3 PRP; none before a configuration is in force. -/
def netMode (s : State) : Option Nat := if s.net.applied then some (netSet s 0x000D0201) else none

/-- NET_STAT (Table 13-12). -/
def netStatWord (s : State) : Word :=
  let m := netMode s
  let ring := (m == some 2 || m == some 3) && !(s.fsrc 58).present
  packWord [(0, 2, m.getD 0), bit1 2 s.net.applied, bit1 3 ring, bit1 4 (m == some 0 && netSet s 0x000D0202 == 1),
    bit1 8 s.net.a.lost, bit1 9 s.net.b.lost]

/-- PORTA_STAT and PORTB_STAT (Table 13-13). -/
def portStatWord (s : State) (p : Port) : Word :=
  packWord [bit1 0 p.en, bit1 1 p.link, bit1 2 p.sgmii, bit1 3 p.anDone, bit1 4 p.preempt, (8, 8, p.downs),
    (16, 16, secsSince s p.changed 16)]

/-- VALID bits of a list of subscriptions. -/
def validMask (l : List GSub) : Nat := ((List.range l.length).zip l).foldl (fun n x => if x.2.valid then n + 2 ^ x.1 else n) 0

/-- Publications defined, as a mask. -/
def defMask (l : List GPub) : Nat := ((List.range l.length).zip l).foldl (fun n x => if x.2.defn.isSome then n + 2 ^ x.1 else n) 0

/-- PUB_STAT (Table 13-11): the publications that send in the present mode. -/
def pubStatWord (s : State) : Word :=
  let on := modePublishes s.md.mode
  packWord [(0, 16, if on then defMask s.net.gpub.toList else 0), (16, 8, if on then defMask s.net.mpub.toList else 0),
    (24, 4, if modeSvPublishes s.md.mode then defMask s.net.sv.toList else 0)]

/-- MGMT_EN (Table 13-2). -/
def mgmtEn (s : State) : Bool := s.net.applied && netSet s 0x000D020C == 1

/-- The network block. -/
def netRead (s : State) : Nat → Word
  | 0x00 => netStatWord s
  | 0x04 => portStatWord s s.net.a
  | 0x08 => portStatWord s s.net.b
  | 0x0C => packWord [(0, 12, s.net.dups.length), (16, 16, s.net.early)]
  | 0x10 => packWord [(0, 4, s.net.a.role), (4, 4, s.net.b.role), (8, 8, s.net.steps), (16, 8, s.net.gmClass), bit1 24 (netMode s == some 2)]
  | 0x14 => lo32 s.net.gmId
  | 0x18 => hi32 s.net.gmId
  | 0x1C => BitVec.ofNat 32 s.net.a.pdelay
  | 0x20 => BitVec.ofNat 32 s.net.b.pdelay
  | 0x24 => lo32 (validMask s.net.gsub.toList)
  | 0x28 => hi32 (validMask s.net.gsub.toList)
  | 0x2C => lo32 (validMask s.net.msub.toList)
  | 0x30 => pubStatWord s
  | 0x34 => BitVec.ofNat 32 s.net.cFcs
  | 0x38 => BitVec.ofNat 32 s.net.cStomp
  | 0x3C => BitVec.ofNat 32 s.net.cDup
  | 0x40 => packWord [(0, 16, s.net.cAuth), (16, 16, s.net.cHs)]
  | 0x44 => BitVec.ofNat 32 s.net.cRate
  | 0x48 => packWord [(0, 3, s.net.sessions.length), bit1 3 (mgmtEn s), bit1 4 s.fw.owner.isSome]
  | _ => 0

/-! ### Culvert and group (Table 14-5) -/

/-- CAS_STAT. -/
def casStatWord (s : State) : Word :=
  let c := s.cas
  packWord [(0, 4, s.pwr.straps), (4, 2, c.role), bit1 6 c.noBkp, bit1 7 c.localT, bit1 8 c.brkA, bit1 9 c.brkB, (10, 2, c.state),
    (12, 3, c.master)]

/-- A mask of the culvert peers for which a test holds. -/
def peerMask (s : State) (p : CasPeer → Bool) : Nat :=
  (List.finRange 8).foldl (fun n i => if p s.cas.peers[i] then n + 2 ^ i.val else n) 0

/-- A mask of the listed workers for which a test holds, bit n for worker n. -/
def workerMask (s : State) (p : Worker → Bool) : Nat := s.grp.workers.foldl (fun n w => if p w then n + 2 ^ w.num else n) 0

/-- The culvert and group block. -/
def casRead (s : State) : Nat → Word
  | 0x00 => casStatWord s
  | 0x04 => packWord [(0, 8, peerMask s fun q => q.seen), (8, 8, peerMask s fun q => q.valid)]
  | 0x08 => packWord [(0, 16, s.cas.errs), (16, 16, s.cas.fly)]
  | 0x0C => packWord [bit1 0 (!s.grp.workers.isEmpty), bit1 1 s.grp.managed, (2, 6, s.grp.workers.length),
      bit1 8 ((s.grp.act.map fun a => a.coord).getD false)]
  | 0x10 => lo32 (workerMask s fun w => w.ok)
  | 0x14 => hi32 (workerMask s fun w => w.ok)
  | 0x18 => if s.grp.managed then lo32 s.grp.mgr else 0
  | _ => 0

/-! ### Records and life counters (Table 19-10) -/

/-- REC_STAT. -/
def recStatWord (s : State) : Word :=
  packWord [bit1 0 (recOn s), bit1 1 s.recs.opened.isSome, (2, 4, s.recs.wslot), (6, 5, (heldSums s).length),
    bit1 11 (recOn s && !wouldOpen s), (16, 16, s.recs.refused)]

/-- The records block; REC_CAP reads 0 until a record configuration is in force. -/
def recRead (s : State) : Nat → Word
  | 0x00 => recStatWord s
  | 0x04 => packWord [(0, 16, s.recs.lastNum)]
  | 0x08 => if s.recs.cfg.isEmpty then 0 else BitVec.ofNat 32 (recCap s)
  | 0x0C => BitVec.ofNat 32 s.soe.idx
  | 0x10 => BitVec.ofNat 32 s.soe.midx
  | 0x14 => packWord [(0, 16, s.soe.lostFifo), (16, 16, s.soe.lostUser)]
  | _ => 0

/-- A module life counter by its place in Table 19-8, powered seconds counted up to now. -/
def lifeNow (s : State) (i : Fin 17) : Nat :=
  s.life.ctrs[i] + (if i = 0 then (s.clk - s.life.acc) / 1000000000 else 0)

/-- The life counter summary. -/
def lifeRegRead (s : State) : Nat → Word
  | 0x00 => lo32 (lifeNow s 0)
  | 0x04 => hi32 (lifeNow s 0)
  | 0x08 => lo32 (lifeNow s 1)
  | 0x0C => lo32 (lifeNow s 2)
  | 0x10 => packWord [bit1 0 s.life.valid, bit1 1 s.life.restored, (16, 16, if s.life.valid then secsSince s s.life.savedAt 16 else 0)]
  | _ => 0

/-! ### Power, security and update (Tables 3-11 to 3-14, 20-11) -/

/-- The power and thermal block. -/
def pwrRead (s : State) : Nat → Word
  | 0x00 => packWord [(0, 3, s.pwr.limit), (8, 8, s.pwr.thWarn)]
  | 0x04 => packWord [bit1 0 s.pwr.presLow, bit1 1 s.pwr.qreqLow, bit1 2 s.pwr.qack, bit1 3 s.pwr.reqByCmd, bit1 4 s.pwr.polHold,
      (5, 2, s.pwr.lastExit), (16, 16, s.pwr.qackTime)]
  | 0x08 => packWord [(0, 16, s.pwr.vsysMv), (16, 16, s.pwr.inMw)]
  | 0x0C => packWord [(0, 16, s.pwr.vioMv), (16, 16, s.pwr.vbatMv)]
  | 0x10 => packWord [(0, 16, intBits 16 s.pwr.caseT), (16, 16, intBits 16 s.pwr.coreT)]
  | 0x14 => packWord [(0, 16, s.pwr.cplMw)]
  | 0x18 => packWord [(0, 16, s.pwr.budCpl), (16, 16, s.pwr.budDiss)]
  | 0x1C => packWord [(0, 16, s.pwr.budIn)]
  | _ => 0

/-- SLOT_STAT (Table 20-7). -/
def slotStatWord (s : State) : Word :=
  packWord ((List.finRange 8).map fun i => (4 * i.val, 4, s.fw.slots[i].state.toNat))

/-- The security and update block. -/
def secRead (s : State) : Nat → Word
  | 0x00 => packWord [bit1 0 s.fw.owner.isSome, bit1 1 s.fw.tamper, bit1 2 s.fw.loopOpen, bit1 3 s.fw.seOk, bit1 4 s.fw.xfer.isSome,
      (5, 2, (s.fw.xfer.map fun x => x.ty).getD 0), (8, 8, s.fw.ownerEpoch)]
  | 0x04 => packWord [(0, 6, s.fw.arbCfw), (8, 6, s.fw.arbLgp)]
  | 0x08 => slotStatWord s
  | 0x0C => match s.fw.xfer with
    | some x => packWord [(0, 16, x.got.length), (16, 16, x.blocks)]
    | none => 0
  | 0x10 => s.fw.updLast.setWidth 32
  | 0x14 => tsLo s.fw.tamperTs
  | 0x18 => tsHi s.fw.tamperTs
  | _ => 0

/-! ### The window (Table 21-1) -/

/-- What a register reads now, without shadows and read effects; a reserved address reads 0 (R5, R481). -/
def regLive (s : State) (a : Nat) : Word :=
  if a % 4 ≠ 0 then 0
  else if a < 0x100 then idRead s a
  else if a < 0x200 then evtRead s (a - 0x100)
  else if a < 0x300 then hpRead s (a - 0x200)
  else if a < 0x400 then timeRead s (a - 0x300)
  else if a < 0x500 then fltRegRead s (a - 0x400)
  else if a < 0x600 then
    let u : Fin 4 := ⟨(a - 0x500) / 0x40 % 4, by omega⟩
    cuRead ((a - 0x500) % 0x40) s.cu[u]
  else if a < 0x700 then
    let j := (s.cell (chAt ((a - 0x600) / 8))).inj
    if a % 8 = 0 then j.val else injStatRead j
  else if a < 0x800 then 0
  else if a < 0x1000 then cellRead (s.cell (chAt ((a - 0x800) / 0x40))) ((a - 0x800) % 0x40)
  else if a < 0x2000 then tiRead s (a - 0x1000)
  else if a < 0x3000 then engRead s (a - 0x2000)
  else if a < 0x3100 then netRead s (a - 0x3000)
  else if a < 0x3200 then casRead s (a - 0x3100)
  else if a < 0x3300 then recRead s (a - 0x3200)
  else if a < 0x3400 then lifeRegRead s (a - 0x3300)
  else if a < 0x3500 then pwrRead s (a - 0x3400)
  else if a < 0x3600 then secRead s (a - 0x3500)
  else 0

end Sys2Proof.Machine
end

