-- ==== Sys2Proof/Machine/Sha.lean ====
section
/-! DEFINITION. SHA-512, which the digests of images, records and reports are (R459, R474, R479). The spec names the standard and
gives none of it: the algorithm is that of FIPS 180-4 (PRESUMED, log 149). -/

namespace Sys2Proof.Machine

open Sys2Proof

/-- A word of the hash, 64 bits. -/
abbrev Lane64 := BitVec 64

/-! ### Constants: the fractions of roots of the first primes -/

/-- The first 80 primes. -/
def primes80 : List Nat :=
  [2, 3, 5, 7, 11, 13, 17, 19, 23, 29, 31, 37, 41, 43, 47, 53, 59, 61, 67, 71, 73, 79, 83, 89, 97, 101, 103, 107, 109, 113,
   127, 131, 137, 139, 149, 151, 157, 163, 167, 173] ++
  [179, 181, 191, 193, 197, 199, 211, 223, 227, 229, 233, 239, 241, 251, 257, 263, 269, 271, 277, 281, 283, 293, 307, 311,
   313, 317, 331, 337, 347, 349, 353, 359, 367, 373, 379, 383, 389, 397, 401, 409]

/-- The greatest `r` with `r ^ d` at most `n`, built up from the root so far by its `i` lower bits. -/
def rootBits (d n : Nat) : Nat → Nat → Nat
  | 0, r => r
  | i + 1, r => rootBits d n i (if (r + 2 ^ i) ^ d ≤ n then r + 2 ^ i else r)

/-- The first 64 bits of the fraction of the `d`-th root of a prime. -/
def rootFraction (d p : Nat) : Lane64 := BitVec.ofNat 64 (rootBits d (p * 2 ^ (64 * d)) 70 0)

/-- The constant of each of the 80 rounds: from cube roots. -/
def roundConsts : List Lane64 := primes80.map (rootFraction 3)

/-! ### The compression of a block -/

/-- Four words of a shift register, newest first. -/
structure Quad where
  w0 : Lane64
  w1 : Lane64
  w2 : Lane64
  w3 : Lane64
  deriving DecidableEq, Repr

/-- A word enters a register and the oldest leaves it. -/
def Quad.push (x : Lane64) (q : Quad) : Quad := ⟨x, q.w0, q.w1, q.w2⟩

/-- Wordwise sum. -/
def Quad.plus (p q : Quad) : Quad := ⟨p.w0 + q.w0, p.w1 + q.w1, p.w2 + q.w2, p.w3 + q.w3⟩

/-- The words of a register. -/
def Quad.words (q : Quad) : List Lane64 := [q.w0, q.w1, q.w2, q.w3]

/-- The hash state: the registers of the words a to d and e to h. -/
structure HashSt where
  left : Quad
  right : Quad
  deriving DecidableEq, Repr

/-- The initial state: from square roots of the first eight primes. -/
def hashStart : HashSt :=
  let r (i : Nat) : Lane64 := rootFraction 2 (primes80.getD i 0)
  ⟨⟨r 0, r 1, r 2, r 3⟩, ⟨r 4, r 5, r 6, r 7⟩⟩

/-- The exclusive or of a word's rotations to the right. -/
def xorRots (ns : List Nat) (x : Lane64) : Lane64 := ns.foldl (fun acc n => acc ^^^ x.rotateRight n) 0

/-- `p` selects between two words bit by bit. -/
def choose (p yes no : Lane64) : Lane64 := no ^^^ (p &&& (yes ^^^ no))

/-- Each bit as most of three words have it. -/
def majority (q : Quad) : Lane64 := (q.w0 &&& q.w1) ||| (q.w2 &&& (q.w0 ||| q.w1))

/-- One round with the sum of its constant and schedule word. -/
def hashRound (s : HashSt) (kw : Lane64) : HashSt :=
  let e := s.right
  let t := kw + e.w3 + xorRots [14, 18, 41] e.w0 + choose e.w0 e.w1 e.w2
  ⟨s.left.push (t + xorRots [28, 34, 39] s.left.w0 + majority s.left), e.push (t + s.left.w3)⟩

/-- The next schedule word, from those before it, newest first. -/
def nextWord (l : List Lane64) : Lane64 :=
  let back (i : Nat) : Lane64 := l.getD (i - 1) 0
  let lo := back 15
  let hi := back 2
  back 16 + back 7 + (xorRots [1, 8] lo ^^^ (lo >>> 7)) + (xorRots [19, 61] hi ^^^ (hi >>> 6))

/-- `n` further schedule words. -/
def schedule : Nat → List Lane64 → List Lane64
  | 0, l => l
  | n + 1, l => schedule n (nextWord l :: l)

/-- One block of 16 words. -/
def hashBlock (s : HashSt) (block : List Lane64) : HashSt :=
  let t := (roundConsts.zipWith (fun k w => k + w) (schedule 64 block.reverse).reverse).foldl hashRound s
  ⟨t.left.plus s.left, t.right.plus s.right⟩

/-! ### Messages -/

/-- Words of 64 bits from words of 32 bits, the first the upper half. -/
def pairUp : List Word → List Lane64
  | a :: b :: r => (a ++ b) :: pairUp r
  | [a] => [a ++ (0 : Word)]
  | [] => []

/-- The padding of a message of whole 32-bit words: a one bit, zeros, and its length in bits. -/
def padMessage (ws : List Word) : List Word :=
  let n := ws.length
  ws ++ [0x80000000#32] ++ List.replicate ((63 - n % 32 - 4) % 32) 0 ++
    [0, 0, BitVec.ofNat 32 (32 * n / 2 ^ 32), BitVec.ofNat 32 (32 * n)]

/-- The blocks of a message, at most `k` of them. -/
def hashBlocks : Nat → List Lane64 → HashSt → HashSt
  | 0, _, s => s
  | _, [], s => s
  | k + 1, l, s => hashBlocks k (l.drop 16) (hashBlock s (l.take 16))

/-- SHA-512 over whole words, most significant byte first: 16 words. -/
def sha512 (ws : List Word) : List Word :=
  let m := pairUp (padMessage ws)
  let s := hashBlocks (m.length / 16) m hashStart
  (s.left.words ++ s.right.words).flatMap fun (x : Lane64) => [(x >>> 32).setWidth 32, x.setWidth 32]

end Sys2Proof.Machine
end

