-- ==== Sys2Proof/Machine/Firmware.lean ====
section
/-! DEFINITION. Images, verification, activation, the owner key, attestation (chapter 20, Table 17-9), and the staging of
logic programs (R284, R285, R287, R288). -/

namespace Sys2Proof.Machine

open Sys2Proof

/-! ### Slots and images (R458, R459, Table 20-2) -/

/-- The slot of a number of Table 20-7; 8 is the patch buffer. -/
def slotOf (s : State) (i : Nat) : Slot := if h : i < 8 then s.fw.slots[i] else s.fw.patch

/-- Change one slot and nothing else. -/
def modSlot (i : Nat) (f : Slot → Slot) (s : State) : State :=
  if h : i < 8 then { s with fw := { s.fw with slots := s.fw.slots.set i (f s.fw.slots[i]) } }
  else { s with fw := { s.fw with patch := f s.fw.patch } }

/-- Blocks a slot of an image type holds (Table 20-1). -/
def slotBlocks (ty : Nat) : Nat := if ty = 0 then 1024 else if ty = 1 then 128 else if ty = 2 then 64 else 16

/-- A word of a block of a slot. -/
def slotWord (sl : Slot) (block i : Nat) : Word := ((assocGet block sl.blocks).getD []).getD i 0

/-- A header word, the length in blocks, the SVN and the version of an image (Table 20-2). -/
def hdrWord (sl : Slot) (i : Nat) : Word := slotWord sl 0 i
def imgLen (sl : Slot) : Nat := (hdrWord sl 2).toNat
def imgSvn (sl : Slot) : Nat := field (hdrWord sl 3) 0 6
def imgVer (sl : Slot) : Word := hdrWord sl 4

/-- The payload blocks of an image. -/
def payload (sl : Slot) : List (List Word) :=
  (List.range (min (imgLen sl) 1024 - 3)).map fun i => (assocGet (i + 1) sl.blocks).getD []

/-- The digest of an image: words 0 to 1022 from the header to the last payload block (R459). -/
def imgDigest (sl : Slot) : List Word :=
  sha512 ((((assocGet 0 sl.blocks).getD []) :: payload sl).flatMap fun b => b.take 1023)

/-- The digest of what a slot of Table 20-7 holds; that of a CMC area is the patched image's (log 24). -/
def slotDigest (s : State) (i : Nat) : List Word :=
  let sl := slotOf s i
  if i = 6 ∨ i = 7 then (if sl.cmcDigest = [] then (List.range 16).map (Config.productionCmc (i - 6)) else sl.cmcDigest)
  else imgDigest sl

/-- Fields of a slot's state (Table 20-7). -/
def slotVerified (sl : Slot) : Bool := sl.state.getLsbD 1
def setStateBit (b : Nat) (v : Bool) (sl : Slot) : Slot :=
  { sl with state := if v then sl.state ||| BitVec.ofNat 4 (2 ^ b) else sl.state &&& ~~~ (BitVec.ofNat 4 (2 ^ b)) }

/-- Erases of a flash region of `n` blocks: the total, and the most-erased block (Table 19-8, log 24). -/
def flashErase (region n : Nat) (s : State) : State :=
  let k := (assocGet region s.life.erased).getD 0 + 1
  let s1 := ctrAdd 14 n { s with life := { s.life with erased := assocSet region k s.life.erased } }
  if s1.life.ctrs[15] < k then ctrAdd 15 1 s1 else s1

/-- A new boot record is written: one of the two copies (R458). -/
def writeBootRecord (f : Fw → Fw) (s : State) : State := flashErase 9 1 { s with fw := f s.fw }

/-- UPD_LAST (Table 20-11). -/
def noteUpdate (status reason ty slot : Nat) (s : State) : State :=
  { s with fw := { s.fw with updLast :=
      (packWord [(0, 8, status), (8, 8, reason), (16, 2, ty), (18, 1, slot)]).setWidth 19 } }

/-! ### IMG_BEGIN and IMG_BLOCK (R464, R465) -/

/-- The mode check of the update commands: the modes given, or the recovery loader for CFW on the service port alone (R469). -/
def imgModes (s : State) (src : Src) (l : List Nat) (ty : Nat) : Bool :=
  if s.md.recovery then src == .service && ty == 0 else inModeList s l

/-- The target of a transfer (Table 20-4). -/
def transferTarget (s : State) (ty : Nat) : Nat :=
  if ty = 0 then 1 - s.fw.bootCfw else if ty = 1 then 2 + (1 - s.fw.actLgp) else if ty = 2 then 4 + (1 - s.fw.actCfg) else 8

/-- IMG_BEGIN's operation. -/
def opImgBegin (c : Ctx) (ws : List Word) (s : State) : State :=
  let ty := field (par ws 1) 0 2
  let len := (par ws 2).toNat
  inModes (imgModes s c.src [9] ty) c (fun s =>
    if reservedBad (par ws 1) 3 || ws.length != 2 || len % 4096 != 0 then answer c stBadParam [] s
    else if c.src != .service then answer c stDenied [] s
    else if ty = 0 ∧ s.fw.trial = true ∧ s.fw.bootCfw = s.fw.actCfw then answer c stDenied [] s
    else if slotBlocks ty < len / 4096 then answer c stResource [] s
    else
      let i := transferTarget s ty
      let s1 := modSlot i (fun _ => {}) (flashErase i (slotBlocks ty) s)
      answer c stOk [] (dropPart c.src 0x91 { s1 with fw := { s1.fw with xfer := some ⟨ty, i, len / 4096, []⟩ } })) s

/-- IMG_BEGIN. -/
def execImgBegin (c : Ctx) (ws : List Word) (s : State) : Outcome := .next (opImgBegin c ws (acceptPacket c s))

/-- A whole block: checked, written and counted; VALID once every declared block has come (R465, Table 20-7). -/
def writeBlock (c : Ctx) (n : Nat) (x : Xfer) (block : List Word) (s : State) : State :=
  if crc32c (block.take 1023) ≠ block.getD 1023 0 then answerFault c 0x91 rcBlockCrc s
  else
    let got := if x.got.contains n then x.got else n :: x.got
    let s1 := modSlot x.slot (fun sl => setStateBit 0 (got.length == x.blocks) { sl with blocks := assocSet n block sl.blocks }) s
    answer c stOk [] { s1 with fw := { s1.fw with xfer := some { x with got := got } } }

/-- IMG_BLOCK's operation. -/
def opImgBlock (c : Ctx) (ws : List Word) (s : State) : State :=
  inModes (imgModes s c.src [9] ((s.fw.xfer.map fun x => x.ty).getD 0)) c (fun s =>
    let n := (par ws 1).toNat
    if c.src != .service then answer c stDenied [] s
    else match s.fw.xfer with
      | none => answer c stBadParam [] s
      | some x =>
        if x.blocks ≤ n || reservedBad (par ws 2) 0xFFFFFF then answer c stBadParam [] s
        else takePart c 0x91 n (field (par ws 2) 0 16) (field (par ws 2) 16 8) (parFrom ws 3) (fun _ => some 1024) (writeBlock c n x) s) s

/-- IMG_BLOCK. -/
def execImgBlock (c : Ctx) (ws : List Word) (s : State) : Outcome := .next (opImgBlock c ws (acceptPacket c s))

/-! ### IMG_VERIFY (R466, Table 20-5) -/

/-- The slot an IMG_VERIFY names; of a CMC patch it is the patch buffer. -/
def verifySlot (ty slot : Nat) : Nat := if ty = 3 then 8 else 2 * ty + slot

/-- IMG_VERIFY's operation. -/
def opImgVerify (c : Ctx) (ws : List Word) (s : State) : State :=
  inModes (imgModes s c.src modesNo8 (field (par ws 1) 0 2)) c (fun s =>
    if reservedBad (par ws 1) 0x103 || ws.length != 1 then answer c stBadParam [] s
    else if opRuns s [0x92, 0x93] || opsFull s c then answer c stBusy [] s
    else startOp c (newOp c 0x92 0 (par ws 1)) s) s

/-- IMG_VERIFY. -/
def execImgVerify (c : Ctx) (ws : List Word) (s : State) : Outcome := .next (opImgVerify c ws (acceptPacket c s))

/-- Every block of an image was written (Table 20-5 step 1). -/
def allWritten (ty : Nat) (sl : Slot) : Bool :=
  decide (imgLen sl ≤ slotBlocks ty) && (List.range (max 1 (imgLen sl))).all fun i => (assocGet i sl.blocks).isSome

/-- The header is that of an image of the type, with its length within the slot (Table 20-5 step 2). -/
def headerOk (ty : Nat) (sl : Slot) : Bool :=
  hdrWord sl 0 == 0x59544E49#32 && field (hdrWord sl 1) 0 2 == ty && decide (3 ≤ imgLen sl) && decide (imgLen sl ≤ slotBlocks ty)

/-- The reason code of the first check that fails, 0 when all pass (Table 20-5). -/
def verifyReason (s : State) (ty i : Nat) (v : VerifyResult) : Nat :=
  let sl := slotOf s i
  if !(v.flashOk && allWritten ty sl) then rcBlockCrc
  else if !headerOk ty sl then rcBlockCrc
  else if ty ≠ 2 ∧ v.kwaomOk = false then rcSignature
  else if ty ≠ 3 ∧ s.fw.owner.isSome = true ∧ v.ownerOk = false then rcOwnerSig
  else if (ty = 0 ∧ imgSvn sl < s.fw.arbCfw) ∨ (ty = 1 ∧ imgSvn sl < s.fw.arbLgp) then rcRollback
  else if ty = 3 ∧ (List.range 16).map (fun k => hdrWord sl (8 + k)) ≠ slotDigest s (6 + s.fw.actCmc) then rcDigest
  else 0

/-- The patched image goes into the other CMC area (R466); what it holds, and so its digest, is a free value (log 24). -/
def applyPatch (s : State) : State :=
  let i := 6 + (1 - s.fw.actCmc)
  let dig := (List.range 16).map (Config.freeWord s.free)
  modSlot i (fun _ => { blocks := [(0, (assocGet 0 s.fw.patch.blocks).getD [])], state := 3, cmcDigest := dig })
    (flashErase i 16 s.drawFree)

/-- The end of a verification (R466, Table 18-1 FS82, FS88). -/
def finishVerify (o : LongOp) (v : VerifyResult) (s : State) : State :=
  let ty := field o.arg 0 2
  let slot := field o.arg 8 1
  let i := verifySlot ty slot
  let reason := verifyReason s ty i v
  let s1 := modSlot i (setStateBit 1 (reason == 0)) s
  let s2 := if reason = 0 then (if ty = 3 then applyPatch s1 else s1) else raiseFault 88 0 s1
  let s3 := if v.flashOk then s2 else raiseFault 82 0 s2
  let st := if reason = 0 then stOk else stFault
  finishOp o.ref st reason [] (noteUpdate st reason ty slot s3)

/-- The running operation of an opcode. -/
def opByCode (s : State) (code : Nat) : Option LongOp := s.ops.find? fun o => o.ref.opcode == code

/-- IMG_VERIFY_COMPLETE. -/
def execImgVerifyComplete (v : VerifyResult) (s : State) : Outcome :=
  .next (match opByCode s 0x92 with
    | some o => finishVerify o v s
    | none => s)

/-! ### IMG_ACTIVATE (R467, R470, R411, Table 20-6) -/

/-- The counter of LGP follows its image (R470). -/
def raiseLgpCounter (i : Nat) (s : State) : State :=
  { s with fw := { s.fw with arbLgp := max s.fw.arbLgp (imgSvn (slotOf s i)) } }

/-- What an activation writes (Table 20-6). -/
def activate (ty slot : Nat) (s : State) : State :=
  match ty with
  | 0 => writeBootRecord (fun f => { f with actCfw := slot, trial := true, attempt := 0 }) s
  | 1 => raiseLgpCounter (2 + slot) (writeBootRecord (fun f => { f with actLgp := slot }) s)
  | 2 => writeBootRecord (fun f => { f with actCfg := slot }) s
  | _ => writeBootRecord (fun f => { f with actCmc := slot }) s

/-- The completion of an IMG_ACTIVATE, and the reset that follows it (R467, R411). -/
def finishActivate (r : CmdRef) (ty slot : Nat) (dig : List Word) (s : State) : State :=
  if (slotDigest s (2 * ty + slot)).take 4 ≠ dig then
    finishOp r stFault rcDigest [] (noteUpdate stFault rcDigest ty slot s)
  else
    let s1 := finishOp r stOk 0 [] (noteUpdate stOk 0 ty slot (activate ty slot s))
    if ty = 1 then s1 else { s1 with md := { s1.md with rstDue := s1.md.rstDue <|> some ⟨6, false, 0xFF⟩ } }

/-- IMG_ACTIVATE's operation. -/
def opImgActivate (c : Ctx) (ws : List Word) (s : State) : State :=
  inModes (imgModes s c.src [3, 7, 9] (field (par ws 1) 0 2)) c (fun s =>
    let ty := field (par ws 1) 0 2
    let slot := field (par ws 1) 8 1
    if reservedBad (par ws 1) 0x103 || ws.length != 5 then answer c stBadParam [] s
    else if opRuns s [0x92, 0x93] || opsFull s c then answer c stBusy [] s
    else if !slotVerified (slotOf s (2 * ty + slot)) then answer c stDenied [] s
    else finishActivate (ctxRef c 0x93) ty slot (parFrom ws 2) (startOp c (newOp c 0x93 0 (par ws 1)) s)) s

/-- IMG_ACTIVATE. -/
def execImgActivate (c : Ctx) (ws : List Word) (s : State) : Outcome := .next (opImgActivate c ws (acceptPacket c s))

/-! ### OWNER_ENROL (R474, Table 20-8) -/

/-- The owner record is accepted (R474); `sigOk` is the verdict on its pair under the enrolled key. -/
def ownerOk (s : State) (rec : List Word) (sigOk : Bool) : Bool :=
  let kind := field (rec.getD 0 0) 16 2
  let epoch := field (rec.getD 0 0) 24 8
  decide (epoch = s.fw.ownerEpoch + 1) && (rec.getD 1 0 == lo32 s.fw.serial) && (rec.getD 2 0 == hi32 s.fw.serial) &&
    (if kind = 0 then s.fw.owner.isNone else decide (kind ≤ 2) && s.fw.owner.isSome && sigOk)

/-- The whole record is carried out. -/
def enrol (c : Ctx) (sigOk : Bool) (rec : List Word) (s : State) : State :=
  let w0 := rec.getD 0 0
  if reservedBad w0 0xFF03FFFF || rec.length != 1350 || ((rec.drop 499).take 7).any (fun w => w != 0) then answer c stBadParam [] s
  else
    let s1 := startOp c (newOp c 0x95 0 w0) s
    if ownerOk s rec sigOk then
      let key := if field w0 16 2 = 2 then none else some ((rec.drop 3).take 496)
      finishOp (ctxRef c 0x95) stOk 0 [] (flashErase 10 4 { s1 with fw := { s1.fw with owner := key, ownerEpoch := field w0 24 8 } })
    else finishOp (ctxRef c 0x95) stDenied 0 [] s1

/-- OWNER_ENROL's operation. -/
def opOwnerEnrol (c : Ctx) (ws : List Word) (sigOk : Bool) (s : State) : State :=
  modeGate [9] c (fun s =>
    if reservedBad (par ws 1) 0xFFFFFF then answer c stBadParam [] s
    else if c.src != .service then answer c stDenied [] s
    else takePart c 0x95 0 (field (par ws 1) 0 16) (field (par ws 1) 16 8) (parFrom ws 2)
      (fun l => l.head?.map fun w => field w 0 16) (enrol c sigOk) s) s

/-- OWNER_ENROL. -/
def execOwnerEnrol (c : Ctx) (ws : List Word) (sigOk : Bool) (s : State) : Outcome :=
  .next (opOwnerEnrol c ws sigOk (acceptPacket c s))

/-! ### ATTEST (R479, Table 20-9) -/

/-- Words of a slot in the report. -/
def reportSlot (s : State) (i : Nat) : List Word :=
  let sl := slotOf s i
  let trailer := (assocGet (imgLen sl - 1) sl.blocks).getD []
  packWord [(0, 4, sl.state.toNat), bit1 4 ((trailer.take 844).any fun w => w != 0), bit1 5 sl.mig, (8, 6, imgSvn sl)] :: imgVer sl :: slotDigest s i

/-- The word of a channel in the report: two bits for each entry. -/
def reportChannel (c : Cell) : Word :=
  packWord ((List.finRange 6).map fun e =>
    let x := c.cal.entries[e]
    (2 * e.val, 2, if !x.ok then 2 else if x.user then 1 else 0))

/-- The report; the digest of the configuration, the keys, the certificate and the signatures are free values (log 32). -/
def buildReport (s : State) (nonce : List Word) : List Word :=
  [packWord [(0, 16, 2392), (24, 8, 1)], lo32 s.fw.serial, hi32 s.fw.serial] ++ nonce ++ [tsLo (some s.now), tsHi (some s.now),
    packWord [(0, 4, modeNum s.md.mode), (4, 2, s.tq), bit1 6 s.fw.tamper, bit1 7 s.fw.owner.isSome, (8, 8, s.fw.ownerEpoch),
      (16, 6, s.fw.arbCfw), (24, 6, s.fw.arbLgp)], resetCauseWord s, bootSlotWord s]
  ++ (List.range 8).flatMap (reportSlot s) ++ (List.range 16).map (Config.freeWord s.free)
  ++ s.cells.toList.map reportChannel ++ (List.range 1340).map Config.identityWord
  ++ (List.range 844).map fun i => Config.freeWord s.free (i + 16)

/-- ATTEST's operation. -/
def opAttest (c : Ctx) (ws : List Word) (s : State) : State :=
  modeGate modesAll c (fun s =>
    let off := (par ws 2).toNat
    let n := (par ws 3).toNat
    if s.fw.reportCtx.isSome then answer c stBusy [] s
    else if reservedBad (par ws 1) 1 then answer c stBadParam [] s
    else if bitOf (par ws 1) 0 then
      match s.fw.report with
      | none => answer c stBadParam [] s
      | some r =>
        if ws.length != 3 || n = 0 || 240 < n || r.length ≤ off then answer c stBadParam [] s
        else answer c stOk (BitVec.ofNat 32 r.length :: BitVec.ofNat 32 off :: (r.drop off).take n) s
    else if ws.length != 9 then answer c stBadParam [] s
    else if opsFull s c then answer c stBusy [] s
    else startOp c (newOp c 0x94 0 0) { s with fw := { s.fw with reportCtx := some (ctxRef c 0x94), reportNonce := parFrom ws 2 } }) s

/-- ATTEST. -/
def execAttest (c : Ctx) (ws : List Word) (s : State) : Outcome := .next (opAttest c ws (acceptPacket c s))

/-- ATTEST_COMPLETE: the report is built and signed. -/
def execAttestComplete (s : State) : Outcome :=
  .next (match s.fw.reportCtx with
    | none => s
    | some r =>
      let rep := buildReport s s.fw.reportNonce
      let s1 := { s with fw := { s.fw with report := some rep, reportCtx := none, reportNonce := [] } }
      finishOp r stOk 0 [BitVec.ofNat 32 rep.length] s1.drawFree)

/-! ### LP_STAGE (R272, R284) -/

/-- The program a slot holds: what the image decodes to, with TICK code, version and digest from the image (log 30). -/
def slotProgram (s : State) (i : Nat) : Option Program :=
  let sl := slotOf s i
  ((Config.lgpDecode (payload sl)).filter Program.shapeOk).map fun p =>
    { p with code := field (hdrWord sl 5) 0 3, ver := imgVer sl, progId := (imgDigest sl).getD 0 0 }

/-- LP_STAGE's operation. -/
def opLpStage (c : Ctx) (ws : List Word) (s : State) : State :=
  modeGate modesNo8 c (fun s =>
    if reservedBad (par ws 1) 1 || ws.length != 1 then answer c stBadParam [] s
    else if opRuns s [0x40, 0x41] || opsFull s c then answer c stBusy [] s
    else if !slotVerified (slotOf s (2 + field (par ws 1) 0 1)) then answer c stDenied [] s
    else startOp c (newOp c 0x40 0 (par ws 1)) { s with eng := { s.eng with staged := none } }) s

/-- LP_STAGE. -/
def execLpStage (c : Ctx) (ws : List Word) (s : State) : Outcome := .next (opLpStage c ws (acceptPacket c s))

/-- The end of the load: FAULT FLASH, RESOURCE with an empty bank, or OK (R272, R284). -/
def finishStage (o : LongOp) (flashOk : Bool) (s : State) : State :=
  if !flashOk then finishOp o.ref stFault rcFlash [] (raiseFault 82 0 s)
  else match (slotProgram s (2 + field o.arg 0 1)).filter (programOk s) with
    | none => finishOp o.ref stResource 0 [] s
    | some p => finishOp o.ref stOk 0 [] { s with eng := { s.eng with staged := some p } }

/-- LP_STAGE_COMPLETE. -/
def execLpStageComplete (flashOk : Bool) (s : State) : Outcome :=
  .next (match opByCode s 0x40 with
    | some o => finishStage o flashOk s
    | none => s)

/-! ### LP_ACTIVATE (R285) -/

/-- LGP_VER follows the program of the active bank (R486). -/
def noteLgpVer (s : State) : State :=
  { s with fw := { s.fw with lgpVer := (s.eng.active.map fun p => p.ver).getD 0 } }

/-- The staged program becomes the running one at once, and its LP_ACTIVATE completes (R285). -/
def activateNow (r : CmdRef) (online : Bool) (s : State) : State :=
  finishOp r stOk 0 [] (noteLgpVer (swapPrograms online s))

/-- The modes that need ONLINE, and what it needs (R285). -/
def onlineOk (s : State) (online : Bool) (p : Program) : Bool :=
  !modeCommits s.md.mode || (online && ((s.eng.active.map fun q => q.bind == p.bind).getD false))

/-- LP_ACTIVATE's operation. -/
def opLpActivate (c : Ctx) (ws : List Word) (s : State) : State :=
  let online := bitOf (par ws 1) 0
  inModes (inModeList s [3, 4, 7] || (inModeList s [5, 6, 10] && online)) c (fun s =>
    if reservedBad (par ws 1) 1 || ws.length != 1 then answer c stBadParam [] s
    else if opRuns s [0x40, 0x41] || opsFull s c then answer c stBusy [] s
    else match s.eng.staged with
      | none => answer c stResource [] s
      | some p =>
        if !onlineOk s online p then answer c stWrongMode [] s
        else if p.code ≠ s.spring.code ∨ recheckOk s p = false then answer c stResource [] s
        else
          let s1 := startOp c (newOp c 0x41 0 (par ws 1)) s
          if s.eng.running then { s1 with eng := { s1.eng with actPend := some ⟨ctxRef c 0x41, online⟩ } }
          else activateNow (ctxRef c 0x41) online s1) s

/-- LP_ACTIVATE. -/
def execLpActivate (c : Ctx) (ws : List Word) (s : State) : Outcome := .next (opLpActivate c ws (acceptPacket c s))

/-! ### LP_STATS and LP_READ_VAR (R287, R288) -/

/-- Numbers of a bank, 0 without a program. -/
def ofBank (o : Option Program) (f : Program → Nat) : Word := BitVec.ofNat 32 ((o.map f).getD 0)

/-- The use of a resource by the programs of both banks (R287, log 147). -/
def bothBanks (e : Engine) (f : Program → Nat) : Nat := (e.active.map f).getD 0 + (e.staged.map f).getD 0

/-- The words of LP_STATS (Table 17-5). -/
def lpStatsWords (s : State) : List Word :=
  let a := s.eng.active
  let b := s.eng.staged
  (List.range 15).map (fun i => engRead s (4 * i)) ++
    [ofBank a fun p => p.main.length, ofBank a fun p => p.replay.length, ofBank b evalCyc, ofBank b passCyc,
     ofBank b fun p => p.main.length, ofBank b fun p => p.replay.length,
     packWord [(0, 16, bothBanks s.eng timersUsed), (16, 16, bothBanks s.eng countersUsed)],
     BitVec.ofNat 32 (bothBanks s.eng fun p => (remoteUsed p).length), BitVec.ofNat 32 (bothBanks s.eng depEntries)]

/-- LP_STATS's operation. -/
def opLpStats (c : Ctx) (ws : List Word) (s : State) : State :=
  modeGate [1, 2, 3, 4, 5, 6, 7, 8, 9, 10] c
    (refuseIf (reservedBad (par ws 1) 1 || ws.length != 1) stBadParam c fun s =>
      answer c stOk (lpStatsWords s) (if bitOf (par ws 1) 0 then { s with eng := clearCounters s.eng } else s)) s

/-- LP_STATS. -/
def execLpStats (c : Ctx) (ws : List Word) (s : State) : Outcome := .next (opLpStats c ws (acceptPacket c s))

/-- A timer's elapsed count or a counter's value in the committed state. -/
def blkVal (s : State) (key : Nat) : Word := intWord ((assocGet key s.eng.blkC).map (fun b => b.val) |>.getD 0)

/-- The committed values LP_READ_VAR names; none where the range leaves what there is (R288). -/
def varValues (s : State) (kind start n : Nat) : Option (List Word) :=
  if n = 0 ∨ 240 < n then none
  else match kind with
    | 0 => if start + n ≤ 8192 then some (memRead s.eng.memC start n) else none
    | 1 => if start + n ≤ 1024 then some ((List.range n).map fun i => blkVal s (start + i)) else none
    | 2 => if start + n ≤ 512 then some ((List.range n).map fun i => blkVal s (1024 + start + i)) else none
    | _ => none

/-- LP_READ_VAR's operation. -/
def opLpReadVar (c : Ctx) (ws : List Word) (s : State) : State :=
  inModes (inModeList s modesAll && s.eng.active.isSome) c (fun s =>
    if reservedBad (par ws 1) 0x1FFF0003 || ws.length != 2 then answer c stBadParam [] s
    else match varValues s (field (par ws 1) 0 2) (field (par ws 1) 16 13) (par ws 2).toNat with
      | none => answer c stBadParam [] s
      | some l => answer c stOk (lo32 s.eng.frameCnt :: hi32 s.eng.frameCnt :: l) s) s

/-- LP_READ_VAR. -/
def execLpReadVar (c : Ctx) (ws : List Word) (s : State) : Outcome := .next (opLpReadVar c ws (acceptPacket c s))

end Sys2Proof.Machine
end

