-- ==== Sys2Proof/Machine/Idle.lean ====
section
/-! DEFINITION. What one CLK_TB cycle does when no command waits (log 31). -/

namespace Sys2Proof.Machine

open Sys2Proof

/-- SLEW_RATE in parts per million (Table 5-6: step 10 ppm, default 100 ppm). -/
def slewPpm (s : State) : Int := 10 * setting s.net.ptp 0x00050603 10

/-- What a slew adds to module time over one tick period at a TICK code, of the offset still to be removed, in 10^-9 ns:
SLEW_RATE × P in the direction that removes it, and no more than it (R106). -/
def slewPart (ppm : Int) (code : Nat) (remain : Int) : Int :=
  let d : Int := ppm * 1000 * tickPeriod code
  if remain < 0 then min (-remain) d else -(min remain d)

/-- What a slew adds to module time in one CLK_TB cycle, in 10^-9 ns: SLEW_RATE in the direction that removes the offset,
and no more than the tick period still has to carry (R106). -/
def slewCycle (ppm : Int) (p : Spring) : Int :=
  if p.slewing then (if p.slewLeft < 0 then max p.slewLeft (-(8000 * ppm)) else min p.slewLeft (8000 * ppm)) else 0

/-- Module time after one CLK_TB cycle: 8 ns plus the fractional correction, of units of 0.001 ppm, and a slew's part, kept in
10^-9 ns (R98, R106; chapter 5, The spring). -/
def advanceTime (ppm : Int) (p : Spring) : Spring :=
  let d := slewCycle ppm p
  let total : Int := p.frac + 8 * (1000000000 + p.freq) + d
  { p with mtNs := p.mtNs + (total / 1000000000).toNat, frac := (total % 1000000000).toNat, slewLeft := p.slewLeft - d }

/-- One CLK_TB cycle with no command: 8 ns pass. Without VSYS the core has no clock, and only time passes. -/
def idleCycle (s : State) : State :=
  let s := { s with clk := s.clk + 8 }
  if s.pwr.vsysValid && !s.pwr.tripped then { s with spring := advanceTime (slewPpm s) s.spring } else s

end Sys2Proof.Machine
end

