-- ==== Sys2Proof/Machine/Time.lean ====
section
/-! DEFINITION. The spring (chapter 5): measurements and its states, steps, slews, hold-over, the tick code, SYNC_IN and
SYNC_OUT, the calendar, and precision time on the network (R306 to R310). -/

namespace Sys2Proof.Machine

open Sys2Proof

/-- Change the spring and nothing else. -/
def modSpring (f : Spring → Spring) (s : State) : State := { s with spring := f s.spring }

/-! ### The tick grid (R89 to R94) -/

/-- The number within its second of the tick at a module-time instant of the grid at rate `f` (R90). -/
def gridIndex (f t : Nat) : Nat := (t % 1000000000 * f + 500000000) / 1000000000

/-- An instant lies on the grid of a TICK code (R90). -/
def onGrid (code t : Nat) : Bool :=
  let f := tickRate code
  let n := gridIndex f t
  if n < f then t % 1000000000 == tickOffset f n else t % 1000000000 == 0

/-- The program of another TICK code is deactivated when the rate changes, and the module raises FS70 (R94, R80). -/
def deactivateFor (code : Nat) (s : State) : State :=
  match s.eng.active with
  | some p =>
    if p.code = code then s
    else raiseFault 70 0 { s with eng := { s.eng with active := none, deact := true }, fw := { s.fw with lgpVer := 0 } }
  | none => s

/-- RATE_CHANGE: after the sluice commit of a tick that both grids share, at least 20 µs after the code was accepted; not
at a tick at which a step was applied (R92 to R94, R105). Every filter window starts again (R204). -/
def execRateChange (s : State) : Outcome :=
  .next (match s.spring.next with
    | none => s
    | some r =>
      let p := s.spring
      if p.ticked = true ∧ p.stretched = false ∧ onGrid r.code p.tk = true ∧ r.accepted + 20000 ≤ p.tk then
        let s1 := modSpring (fun p => { p with code := r.code, num := gridIndex (tickRate r.code) p.tk, next := none }) s
        let s2 := finishOpt r.ref stOk 0 [] (deactivateFor r.code s1)
        s2.mapCells fun _ c => aiRestart 0 c
      else s)

/-- SET_TICK's operation (R93). With the code in force the change that was pending is given up, and the command completes
at the next sluice commit. -/
def opSetTick (c : Ctx) (ws : List Word) (s : State) : State :=
  modeGate [3] c (fun s =>
    let code := field (par ws 1) 0 3
    if reservedBad (par ws 1) 7 || ws.length != 1 then answer c stBadParam [] s
    else if opsFull s c then answer c stBusy [] s
    else
      let old := s.spring.next
      let s1 := startOp c (newOp c 0x07 0 (par ws 1)) (noteConfig c.src s)
      let s2 := modSpring (fun p => { p with
        next := if code = p.code then none else some ⟨code, s.now, some (ctxRef c 0x07)⟩ }) s1
      finishOpt (old.bind fun r => r.ref) stAborted 0 [] s2) s

/-- SET_TICK. -/
def execSetTick (c : Ctx) (ws : List Word) (s : State) : Outcome := .next (opSetTick c ws (acceptPacket c s))

/-! ### Spring states (R100, Table 5-5) -/

/-- SRC and the spring settings in force (Table 5-6). -/
def timeSrc (s : State) : Int := ptpSet s 0x00050601
def slewMaxNs (s : State) : Int := 1000 * ptpSet s 0x00050602
def stepRun (s : State) : Bool := ptpSet s 0x00050604 == 1
def holdErrNs (s : State) : Nat := 100 * (ptpSet s 0x00050605).toNat

/-- The spring changes its state, which raises EVT_SYS.TIME; LOCKED ends FS48 and FS49 (Tables 5-8, 15-11). HOLD_EST is 0
outside HOLDOVER (Table 5-9). LOCK_MIN starts again with a LOCKED period that ACQUIRING leads to (Table 5-11). -/
def setSpring (st : SpringState) (s : State) : State :=
  if s.spring.state = st then s
  else
    let fresh := st == .locked && s.spring.state == .acquiring
    let s1 := modSpring (fun p => { p with
      state := st, holdEst := if st = .holdover then p.holdEst else 0
      lockMin := if fresh then 0 else p.lockMin, lockSecs := if fresh then 0 else p.lockSecs }) s
    let s2 := evtRaise evTime s1
    if st = .locked then
      clearFault 49 (clearFault 48 { s2 with net := { s2.net with lastPps := timeSrc s == 1 } })
    else s2

/-- The integer square root of `n` below 2^(k+1), bit by bit. -/
def isqrtBits : Nat → Nat → Nat → Nat
  | 0, n, r => if (r + 1) * (r + 1) ≤ n then r + 1 else r
  | k + 1, n, r => if (r + 2 ^ (k + 1)) * (r + 2 ^ (k + 1)) ≤ n then isqrtBits k n (r + 2 ^ (k + 1)) else isqrtBits k n r

/-- y_L in 10^-6 ns/s (R101). -/
def driftMicro (lockMin : Nat) : Nat :=
  if lockMin = 0 then 500000000 else min 500000000 (max 10000000 (isqrtBits 30 (144000000000000000 / lockMin) 0))

/-- HOLD_EST in 10^-6 ns after the seconds counted (R101). -/
def holdEstMicro (p : Spring) : Nat :=
  30000000 + driftMicro p.lockMin * p.holdSecs + 15625 * p.holdDT * p.holdSecs + 16 * p.holdSecs * p.holdSecs

/-- HOLD_EST follows its formula, to the nearest ns. -/
def noteHoldEst (p : Spring) : Spring := { p with holdEst := (holdEstMicro p + 500000) / 1000000 }

/-- LOCKED is left for HOLDOVER: FS48, and the estimate starts (R101, Table 5-8). -/
def enterHoldover (s : State) : State :=
  raiseFault 48 0 (setSpring .holdover
    (modSpring (fun p => noteHoldEst { p with holdSecs := 0, holdT0 := s.pwr.caseT, holdDT := 0 }) s))

/-- HOLDOVER_UPDATE: a second has passed in HOLDOVER (R101). -/
def execHoldoverUpdate (s : State) : Outcome :=
  .next (if s.spring.state = .holdover then
      let s1 := modSpring (fun p => noteHoldEst { p with
        holdSecs := p.holdSecs + 1, holdDT := max p.holdDT (s.pwr.caseT - p.holdT0).natAbs }) s
      if holdErrNs s * 1000000 < holdEstMicro s1.spring then raiseFault 49 0 (setSpring .freerun s1) else s1
    else s)

/-- PTP_SOURCE_TIMEOUT: no valid measurement from the selected source for three source intervals (Table 5-5). A return to
HOLDOVER goes on with the seconds since its entry. -/
def execPtpSourceTimeout (s : State) : Outcome :=
  .next (match s.spring.state with
    | .locked => enterHoldover s
    | .acquiring => setSpring s.spring.acqFrom (if s.spring.acqFrom = .holdover then modSpring noteHoldEst s else s)
    | .unsync | .holdover | .freerun => s)

/-! ### Measurements, steps and slews (R103 to R106) -/

/-- A measured offset leads to a step (R103). -/
def leadsToStep (s : State) (off : Int) : Bool :=
  (s.spring.firstMeas && decide (8 ≤ off.natAbs)) ||
    (decide (slewMaxNs s < off.natAbs) && (stepRun s || !modeCommits s.md.mode))

/-- A step is decided; one decided already stays as it is until it is applied. -/
def decideStep (amount : Int) (s : State) : State :=
  modSpring (fun p => if p.pendStep.isSome then p else { p with pendStep := some amount, pendSlew := false }) s

/-- An offset that is not stepped is slewed: a running slew gets the new remainder, else one is decided (R103, R106). -/
def decideSlew (off : Int) (s : State) : State :=
  modSpring (fun p => { p with remain := off * 1000000000, pendSlew := !p.slewing && off != 0 }) s

/-- The state a valid measurement leads to before it is counted (Table 5-5). -/
def measureState (off : Int) (s : State) : State :=
  let acquire (s : State) : State := setSpring .acquiring (modSpring (fun p => { p with acqFrom := p.state, good := 0 }) s)
  match s.spring.state with
  | .unsync | .freerun => acquire s
  | .holdover => if (off.natAbs : Int) ≤ slewMaxNs s then setSpring .locked s else acquire s
  | .acquiring | .locked => s

/-- The count of consecutive measurements within ±200 ns in ACQUIRING, of which the eighth gives LOCKED (R100). -/
def countGood (off : Int) (stepped : Bool) (s : State) : State :=
  if s.spring.state = .acquiring then
    let n := if off.natAbs ≤ 200 ∧ stepped = false then s.spring.good + 1 else 0
    let s1 := modSpring (fun p => { p with good := n }) s
    if 8 ≤ n then setSpring .locked s1 else s1
  else s

/-- A valid measurement from the selected source: module time minus source, in ns (R100, R103, R118). -/
def measure (off : Int) (s : State) : State :=
  let stepped := leadsToStep s off || s.spring.pendStep.isSome
  let s1 := measureState off (modSpring (fun p => { p with offset := clampInt (-2147483647) 2147483647 off }) s)
  let s2 := if leadsToStep s off then decideStep (-off) s1 else if s.spring.pendStep.isSome then s1 else decideSlew off s1
  countGood off stepped (modSpring (fun p => { p with firstMeas := false }) s2)

/-- The frequency correction a measurement needs, held to ±100 ppm; FS53 beyond it (R98, Table 5-8). -/
def noteFreq (freq : Int) (s : State) : State :=
  let s1 := modSpring (fun p => { p with freq := clampInt (-100000) 100000 freq }) s
  if 100000 < freq.natAbs ∧ (s.fsrc 53).present = false then raiseFault 53 0 s1
  else if 90000 < freq.natAbs then s1.modSrc 53 fun f => { f with clearCount := 0 }
  else s1

/-- Module time moves by `d` ns: a step in STEP_CNT; what is kept on the module's time scale, the acceptance of a pending rate
change and the offset of PTP's last Sync, moves with it (R103 to R105, R109). A slew ends with it (log 129). -/
def stepTime (d : Int) (p : Spring) : Spring :=
  { p with mtNs := (p.mtNs + d).toNat, pendStep := none, stepCnt := satAdd 16 p.stepCnt 1, ptpMt := p.ptpMt + d
           next := p.next.map fun r => { r with accepted := (r.accepted + d).toNat }
           slewing := false, pendSlew := false, remain := 0, slewLeft := 0 }

/-- The tick at which a step takes effect moves with module time, and its frame is stretched (R104). -/
def stepTick (d : Int) (p : Spring) : Spring :=
  let tk := (p.tk + d).toNat
  { p with tk := tk, sec := tk / 1000000000, stretched := true, stretch := satAdd 16 p.stretch 1 }

/-- The tick of a follower in a stack stays where the tick master has it; of the step it takes the whole seconds (R97). -/
def stepFollower (d : Int) (p : Spring) : Spring :=
  let secs := (d + 500000000) / 1000000000
  { p with tk := (p.tk + secs * 1000000000).toNat, sec := (p.sec + secs).toNat }

/-- STEP_APPLY: the decided step takes effect at this tick and raises FS50 (R104, R97). -/
def execStepApply (s : State) : Outcome :=
  .next (match s.spring.pendStep with
    | none => s
    | some d =>
      raiseFault 50 0 (modSpring (fun p => (if stackFollow s then stepFollower d else stepTick d) (stepTime d p)) s))

/-- SLEW_START: the tick period that begins carries its part of the offset (R106). -/
def execSlewStart (s : State) : Outcome :=
  .next (if s.spring.pendSlew then
      modSpring (fun p => { p with pendSlew := false, slewing := true, slewCnt := satAdd 16 p.slewCnt 1
                                   slewLeft := slewPart (slewPpm s) p.code p.remain }) s
    else s)

/-- SLEW_END: the tick at which the remaining offset has been removed (R106). -/
def execSlewEnd (s : State) : Outcome :=
  .next (if s.spring.slewing ∧ s.spring.remain = 0 then modSpring (fun p => { p with slewing := false, slewLeft := 0 }) s else s)

/-! ### CLOCK_SET and PTP_CONFIG (R107, R115) -/

/-- CLOCK_SET's operation. The no-time value of R9 is no time to set: BAD_PARAM (R115, log 132). -/
def opClockSet (c : Ctx) (ws : List Word) (s : State) : State :=
  modeGate modesAll c (fun s =>
    match tsParse (par ws 1) (par ws 2) with
    | some (some t) =>
      if reservedBad (par ws 3) 0x1FFFF || ws.length != 3 then answer c stBadParam [] s
      else if s.spring.state = .unsync ∨ s.spring.state = .freerun then
        let s1 := decideStep (t - s.now) (modSpring (fun p => { p with pendStep := none, rtcNs := t, rtcFrom := some s.clk }) s)
        answer c stOk [] (if bitOf (par ws 3) 16 then
          modSpring (fun p => { p with utcOfs := signedOf 16 (field (par ws 3) 0 16), utcValid := true }) s1 else s1)
      else answer c stDenied [] s
    | _ => answer c stBadParam [] s) s

/-- CLOCK_SET. -/
def execClockSet (c : Ctx) (ws : List Word) (s : State) : Outcome := .next (opClockSet c ws (acceptPacket c s))

/-! ### The network ports PTP runs on (R306, R309) -/

/-- A port of the station network. -/
def portOf (n : Net) : NetPort → Port
  | .a => n.a
  | .b => n.b

/-- Change one port and nothing else. -/
def modPort (p : NetPort) (f : Port → Port) (s : State) : State :=
  match p with
  | .a => { s with net := { s.net with a := f s.net.a } }
  | .b => { s with net := { s.net with b := f s.net.b } }

/-- The port of a number: 0 NETA, 1 NETB. -/
def portNum (n : Nat) : NetPort := if n = 0 then .a else .b

/-- The network configuration in force uses a port (Table 13-1). -/
def portUsed (s : State) (p : NetPort) : Bool :=
  match netMode s with
  | none => false
  | some 0 => portNum (netSet s 0x000D0202) == p
  | some _ => true

/-- A port receives and sends: used, its link up, not restarting; no port does before the firmware runs (R293, R39). -/
def portUp (s : State) (p : NetPort) : Bool := pinsLive s && portUsed s p && (portOf s.net p).link && !s.net.restarting

/-- PTP runs on a port: both of a redundant pair, the one PTP_PORT names in INDEP (Table 13-1, R309). -/
def ptpPort (s : State) (p : NetPort) : Bool :=
  portUp s p && (netMode s != some 1 || portNum (ptpSet s 0x000D0305).toNat == p)

/-! ### The best master clock algorithm (R306, R309, R310; log 52) -/

/-- The first difference decides; the first list is the better one where it is smaller. -/
def lexLess : List Nat → List Nat → Bool
  | a :: r, b :: t => decide (a < b) || (a == b && lexLess r t)
  | _, _ => false

/-- What the data set comparison looks at, in its order. -/
def announceKey (a : Announce) : List Nat :=
  [a.priority1, a.clockClass, a.accuracy, a.variance, a.priority2, a.gmId, a.steps]

/-- The identity of the module's own clock: its base MAC address as an EUI-64 (log 52). -/
def ownClockId (s : State) : Nat := s.fw.mac / 2 ^ 24 * 2 ^ 40 + 0xFFFE * 2 ^ 24 + s.fw.mac % 2 ^ 24

/-- ROLE = MASTER_CAPABLE. -/
def masterCapable (s : State) : Bool := ptpSet s 0x000D0301 == 1

/-- The clockClass the module announces (R310, Table 13-4). -/
def ownClass (s : State) : Nat :=
  if !masterCapable s then 255
  else match s.spring.state with
    | .locked => if timeSrc s = 1 then 6 else 248
    | .holdover => if s.net.lastPps then 7 else 248
    | .unsync | .acquiring | .freerun => 248

/-- The module's own data set (log 52). -/
def ownKey (s : State) : List Nat :=
  [(ptpSet s 0x000D0303).toNat, ownClass s, 0xFE, 0xFFFF, (ptpSet s 0x000D0304).toNat, ownClockId s, 0]

/-- The Announce a port has received, while PTP runs on it. -/
def heard (s : State) (p : NetPort) : Option Announce :=
  if ptpPort s p then (match p with
    | .a => s.net.annA
    | .b => s.net.annB) else none

/-- The port whose Announce is the better one, NETA where they are alike. -/
def bestPort (s : State) : Option (NetPort × Announce) :=
  match heard s .a, heard s .b with
  | some a, some b => if lexLess (announceKey b) (announceKey a) then some (.b, b) else some (.a, a)
  | some a, none => some (.a, a)
  | none, some b => some (.b, b)
  | none, none => none

/-- IEEE 1588 numbers of the port states (log 52). -/
abbrev psDisabled : Nat := 3
abbrev psListening : Nat := 4
abbrev psMaster : Nat := 6
abbrev psPassive : Nat := 7
abbrev psSlave : Nat := 9

/-- Give each port its state. -/
def setRoles (f : NetPort → Nat) (s : State) : State :=
  let r (p : NetPort) : Nat := if ptpPort s p then f p else psDisabled
  { s with net := { s.net with a := { s.net.a with role := r .a }, b := { s.net.b with role := r .b } } }

/-- The algorithm selects the master and the port states (R309, R310). -/
def selectMaster (s : State) : State :=
  let own := masterCapable s && (match bestPort s with
    | some (_, a) => lexLess (ownKey s) (announceKey a)
    | none => ptpPort s .a || ptpPort s .b)
  if own then
    let n := { s.net with gmId := ownClockId s, gmClass := ownClass s, steps := 0 }
    setRoles (fun _ => psMaster) { s with net := n }
  else match bestPort s with
    | some (p, a) =>
      let n := { s.net with gmId := a.gmId, gmClass := a.clockClass, steps := min 255 (a.steps + 1) }
      setRoles (fun q => if q = p then psSlave else psPassive) { s with net := n }
    | none => setRoles (fun _ => psListening) s

/-- The UTC offset and leap indicators of the selected master's Announce; neither where it does not mark its offset as valid
(R114, log 131). -/
def takeUtc (a : Announce) (s : State) : State :=
  if a.utcValid then modSpring (fun p => { p with utcOfs := a.utc, leap61 := a.leap61, leap59 := a.leap59, utcValid := true }) s else s

/-- PTP_ANNOUNCE_RECEIVED: of the module's domain, on a port PTP runs on (R114, R306, R309). -/
def execPtpAnnounceReceived (port : NetPort) (a : Announce) (s : State) : Outcome :=
  .next (if ptpPort s port && (a.domain : Int) == ptpSet s 0x000D0302 then
      let n := match port with
        | .a => { s.net with annA := some a }
        | .b => { s.net with annB := some a }
      let s1 := selectMaster { s with net := n }
      if (portOf s1.net port).role = psSlave then takeUtc a s1 else s1
    else s)

/-- ANNOUNCE_RECEIPT_TIMEOUT: three intervals without an Announce on a port; the algorithm selects again (R306). -/
def execAnnounceReceiptTimeout (port : NetPort) (s : State) : Outcome :=
  let n := match port with
    | .a => { s.net with annA := none }
    | .b => { s.net with annB := none }
  let s1 := selectMaster { s with net := n }
  .next (if (bestPort s1).isNone then modSpring (fun p => { p with ptpAlive := false }) s1 else s1)

/-! ### Frames the module originates (R294, R296, R297, R299) -/

/-- HSR or PRP is in force. -/
def redundant (s : State) : Bool := netMode s == some 2 || netMode s == some 3

/-- The addresses of the module's block: NETB has its own in INDEP alone, and one is the culvert's (R294). -/
def portMac (s : State) (p : NetPort) : Nat := if netMode s = some 1 ∧ p = .b then s.fw.mac + 1 else s.fw.mac
def culvertMac (s : State) : Nat := s.fw.mac + 2

/-- The express class: PTP, mirror, sampled values and GOOSE; nothing else the module originates has a priority (R299). -/
def isExpress : SentFrame → Bool
  | .goose .. | .sv .. | .mirror .. | .ptpSync | .ptpAnnounce _ | .ptpPdelay => true
  | .supervision _ | .arp | .icmp | .forwarded .. | .message2 .. | .group _ => false

/-- A frame is sent. -/
def countTx (port : NetPort) (s : State) : State := modPort port (fun p => { p with txN := satAdd 64 p.txN 1 }) s

/-- A frame leaves a port; the newest 64 are kept. -/
def putFrame (seq : Option Nat) (express : Bool) (f : SentFrame) (s : State) (p : NetPort) : State :=
  countTx p { s with net := { s.net with sent := keepSent ⟨p, portMac s p, seq, express, f⟩ s.net.sent } }

/-- A frame the module originates leaves the ports of a list that are up. In HSR and PRP every copy of it carries the same
sequence number (R296, R297). -/
def sendOn (ports : List NetPort) (f : SentFrame) (s : State) : State :=
  let out := ports.filter (portUp s)
  if out.isEmpty then s
  else if redundant s then
    out.foldl (putFrame (some s.net.seqNo) (isExpress f) f) { s with net := { s.net with seqNo := (s.net.seqNo + 1) % 65536 } }
  else out.foldl (putFrame none (isExpress f) f) s

/-- Both ports. -/
abbrev bothPorts : List NetPort := [.a, .b]

/-- The ports by which what belongs to one port leaves: both of a redundant pair (R296, R297). -/
def portsFor (s : State) (p : NetPort) : List NetPort := if redundant s then bothPorts else [p]

/-- PTP_MASTER_TRANSMIT: each second a master port sends one-step Sync and Announce, and every PTP port its Pdelay request
(R306). -/
def execPtpMasterTransmit (s : State) : Outcome :=
  let ports := bothPorts.filter (ptpPort s)
  let masters := ports.filter fun p => (portOf s.net p).role == psMaster
  .next (sendOn ports .ptpPdelay (sendOn masters (.ptpAnnounce (ownClass s)) (sendOn masters .ptpSync s)))

/-- The latency corrections of a port, in ns: LAT_RX and LAT_TX (Table 13-3). -/
def latRx (s : State) (p : NetPort) : Int := ptpSet s (match p with
  | .a => 0x000D0306
  | .b => 0x000D0308)
def latTx (s : State) (p : NetPort) : Int := ptpSet s (match p with
  | .a => 0x000D0307
  | .b => 0x000D0309)

/-- PTP_PDELAY_MESSAGE: a request is answered on its port; a completed exchange gives the mean path delay, as its time-stamps at the
pins give it less the mean of the port's latencies (R306, R307, log 148). -/
def execPtpPdelayMessage (port : NetPort) (m : PdelayMsg) (s : State) : Outcome :=
  .next (if ptpPort s port then
      match m with
      | .request => sendOn [port] .ptpPdelay s.wakeCore
      | .response d => modPort port (fun p => { p with pdelay := (d - (latRx s port + latTx s port) / 2).toNat }) s.wakeCore
    else s)

/-- PTP_SYNC_RECEIVED: a valid offset on the slave port, as the time-stamp at the pins gives it; the receive latency comes off it
(R100, R307, log 148). With SRC = PPS, PTP
only provides time (R108, R109); with SRC = NONE nothing follows it. -/
def execPtpSyncReceived (port : NetPort) (offsetNs : Int) (freq : Int) (s : State) : Outcome :=
  .next (if (portOf s.net port).role = psSlave ∧ ptpPort s port = true then
      let off := offsetNs - latRx s port
      let s1 := modSpring (fun p => { p with ptpAlive := true, ptpMt := off }) s.wakeCore
      if timeSrc s = 0 then measure off (noteFreq freq s1) else s1
    else s)

/-- PTP_CONFIG's operation (R107, R111). -/
def opPtpConfig (c : Ctx) (ws : List Word) (s : State) : State :=
  modeGate [3] c (fun s =>
    match pairsApply ptpParams ptpOk s.net.ptp ws 0 with
    | none => answer c stBadParam [] s
    | some cfg => answer c stOk [] (selectMaster (noteConfig c.src { s with net := { s.net with ptp := cfg } }))) s

/-- PTP_CONFIG. -/
def execPtpConfig (c : Ctx) (ws : List Word) (s : State) : Outcome := .next (opPtpConfig c ws (acceptPacket c s))

/-! ### SYNC_IN and SYNC_OUT (R108 to R113) -/

/-- SYNC_IN_TS shows an accepted edge (R110). -/
def stampEdge (s : State) : State := modSpring (fun p => { p with syncTs := some s.now }) s

/-- PTP and 1PPS disagree by more than 1 µs: FS55; it clears after ten consecutive edges, 10 s, within 0.5 µs (R109, R117). -/
def checkAgree (diff : Nat) (s : State) : State :=
  if 1000 < diff then
    let s1 := s.modSrc 55 fun f => { f with clearCount := 0 }
    if (s.fsrc 55).present then s1 else raiseFault 55 0 s1
  else if diff ≤ 500 then
    let s1 := s.modSrc 55 fun f => { f with clearCount := f.clearCount + 1 }
    if 10 ≤ (s1.fsrc 55).clearCount then clearFault 55 s1 else s1
  else s.modSrc 55 fun f => { f with clearCount := 0 }

/-- A rejected 1PPS edge (R108, Table 5-13). -/
def rejectEdge (s : State) : State := modSpring (fun p => { p with ppsRej := satAdd 16 p.ppsRej 1 }) s

/-- A second from PTP where PTP provides time: the offset of an edge whose second boundary it names (R108). -/
def ppsOffset (s : State) (errNs : Int) : Int :=
  if s.spring.ptpAlive then errNs + (s.spring.ptpMt - errNs + 500000000) / 1000000000 * 1000000000 else errNs

/-- An edge of the selected 1PPS source: its error, and the frequency correction it needs. Outside ACQUIRING one more than 10 µs
off is rejected, and the third in a row raises FS51; a needed correction beyond ±100 ppm is FS53 (R108, R117). -/
def ppsSource (errNs freq : Int) (s : State) : State :=
  if s.spring.state ≠ .acquiring ∧ 10000 < errNs.natAbs then
    let s1 := rejectEdge (modSpring (fun p => { p with ppsRejRun := p.ppsRejRun + 1 }) s)
    if s1.spring.ppsRejRun = 3 ∧ (s.fsrc 51).present = false then raiseFault 51 0 s1 else s1
  else
    let s1 := clearFault 51 (stampEdge (modSpring (fun p => { p with ppsRejRun := 0 }) s))
    let s2 := if s.spring.ptpAlive then checkAgree (s.spring.ptpMt - ppsOffset s errNs).natAbs s1 else s1
    measure (ppsOffset s errNs) (noteFreq freq s2)

/-- An edge in the monitor role: with SRC = PTP it is judged against module time once LOCKED; with SRC = NONE only rejects
are counted (R111). -/
def ppsMonitor (errNs : Int) (s : State) : State :=
  let s1 := stampEdge s
  let far := decide (10000 < errNs.natAbs)
  if timeSrc s = 2 then (if far then rejectEdge s1 else s1)
  else if s.spring.state = .locked then checkAgree errNs.natAbs (if far then rejectEdge s1 else s1)
  else s1

/-- A pulse SYNC_IN accepts: 100 ns high and 100 ns low (R112). -/
def pulseOk (highNs lowNs : Nat) : Bool := decide (100 ≤ highNs) && decide (100 ≤ lowNs)

/-- The headgate sends the trigger symbol to every cell with INJ_EN = ON whose lane is UP (R212). -/
def sendTriggers (s : State) : State :=
  s.mapCells fun _ c => if c.inj.en && c.lane.state == .up then { c with lane := { c.lane with trigs := c.lane.trigs + 1 } } else c

/-- SYNC_IN_EDGE: an edge of a pulse with the times it is high and low; narrower ones, and 1PPS pulses narrower than 1 µs, are
ignored; a wider one is not (R112, log 130). A selected trigger edge is time-stamped, and each cell is sent its trigger, whose
arrival is INJ_TRIGGER (R212). -/
def execSyncInEdge (rising : Bool) (highNs lowNs : Nat) (errNs freq : Int) (s : State) : Outcome :=
  .next (if !pulseOk highNs lowNs then s
    else match ptpSet s 0x00050D01 with
    | 1 => if !rising || highNs < 1000 then s else if timeSrc s = 1 then ppsSource errNs freq s else ppsMonitor errNs s
    | 2 => if rising != (ptpSet s 0x00050D02 == 0) then s else sendTriggers (stampEdge s)
    | _ => s)

/-- PPS_MISSING: no accepted edge for 3 s (Table 5-8 FS51). -/
def execPpsMissing (s : State) : Outcome :=
  .next (if timeSrc s = 1 ∧ (s.fsrc 51).present = false then raiseFault 51 0 s else s)

/-- The level of SYNC_OUT (R113, Table 5-7); low until the host port accepts frames (R39). -/
def syncOut (s : State) : Bool :=
  let p := s.spring
  let qualified := ptpSet s 0x00050D05 == 0 || p.state == .locked || p.state == .holdover
  pinsLive s && qualified && (match ptpSet s 0x00050D04 with
    | 1 => p.ticked && decide (p.mtNs < p.tk + (tickPeriod p.code + 1) / 2)
    | 2 => decide (p.mtNs % 1000000000 < 100000000)
    | _ => false)

/-! ### The calendar, the RTC and the oscillator (R28, R114, R117) -/

/-- The RTC now: its value at the last discipline and the time since. -/
def rtcNow (s : State) : Nat := s.spring.rtcNs + (s.clk - s.spring.rtcFrom.getD 0)

/-- The RTC now where nothing disciplines it: within 2 ppm of the time that has passed (R28). Which value is left open (log 32). -/
def rtcFree (s : State) : Nat :=
  let most := (s.clk - s.spring.rtcFrom.getD 0) * 2 / 1000000
  rtcNow s - most + Config.free s.free % (2 * most + 1)

/-- LEAP_SECOND_APPLY (R114). -/
def execLeapSecondApply (s : State) : Outcome :=
  .next (modSpring (fun p => { p with
    utcOfs := p.utcOfs + (if p.leap61 then 1 else if p.leap59 then -1 else 0), leap61 := false, leap59 := false
    leapAt := if p.leap61 || p.leap59 then some (s.now, p.leap61) else p.leapAt }) s)

/-- FS53 clears once the correction has stayed within ±90 ppm and the monitor good for 10 s (Table 5-8). -/
def clockGoodSecond (s : State) : State :=
  if (s.fsrc 53).present = true ∧ s.spring.oscBad = false ∧ s.spring.freq.natAbs ≤ 90000 then
    let s1 := s.modSrc 53 fun f => { f with clearCount := f.clearCount + 1 }
    if 10 ≤ (s1.fsrc 53).clearCount then clearFault 53 (s1.modSrc 53 fun f => { f with clearCount := 0 }) else s1
  else s

/-- A second of the LOCKED period, and of a hold-over that ACQUIRING interrupts (Table 5-11, R101). -/
def countSecond (p : Spring) : Spring :=
  if p.state = .locked then
    if p.lockSecs = 59 then { p with lockSecs := 0, lockMin := satAdd 16 p.lockMin 1 } else { p with lockSecs := p.lockSecs + 1 }
  else if p.state = .acquiring ∧ p.acqFrom = .holdover then { p with holdSecs := p.holdSecs + 1 }
  else p

/-- RTC_DISCIPLINE: once a second with VSYS valid (R28). -/
def execRtcDiscipline (s : State) : Outcome :=
  .next (if s.pwr.vsysValid then
      clockGoodSecond (modSpring (fun p => countSecond { p with rtcNs := p.mtNs, rtcFrom := some s.clk }) s)
    else s)

/-- OSCILLATOR_MONITOR_FAIL: the monitor fails, or has been good for 10 s (Table 5-8 FS53). -/
def execOscillatorMonitorFail (good : Bool) (s : State) : Outcome :=
  .next (if good then
      let s1 := modSpring (fun p => { p with oscBad := false }) s
      if (s.fsrc 53).present = true ∧ s.spring.freq.natAbs ≤ 90000 then clearFault 53 s1 else s1
    else
      let s1 := (modSpring (fun p => { p with oscBad := true }) s).modSrc 53 fun f => { f with clearCount := 0 }
      if (s.fsrc 53).present then s1 else raiseFault 53 0 s1)

end Sys2Proof.Machine
end

