-- ==== Sys2Proof/Machine/Net.lean ====
section
/-! DEFINITION. The station network block (chapter 13): ports, ring forwarding, the duplicate table, GOOSE and mirror
subscriptions, definitions, the management handshake. Publication stands in Publish. -/

namespace Sys2Proof.Machine

open Sys2Proof

/-! ### Ports (R292 to R295) -/

/-- The source of a port's link fault (Table 13-10). -/
def linkFs : NetPort → Fin 96
  | .a => 56
  | .b => 57

/-- The link of a port goes down. -/
def linkDown (clk : Nat) (p : Port) : Port :=
  { p with link := false, anDone := false, preempt := false, changed := if p.link then clk else p.changed
           downs := if p.link then satAdd 8 p.downs 1 else p.downs }

/-- Both ports restart under the configuration in force (R293). -/
def restartPorts (s : State) : State :=
  let f (p : NetPort) (q : Port) (ifId : Nat) : Port :=
    { linkDown s.clk q with en := portUsed s p, sgmii := netSet s ifId == 1, lost := q.lost && portUsed s p
                            supMiss := q.supMiss && redundant s }
  let s1 := selectMaster { s with net := { s.net with
    restarting := true, a := f .a s.net.a 0x000D0203, b := f .b s.net.b 0x000D0204 } }
  let s2 := if portUsed s .a then s1 else clearFault 56 s1
  let s3 := if portUsed s .b then s2 else clearFault 57 s2
  refreshLoss (if redundant s then s3 else clearFault 58 s3)

/-- NET_CONFIG's operation (R293, R398). -/
def opNetConfig (c : Ctx) (ws : List Word) (s : State) : State :=
  modeGate [3] c (fun s =>
    match pairsApply netParams netOk s.net.cfg ws 0 with
    | none => answer c stBadParam [] s
    | some cfg =>
      let s1 := { s with net := { s.net with cfg := cfg, applied := true } }
      if opRuns s [0x50] || opsFull s c then answer c stBusy [] s
      else if !loadOk s1 then answer c stResource [] s
      else
        let s2 := startOp c (newOp c 0x50 0 (par ws 1)) (noteBudget (noteConfig c.src s1))
        restartPorts { s2 with net := { s2.net with restart := some (ctxRef c 0x50) } }) s

/-- NET_CONFIG. -/
def execNetConfig (c : Ctx) (ws : List Word) (s : State) : Outcome := .next (opNetConfig c ws (acceptPacket c s))

/-- PORTS_RESTARTED (R293). -/
def execPortsRestarted (s : State) : Outcome :=
  .next (finishOpt s.net.restart stOk 0 [] { s with net := { s.net with restarting := false, restart := none } })

/-- PORT_LINK_DOWN: down for 50 ms, a configured port counts as lost (R295, Table 13-10). -/
def execPortLinkDown (port : NetPort) (s : State) : Outcome :=
  .next (if portUsed s port then
      let s1 := selectMaster (modPort port (fun p => { linkDown s.clk p with lost := true }) s)
      refreshLoss (if (s.fsrc (linkFs port)).present then s1 else raiseFault (linkFs port) 0 s1)
    else s)

/-- AN is ON for a port (Table 13-2). -/
def anOn (s : State) : NetPort → Bool
  | .a => netSet s 0x000D0205 == 1
  | .b => netSet s 0x000D0206 == 1

/-- PORT_LINK_UP: the port's partner reports a link. On SGMII one that is not 1000 Mbit/s full duplex counts as link down; 1000BASE-X
knows no other (R295). AN_DONE shows that auto-negotiation, where it is on, has completed with it (Table 13-13). Whether the partner
passes the verify procedure of R299 is a free value. -/
def execPortLinkUp (port : NetPort) (fullDuplex1G anComplete : Bool) (s : State) : Outcome :=
  .next (if portUsed s port then
      if (portOf s.net port).sgmii && !fullDuplex1G then
        if (portOf s.net port).link then selectMaster (modPort port (linkDown s.clk) s) else s
      else
        let pre := netSet s 0x000D0207 == 1 && Config.free s.free % 2 == 1
        let s1 := modPort port (fun p => { p with
          link := true, lost := false, anDone := anComplete || !anOn s port, preempt := pre
          changed := if p.link then p.changed else s.clk }) s.drawFree
        refreshLoss (selectMaster (clearFault (linkFs port) s1))
    else s)

/-! ### Counters (R333) -/

/-- A frame is received. -/
def countRx (port : NetPort) (s : State) : State := modPort port (fun p => { p with rxN := satAdd 64 p.rxN 1 }) s

/-- A frame fails its check: the counters and FS59 (Table 13-10). -/
def countFcs (port : NetPort) (s : State) : State :=
  let s1 := modPort port (fun p => { p with fcsN := satAdd 64 p.fcsN 1 }) s
  raiseFault 59 0 { s1 with net := { s1.net with cFcs := satAdd 32 s1.net.cFcs 1 } }

/-- A duplicate is discarded. -/
def countDup (port : NetPort) (s : State) : State :=
  let s1 := modPort port (fun p => { p with dupN := satAdd 64 p.dupN 1 }) s
  { s1 with net := { s1.net with cDup := satAdd 32 s1.net.cDup 1 } }

/-! ### Supervision (R296, R297, Table 13-10 FS58) -/

/-- Frames that show a ring or a LAN alive came in: FS58 clears once that holds on both ports (log 53). -/
def portHeard (port : NetPort) (s : State) : State :=
  if (portOf s.net port).supMiss then
    let s1 := modPort port (fun p => { p with supMiss := false }) s
    if s1.net.a.supMiss || s1.net.b.supMiss then s1 else clearFault 58 s1
  else s

/-- In PRP every good frame shows its LAN alive. -/
def prpHeard (port : NetPort) (s : State) : State := if netMode s = some 3 then portHeard port s else s

/-- REDUNDANCY_SUPERVISION_SEND. -/
def execRedundancySupervisionSend (s : State) : Outcome :=
  .next (if redundant s && !s.net.restarting then
      sendOn bothPorts (.supervision s.net.supSeq) { s with net := { s.net with supSeq := (s.net.supSeq + 1) % 65536 } }
    else s)

/-- SUPERVISION_MISSING. -/
def execSupervisionMissing (port : NetPort) (s : State) : Outcome :=
  .next (if redundant s then
      let s1 := modPort port (fun p => { p with supMiss := true }) s
      if (s.fsrc 58).present then s1 else raiseFault 58 0 s1
    else s)

/-! ### The duplicate table (R304, R305) -/

/-- The state of SipHash. -/
structure Sip where
  v0 : BitVec 64
  v1 : BitVec 64
  v2 : BitVec 64
  v3 : BitVec 64
  deriving DecidableEq, Repr

/-- One SipRound. -/
def sipRound (x : Sip) : Sip :=
  let a := x.v0 + x.v1
  let b := x.v1.rotateLeft 13 ^^^ a
  let a := a.rotateLeft 32
  let c := x.v2 + x.v3
  let d := x.v3.rotateLeft 16 ^^^ c
  let a' := a + d
  let d' := d.rotateLeft 21 ^^^ a'
  let c' := c + b
  let b' := b.rotateLeft 17 ^^^ c'
  ⟨a', b', c'.rotateLeft 32, d'⟩

/-- One message block of SipHash-2-4. -/
def sipBlock (m : BitVec 64) (x : Sip) : Sip :=
  let y := sipRound (sipRound { x with v3 := x.v3 ^^^ m })
  { y with v0 := y.v0 ^^^ m }

/-- SipHash-2-4 of a 64-bit message under a 128-bit key (R304). -/
def sipHash (key : Nat) (m : BitVec 64) : BitVec 64 :=
  let k0 := BitVec.ofNat 64 key
  let k1 := BitVec.ofNat 64 (key / 2 ^ 64)
  let x : Sip := ⟨k0 ^^^ 0x736F6D6570736575#64, k1 ^^^ 0x646F72616E646F6D#64, k0 ^^^ 0x6C7967656E657261#64, k1 ^^^ 0x7465646279746573#64⟩
  let y := sipBlock 0x0800000000000000#64 (sipBlock m x)
  let z := sipRound (sipRound (sipRound (sipRound { y with v2 := y.v2 ^^^ 0xFF#64 })))
  z.v0 ^^^ z.v1 ^^^ z.v2 ^^^ z.v3

/-- The set of a key: the low 9 bits of its hash (R304). -/
def dupSet (s : State) (key : BitVec 64) : Nat := (sipHash s.net.sipKey key).toNat % 512

/-- The entry of a key; outside HSR and PRP nothing is looked up or entered (Table 13-1). -/
def findDup (s : State) (key : BitVec 64) : Option DupEntry :=
  if redundant s then s.net.dups.find? fun e => e.key == key.toNat else none

/-- Change the entry of a key. -/
def modDup (key : BitVec 64) (f : DupEntry → DupEntry) (s : State) : State :=
  { s with net := { s.net with dups := s.net.dups.map fun e => if e.key = key.toNat then f e else e } }

/-- Remove the entry of a key. -/
def dropDup (key : BitVec 64) (s : State) : State :=
  { s with net := { s.net with dups := s.net.dups.filter fun e => e.key != key.toNat } }

/-- FORGET in ns. -/
def forgetNs (s : State) : Nat := netSet s 0x000D0208 * 1000000

/-- The least recently matched entry of a list. -/
def oldestDup : List DupEntry → Option DupEntry
  | [] => none
  | e :: r => match oldestDup r with
    | none => some e
    | some x => if x.used < e.used then some x else some e

/-- Enter a key provisionally; in a full set it replaces the least recently matched entry, and the replacement of one
younger than FORGET is counted and raises FS60 (R305). -/
def insertDup (key : BitVec 64) (port : NetPort) (s : State) : State :=
  let set := dupSet s key
  let e : DupEntry := { key := key.toNat, set := set, verified := false, ins := s.clk, used := s.clk, port := port, loc := false, fwd := false }
  let same := s.net.dups.filter fun x => x.set == set
  if same.length < 4 then { s with net := { s.net with dups := e :: s.net.dups } }
  else match oldestDup same with
    | none => s
    | some o =>
      let s1 := { s with net := { s.net with dups := e :: s.net.dups.filter fun x => x.key != o.key } }
      if s.clk < o.ins + forgetNs s then raiseFault 60 0 { s1 with net := { s1.net with early := satAdd 16 s1.net.early 1 } } else s1

/-- The header of a keyed frame has come: it is entered where the table does not hold it yet. -/
def enterDup (key : Option (BitVec 64)) (port : NetPort) (s : State) : State :=
  match key with
  | none => s
  | some k => if !redundant s || (findDup s k).isSome then s else insertDup k port s

/-- A frame is a duplicate: the table holds a verified entry of another copy. -/
def isDup (s : State) (key : Option (BitVec 64)) (port : NetPort) (handled : DupEntry → Bool) : Bool :=
  match key.bind (findDup s) with
  | some e => e.verified && (e.port != port || handled e)
  | none => false

/-- A frame verifies: its entry is verified, and the copy has been handled (R304). -/
def verifyDup (key : Option (BitVec 64)) (port : NetPort) (f : DupEntry → DupEntry) (s : State) : State :=
  match key with
  | none => s
  | some k => modDup k (fun e => f { e with verified := true }) (enterDup (some k) port s)

/-- A frame fails: its provisional entry goes (R304). -/
def failDup (key : Option (BitVec 64)) (port : NetPort) (s : State) : State :=
  match key with
  | none => s
  | some k => match findDup s k with
    | some e => if e.verified || e.port != port then s else dropDup k s
    | none => s

/-- A match makes an entry the most recently matched one. -/
def touchDup (key : Option (BitVec 64)) (s : State) : State :=
  match key with
  | none => s
  | some k => modDup k (fun e => { e with used := s.clk }) s

/-- DUP_ENTRY_EXPIRE (R305). -/
def execDupEntryExpire (key : BitVec 64) (s : State) : Outcome := .next (dropDup key s)

/-! ### Ring forwarding (R298 to R301, R308) -/

/-- The other port. -/
def otherPort : NetPort → NetPort
  | .a => .b
  | .b => .a

/-- The residence time of an event message and the mean path delay of the link it came on (R308). -/
def transitNs (f : RingFrame) (s : State) : Int := f.residenceNs + (portOf s.net f.port).pdelay

/-- A correction that waits for this Follow_Up. -/
def waitsFor (f : RingFrame) (id : BitVec 16) (x : NetPort × BitVec 48 × BitVec 16 × Int) : Bool :=
  x.1 == f.port && x.2.1 == f.src && x.2.2.1 == id

/-- The correctionField of the egress copy, and the corrections that wait for a Follow_Up after it (R308). -/
def transit (f : RingFrame) (s : State) : Int × List (NetPort × BitVec 48 × BitVec 16 × Int) :=
  match f.ptp with
  | .none => (f.correction, s.net.tc)
  | .oneStep => (f.correction + transitNs f s, s.net.tc)
  | .twoStep id => (f.correction, keepSent (f.port, f.src, id, transitNs f s) s.net.tc)
  | .followUp id =>
    (f.correction + ((s.net.tc.find? (waitsFor f id)).map fun x => x.2.2.2).getD 0, s.net.tc.filter fun x => !waitsFor f id x)

/-- The egress copy of a ring frame: source and sequence number stay; the correction is that of R308; a frame that fails at the
ingress ends stomped, one whose link fails ends with an error symbol (R300). -/
def forwardCopy (f : RingFrame) (s : State) : State :=
  let out := otherPort f.port
  let x := transit f s
  let copy : NetOut := ⟨out, f.src.toNat, some f.seq.toNat, f.express, .forwarded f.content (!f.fcsOk || f.linkFail) x.1⟩
  let s1 := countTx out { s with net := { s.net with sent := keepSent copy s.net.sent, tc := x.2 } }
  if !f.fcsOk && !f.linkFail then
    let s2 := modPort f.port (fun p => { p with stompN := satAdd 64 p.stompN 1 }) s1
    { s2 with net := { s2.net with cStomp := satAdd 32 s2.net.cStomp 1 } }
  else s1

/-- HSR_FRAME_FORWARD: forwarded unless the module is its source or its only destination, or the table holds a verified
entry for it (R301). -/
def execHsrFrameForward (f : RingFrame) (s : State) : Outcome :=
  let key : Option (BitVec 64) := some (BitVec.append f.src f.seq)
  .next (if netMode s = some 2 ∧ portUp s f.port = true then
      let s1 := countRx f.port s
      let s2 := if f.fcsOk || f.linkFail then s1 else countFcs f.port s1
      if f.src.toNat = s.fw.mac then (if f.fcsOk then portHeard f.port s2 else s2)
      else if isDup s2 key f.port (fun e => e.fwd) then countDup f.port (touchDup key s2)
      else
        let s3 := enterDup key f.port s2
        let s4 := if f.toUs || !portUp s3 (otherPort f.port) then s3 else forwardCopy f s3
        if f.fcsOk then verifyDup key f.port (fun e => { e with fwd := true }) s4 else failDup key f.port s4
    else s)

/-! ### Subscriptions (R302, R303, R313, R314) -/

/-- A subscription. -/
def subOf (s : State) : SubRef → GSub
  | .goose i => s.net.gsub[i]
  | .mirror i => s.net.msub[i]

/-- Change one subscription and nothing else. -/
def modSub (k : SubRef) (f : GSub → GSub) (s : State) : State :=
  match k with
  | .goose i => { s with net := { s.net with gsub := s.net.gsub.set i (f s.net.gsub[i]) } }
  | .mirror i => { s with net := { s.net with msub := s.net.msub.set i (f s.net.msub[i]) } }

/-- Its remote input. -/
def remRefOf : SubRef → RemRef
  | .goose i => .goose i
  | .mirror i => .mirror i

/-- The source of a subscription's faults (Table 13-10). -/
def subFs : SubRef → Fin 96
  | .goose _ => 61
  | .mirror _ => 62

/-- CONF_ERR: a template failure within the last second (Table 13-5). -/
def confErrNow (clk : Nat) (g : GSub) : Bool :=
  match g.confErr with
  | some t => decide (clk < t + 1000000000)
  | none => false

/-- Every defined subscription of a list is VALID, none has CONF_ERR (Table 13-10). -/
def subsHealthy (clk : Nat) (l : List GSub) : Bool := l.all fun g => g.defn.isNone || (g.valid && !confErrNow clk g)

/-- FS61 and FS62 end when their subscriptions are well. -/
def subHealth (s : State) : State :=
  let s1 := if (s.fsrc 61).present && subsHealthy s.clk s.net.gsub.toList then clearFault 61 s else s
  if (s1.fsrc 62).present && subsHealthy s.clk s.net.msub.toList then clearFault 62 s1 else s1

/-- CONF_ERR of a subscription is set (Table 13-10). -/
def setConfErr (k : SubRef) (s : State) : State :=
  let was := confErrNow s.clk (subOf s k)
  let s1 := modSub k (fun g => { g with confErr := some s.clk }) s
  if was then s1 else raiseFault (subFs k) 0 s1

/-- The freshness limit of a subscription has passed at T_k: VALID becomes 0 and its source is raised (R314, Table 13-10). -/
def expireSub (s : State) (k : SubRef) : State :=
  let g := subOf s k
  if g.valid && decide (g.limit < s.spring.tk) then raiseFault (subFs k) 0 (modSub k (fun g => { g with valid := false }) s) else s

/-- SUB_FRESHNESS_EXPIRE. -/
def execSubFreshnessExpire (k : SubRef) (s : State) : Outcome := .next (expireSub s k)

/-- Every subscription is judged at T_k (R314). -/
def expireSubs (s : State) : State :=
  (List.finRange 16).foldl (fun s i => expireSub s (.mirror i)) ((List.finRange 64).foldl (fun s i => expireSub s (.goose i)) s)

/-- A later number in serial arithmetic modulo 2^32 (R316). -/
def serialLater (a b : Nat) : Bool :=
  let d := (a + 2 ^ 32 - b) % 2 ^ 32
  decide (1 ≤ d) && decide (d < 2 ^ 31)

/-- The path of a port has a verified copy until the freshness limit. -/
def notePath (port : NetPort) (limit : Nat) (g : GSub) : GSub :=
  match port with
  | .a => { g with pathA := some limit }
  | .b => { g with pathB := some limit }

/-- Word `i` of a definition. -/
def defWord (d : FrameDef) (i : Nat) : Word := d.words.getD i 0

/-- Destination address, and ports, VLAN tag and VLAN of a definition (Table 13-14). -/
def defDst (d : FrameDef) : Nat := field (defWord d 2) 0 16 * 2 ^ 32 + (defWord d 3).toNat
def defTag (d : FrameDef) : Bool := bitOf (defWord d 1) 15
def defVlan (d : FrameDef) : Nat := field (defWord d 1) 0 12
def defOnPort (s : State) (d : FrameDef) (p : NetPort) : Bool :=
  redundant s || bitOf (defWord d 4) (match p with
    | .a => 0
    | .b => 1)

/-- Address, APPID or Ethertype and VLAN of a frame match a definition. -/
def defMatches (s : State) (d : FrameDef) (p : NetPort) (dst : BitVec 48) (id : Nat) (vlan : Option Nat) : Bool :=
  defOnPort s d p && dst.toNat == defDst d && id == field (defWord d 1) 16 16 && (!defTag d || vlan == some (defVlan d))

/-- The status word of a subscription as of the present frame. -/
def subWord (s : State) (g : GSub) : Word := subStatus s.spring.tk (tickPeriod s.spring.code) s.clk g

/-! ### GOOSE subscriptions (R315 to R317) -/

/-- Words of a string of `n` bytes. -/
def strWords (n : Nat) : Nat := (n + 3) / 4

/-- Words of the three strings of a GOOSE definition, and its member words (Tables 13-15, 13-16). -/
def refWords (d : FrameDef) : Nat :=
  strWords (field (defWord d 8) 0 8) + strWords (field (defWord d 8) 8 8) + strWords (field (defWord d 8) 16 8)
def memberCount (d : FrameDef) : Nat := field (defWord d 5) 16 8
def memberWords (d : FrameDef) : List Word := (d.words.drop (9 + refWords d)).take (memberCount d)

/-- Value words of a member (Table 13-6). -/
def memberLen (w : Word) : Nat := if field w 0 4 = 6 then 2 else 1
def datasetLen (d : FrameDef) : Nat := ((memberWords d).map memberLen).sum

/-- The frame matches the template (R315 check 2). -/
def gooseTemplate (d : FrameDef) (f : GooseFrame) : Bool :=
  f.refs == (d.words.drop 9).take (refWords d) && f.confRev == defWord d 6 && !f.ndsCom && !f.security &&
    f.types == (memberWords d).map (fun w => field w 0 4) && f.vals.length == datasetLen d

/-- The frame is newer, or the subscription is not VALID (R316). -/
def gooseNewer (g : GSub) (f : GooseFrame) : Bool :=
  !g.valid || serialLater f.stNum.toNat g.stNum || (f.stNum.toNat == g.stNum && serialLater f.sqNum.toNat g.sqNum)

/-- What R315 and R317 make of a frame that matches by address. -/
inductive Verdict where
  | accept | confErr | test | ignore
  deriving DecidableEq, Repr

/-- The checks in their order (R315, R317). -/
def gooseVerdict (s : State) (g : GSub) (d : FrameDef) (f : GooseFrame) : Verdict :=
  let comm := s.md.mode == .m10
  if !gooseTemplate d f then .confErr
  else if f.sim && !comm then .ignore
  else if f.test && !comm then .test
  else if gooseNewer g f then .accept else .ignore

/-- The subscription after it accepted a frame; freshness counts from its arrival (R313, R316). -/
def gooseAccepted (now : Nat) (f : GooseFrame) (g : GSub) : GSub :=
  let limit := now + f.ttlMs * 1000000
  notePath f.port limit { g with
    valid := true, isNew := g.isNew || g.never || f.stNum.toNat != g.stNum, test := f.test, never := false
    stNum := f.stNum.toNat, sqNum := f.sqNum.toNat, evT := f.t, limit := limit, rx := satAdd 64 g.rx 1 }

/-- Which copy a frame is. -/
def gooseId (f : GooseFrame) : List Nat := [(if f.port = .a then 0 else 1), f.stNum.toNat, f.sqNum.toNat]

/-- The value words of a frame as received, to the end of its dataset: they are speculative (R302). One frame of a
subscription at a time is; another waits (R303). -/
def gooseWords (f : GooseFrame) (s : State) (i : Fin 64) : State :=
  let g := s.net.gsub[i]
  match g.defn with
  | none => s
  | some d =>
    if defMatches s d f.port f.dst f.appid.toNat f.vlan && g.spec.isNone && gooseVerdict s g d f == .accept then
      let g' := gooseAccepted s.now f g
      remoteSpeculative (.goose i) (f.vals ++ [subWord s g']) (modSub (.goose i) (fun g => { g with spec := some (gooseId f) }) s)
    else s

/-- A frame whose check has passed is judged and, where it is accepted, verified (R302, R315); words of it that were speculative and
are no longer accepted are reverted. -/
def gooseJudge (f : GooseFrame) (i : Fin 64) (d : FrameDef) (s : State) : State :=
  let g := s.net.gsub[i]
  match gooseVerdict s g d f with
  | .accept =>
    let s1 := modSub (.goose i) (gooseAccepted s.now f) s
    remoteVerified (.goose i) (f.vals ++ [subWord s1 s1.net.gsub[i]]) s1
  | .confErr => setConfErr (.goose i) (remoteReverted (.goose i) s)
  | .test => modSub (.goose i) (fun g => { g with drops := satAdd 64 g.drops 1 }) (remoteReverted (.goose i) s)
  | .ignore => remoteReverted (.goose i) s

/-- A frame that no copy in progress holds up: a duplicate is discarded, any other is judged (R303, R304). -/
def gooseFresh (f : GooseFrame) (i : Fin 64) (d : FrameDef) (s : State) : State :=
  if isDup s f.key f.port (fun e => e.loc) then modSub (.goose i) (fun g => notePath f.port g.limit g) s else gooseJudge f i d s

/-- The frames held are handled in their order once the copy in progress has resolved (R303). -/
def gooseRelease (i : Fin 64) (d : FrameDef) (s : State) : State :=
  (s.net.gsub[i].wait).foldl (fun s f => verifyDup f.key f.port (fun e => { e with loc := true }) (gooseFresh f i d s))
    (modSub (.goose i) (fun g => { g with wait := [] }) s)

/-- The check of a frame is known (R302, R303). -/
def gooseCheck (f : GooseFrame) (ok : Bool) (s : State) (i : Fin 64) : State :=
  let g := s.net.gsub[i]
  match g.defn with
  | none => s
  | some d =>
    if !defMatches s d f.port f.dst f.appid.toNat f.vlan then s
    else match g.spec with
      | some id =>
        if id = gooseId f then
          let s0 := modSub (.goose i) (fun g => { g with spec := none }) s
          if ok then gooseRelease i d (verifyDup f.key f.port (fun e => { e with loc := true }) (gooseJudge f i d s0))
          else gooseRelease i d (failDup f.key f.port (remoteReverted (.goose i) s0))
        else if ok then modSub (.goose i) (fun g => { g with wait := g.wait ++ [f] }) s else s
      | none => if ok then gooseFresh f i d s else s

/-- A frame with its check: counters, every subscription it matches, the duplicate table (R304, R315). -/
def gooseEnd (f : GooseFrame) (ok : Bool) (s : State) : State :=
  let s1 := countRx f.port s
  let s2 := if ok then prpHeard f.port s1 else countFcs f.port s1
  let dup := ok && isDup s2 f.key f.port (fun e => e.loc)
  let held := (List.finRange 64).any fun i => s.net.gsub[i].spec.isSome && s.net.gsub[i].spec != some (gooseId f)
  let s3 := (List.finRange 64).foldl (gooseCheck f ok) s2
  if dup then countDup f.port (touchDup f.key s3)
  else if ok then (if held then s3 else verifyDup f.key f.port (fun e => { e with loc := true }) s3)
  else failDup f.key f.port s3

/-- GOOSE_FRAME_RECEIVED: its value words, or its end with the result of the check. -/
def execGooseFrameReceived (f : GooseFrame) (s : State) : Outcome :=
  .next (if portUp s f.port then
      let s := s.wakeCore
      match f.phase with
      | .words =>
        if isDup s f.key f.port (fun e => e.loc) then s
        else (List.finRange 64).foldl (gooseWords f) (enterDup f.key f.port s)
      | .check ok => subHealth (gooseEnd f ok s)
    else s)

/-! ### Mirror subscriptions (R321, R323) -/

/-- Word `i` of a mirror PDU, its value words, its T_k. -/
def pduWord (f : MirrorFrame) (i : Nat) : Word := f.pdu.getD i 0
def pduLen (f : MirrorFrame) : Nat := field (pduWord f 0) 0 16
def pduVals (f : MirrorFrame) : List Word := (f.pdu.drop 8).take (pduLen f)
def pduTk (f : MirrorFrame) : Nat := ((tsParse (pduWord f 5) (pduWord f 6)).getD none).getD 0

/-- The CRC-32C of the PDU (Table 13-7). -/
def pduCrcOk (f : MirrorFrame) : Bool :=
  f.pdu.length == pduLen f + 9 && crc32c (f.pdu.take (8 + pduLen f)) == pduWord f (8 + pduLen f)

/-- Stream and publisher are those of the definition: the identity of the frame. -/
def mirrorIdentity (d : FrameDef) (f : MirrorFrame) : Bool :=
  field (pduWord f 0) 16 8 == field (defWord d 5) 0 3 && pduWord f 1 == defWord d 7 && pduWord f 2 == defWord d 8

/-- What R323 makes of a frame that matches by address and identity. -/
def mirrorVerdict (s : State) (g : GSub) (d : FrameDef) (f : MirrorFrame) : Verdict :=
  if pduLen f ≠ field (defWord d 5) 8 8 ∨ field (pduWord f 7) 16 16 ≠ field (defWord d 6) 16 16 then .confErr
  else if bitOf (pduWord f 7) 6 && s.md.mode != .m10 then .ignore
  else if !g.valid || decide (g.evT < pduTk f) then .accept else .ignore

/-- Frame, address and identity match a mirror subscription. -/
def mirrorMatches (s : State) (d : FrameDef) (f : MirrorFrame) : Bool :=
  let et := field (defWord d 1) 16 16
  defOnPort s d f.port && f.dst.toNat == defDst d && f.etype.toNat == (if et = 0 then 0x88B5 else et)
    && (!defTag d || f.vlan == some (defVlan d)) && mirrorIdentity d f

/-- The subscription after it accepted a frame; freshness is MIR_FRESH ticks (R323). -/
def mirrorAccepted (s : State) (d : FrameDef) (f : MirrorFrame) (g : GSub) : GSub :=
  let limit := s.now + field (defWord d 5) 16 8 * tickPeriod s.spring.code
  notePath f.port limit { g with
    valid := true, isNew := g.isNew || g.never || (pduWord f 3).toNat != g.stNum, test := bitOf (pduWord f 7) 6, never := false
    stNum := (pduWord f 3).toNat, sqNum := (pduWord f 4).toNat, evT := pduTk f, limit := limit, rx := satAdd 64 g.rx 1 }

/-- Which copy a frame is. -/
def mirrorId (f : MirrorFrame) : List Nat := [(if f.port = .a then 0 else 1), (pduWord f 3).toNat, (pduWord f 4).toNat]

/-- The value words of a mirror frame as received (R302). -/
def mirrorWords (f : MirrorFrame) (s : State) (i : Fin 16) : State :=
  let g := s.net.msub[i]
  match g.defn with
  | none => s
  | some d =>
    if mirrorMatches s d f && g.spec.isNone && mirrorVerdict s g d f == .accept then
      let g' := mirrorAccepted s d f g
      remoteSpeculative (.mirror i) (pduVals f ++ [subWord s g']) (modSub (.mirror i) (fun g => { g with spec := some (mirrorId f) }) s)
    else s

/-- A frame whose checks have passed. -/
def mirrorJudge (f : MirrorFrame) (i : Fin 16) (d : FrameDef) (s : State) : State :=
  let g := s.net.msub[i]
  match mirrorVerdict s g d f with
  | .accept =>
    let s1 := modSub (.mirror i) (mirrorAccepted s d f) s
    remoteVerified (.mirror i) (pduVals f ++ [subWord s1 s1.net.msub[i]]) s1
  | .confErr => setConfErr (.mirror i) (remoteReverted (.mirror i) s)
  | .test | .ignore => remoteReverted (.mirror i) s

/-- As `gooseFresh`. -/
def mirrorFresh (f : MirrorFrame) (i : Fin 16) (d : FrameDef) (s : State) : State :=
  if isDup s f.key f.port (fun e => e.loc) then modSub (.mirror i) (fun g => notePath f.port g.limit g) s else mirrorJudge f i d s

/-- As `gooseRelease`. -/
def mirrorRelease (i : Fin 16) (d : FrameDef) (s : State) : State :=
  (s.net.msub[i].waitM).foldl (fun s f => verifyDup f.key f.port (fun e => { e with loc := true }) (mirrorFresh f i d s))
    (modSub (.mirror i) (fun g => { g with waitM := [] }) s)

/-- As `gooseCheck`. -/
def mirrorCheck (f : MirrorFrame) (ok : Bool) (s : State) (i : Fin 16) : State :=
  let g := s.net.msub[i]
  match g.defn with
  | none => s
  | some d =>
    if !mirrorMatches s d f then s
    else match g.spec with
      | some id =>
        if id = mirrorId f then
          let s0 := modSub (.mirror i) (fun g => { g with spec := none }) s
          if ok then mirrorRelease i d (verifyDup f.key f.port (fun e => { e with loc := true }) (mirrorJudge f i d s0))
          else mirrorRelease i d (failDup f.key f.port (remoteReverted (.mirror i) s0))
        else if ok then modSub (.mirror i) (fun g => { g with waitM := g.waitM ++ [f] }) s else s
      | none => if ok then mirrorFresh f i d s else s

/-- A mirror frame that fails its FCS counts as such; one that fails its CRC-32C alone only raises FS59 (R302, R332). -/
def mirrorBad (fcs : Bool) (port : NetPort) (s : State) : State := if fcs then raiseFault 59 0 s else countFcs port s

/-- A mirror frame with its two checks. -/
def mirrorEnd (f : MirrorFrame) (fcs : Bool) (s : State) : State :=
  let ok := fcs && pduCrcOk f
  let s1 := countRx f.port s
  let s2 := if ok then prpHeard f.port s1 else mirrorBad fcs f.port s1
  let dup := ok && isDup s2 f.key f.port (fun e => e.loc)
  let held := (List.finRange 16).any fun i => s.net.msub[i].spec.isSome && s.net.msub[i].spec != some (mirrorId f)
  let s3 := (List.finRange 16).foldl (mirrorCheck f ok) s2
  if dup then countDup f.port (touchDup f.key s3)
  else if ok then (if held then s3 else verifyDup f.key f.port (fun e => { e with loc := true }) s3)
  else failDup f.key f.port s3

/-- MIRROR_FRAME_RECEIVED: both the FCS and the CRC-32C must pass (R302, R323). -/
def execMirrorFrameReceived (f : MirrorFrame) (s : State) : Outcome :=
  .next (if portUp s f.port then
      let s := s.wakeCore
      match f.phase with
      | .words =>
        if isDup s f.key f.port (fun e => e.loc) then s
        else (List.finRange 16).foldl (mirrorWords f) (enterDup f.key f.port s)
      | .check ok => subHealth (mirrorEnd f ok s)
    else s)

/-! ### Definitions: FRAME_DEF (R311, R312) -/

/-- The most definitions of a kind (R311). -/
def kindCount (kind : Nat) : Nat := if kind = 0 then 64 else if kind = 1 then 16 else if kind = 2 then 4 else if kind = 3 then 8 else 16

/-- The length in words that the words of the kind give (Tables 13-15 to 13-18). -/
def defLength (d : FrameDef) : Nat :=
  match d.kind with
  | 0 | 1 => 10 + refWords d + memberCount d
  | 2 => 9 + strWords (field (defWord d 7) 0 8) + field (defWord d 5) 0 5
  | 3 => 8
  | _ => 10

/-- First word and count of the words a definition occupies; the status word is counted in. -/
def defRegion (d : FrameDef) : Nat × Nat :=
  match d.kind with
  | 0 => (field (defWord d 5) 0 16, datasetLen d + 1)
  | 1 => (field (defWord d 5) 0 16, datasetLen d)
  | 3 => (field (defWord d 6) 0 16, field (defWord d 5) 8 8)
  | 4 => (field (defWord d 6) 0 16, field (defWord d 5) 8 8 + 1)
  | _ => (0, 0)

/-- The words lie in the region the kind uses (Table 12-4). -/
def regionOk (d : FrameDef) : Bool :=
  let r := defRegion d
  match d.kind with
  | 0 | 4 => decide (0x120 ≤ r.1) && decide (r.1 + r.2 ≤ 0x520)
  | 1 | 3 => decide (0x540 ≤ r.1) && decide (r.1 + r.2 ≤ 0x900)
  | _ => (d.words.drop (8 + strWords (field (defWord d 7) 0 8))).dropLast.all fun w =>
      let a := field w 0 13
      (decide (a < 0x100) || (decide (0x540 ≤ a) && decide (a < 0x900))) && (decide (field w 16 8 < 32) || field w 16 8 == 0xFF)

/-- The words of the kind are within the ranges of their tables. -/
def fieldsOk (d : FrameDef) : Bool :=
  let w5 := defWord d 5
  match d.kind with
  | 0 | 1 =>
    let m := memberCount d
    let w8 := defWord d 8
    let len := fun i => field w8 (8 * i) 8
    decide (1 ≤ m) && decide (m ≤ 64) && [0, 1, 2].all (fun i => decide (1 ≤ len i) && decide (len i ≤ 129))
      && (memberWords d).all (fun w => decide (field w 0 4 ≤ 6) && !reservedBad w 0xFF
          && (if field w 0 4 = 1 ∨ field w 0 4 = 2 then [1, 2, 4].contains (field w 4 4) else field w 4 4 == 0))
      && !reservedBad w5 0xFFFFFF && !reservedBad w8 0xFFFFFF
      && (if d.kind = 0 then defWord d 7 == 0 else
          decide (1 ≤ field (defWord d 7) 0 16) && decide (field (defWord d 7) 0 16 ≤ 100)
            && decide (1 ≤ field (defWord d 7) 16 16) && decide (field (defWord d 7) 16 16 ≤ 600))
  | 2 =>
    let n := field w5 0 5
    decide (1 ≤ n) && decide (n ≤ 16) && !reservedBad w5 0x31F && decide (1 ≤ field (defWord d 7) 0 8) && decide (field (defWord d 7) 0 8 ≤ 129)
  | _ =>
    decide (1 ≤ field w5 8 8) && decide (field w5 8 8 ≤ 64) && !reservedBad w5 0xFFFF07
      && (if d.kind = 4 then decide (1 ≤ field w5 16 8) else field w5 16 8 == 0)

/-- The words two definitions occupy overlap, both in the same region. -/
def regionsMeet (a b : Nat × Nat) : Bool := decide (a.1 < b.1 + b.2) && decide (b.1 < a.1 + a.2)

/-- The definitions in force but one, with their kinds. -/
def otherDefs (s : State) (kind idx : Nat) : List FrameDef :=
  let pick := fun (k : Nat) (l : List (Option FrameDef)) =>
    ((List.range l.length).zip l).filterMap fun x => if k = kind ∧ x.1 = idx then none else x.2
  pick 0 (s.net.gsub.toList.map fun g => g.defn) ++ pick 1 (s.net.gpub.toList.map fun g => g.defn) ++
    pick 3 (s.net.mpub.toList.map fun g => g.defn) ++ pick 4 (s.net.msub.toList.map fun g => g.defn)

/-- Words of the culvert peers in the remote region. -/
def peerRegions (s : State) : List (Nat × Nat) :=
  s.eng.rems.filterMap fun r => match r.ref with
    | .peer _ => some (r.base, r.len + 1)
    | _ => none

/-- No word of a definition is another's, nor a culvert peer's (R312). -/
def overlapFree (s : State) (d : FrameDef) (idx : Nat) : Bool :=
  let remote := d.kind == 0 || d.kind == 4
  d.kind == 2 || ((otherDefs s d.kind idx).all (fun e =>
    (remote != (e.kind == 0 || e.kind == 4)) || !regionsMeet (defRegion d) (defRegion e)) &&
    (!remote || (peerRegions s).all fun r => !regionsMeet (defRegion d) r))

/-- A complete record is a definition of the kind (R312, Table 13-14). -/
def defOk (s : State) (d : FrameDef) (idx : Nat) : Bool :=
  let w0 := defWord d 0
  let n := field w0 0 16
  field w0 24 8 == 1 && field w0 20 4 == d.kind && !reservedBad w0 0xFFF0FFFF && n == d.words.length && n == defLength d
    && crc32c (d.words.take (n - 1)) == defWord d (n - 1) && !reservedBad (defWord d 2) 0xFFFF && !reservedBad (defWord d 4) 3
    && fieldsOk d && regionOk d && overlapFree s d idx

/-- The remote inputs after a definition changes. -/
def remsWith (ref : RemRef) (d : Option FrameDef) (l : List RemIn) : List RemIn :=
  let rest := l.filter fun r => r.ref != ref
  match d with
  | none => rest
  | some d => rest ++ [{ base := (defRegion d).1, ref := ref, len := (defRegion d).2 - 1 }]

/-- The remote inputs with a definition of a kind and index set or deleted. -/
def remsAfter (s : State) (kind idx : Nat) (d : Option FrameDef) : List RemIn :=
  if h : kind = 0 ∧ idx < 64 then remsWith (.goose ⟨idx, h.2⟩) d s.eng.rems
  else if h : kind = 4 ∧ idx < 16 then remsWith (.mirror ⟨idx, h.2⟩) d s.eng.rems
  else s.eng.rems

/-- A publication with a new definition; its numbers go on (R319). -/
def redefine (d : Option FrameDef) (p : GPub) : GPub :=
  { p with defn := d, lastSet := none, first := true, interval := 0, due := false, asdus := [] }

/-- Put a definition in force, or delete it. -/
def setDef (kind idx : Nat) (d : Option FrameDef) (s : State) : State :=
  let n := s.net
  let n' :=
    match kind with
    | 0 => if h : idx < 64 then { n with gsub := n.gsub.set idx { ({} : GSub) with defn := d } } else n
    | 1 => if h : idx < 16 then { n with gpub := n.gpub.set idx (redefine d n.gpub[idx]) } else n
    | 2 => if h : idx < 4 then { n with sv := n.sv.set idx (redefine d n.sv[idx]) } else n
    | 3 => if h : idx < 8 then { n with mpub := n.mpub.set idx (redefine d n.mpub[idx]) } else n
    | _ => if h : idx < 16 then { n with msub := n.msub.set idx { ({} : GSub) with defn := d } } else n
  { s with net := n', eng := { s.eng with rems := remsAfter s kind idx d } }

/-- No remote word that the active program uses becomes undefined (R311). -/
def remsKeepProgram (s : State) (rems : List RemIn) : Bool :=
  match s.eng.active with
  | some p => (remoteUsed p).all (remDefined rems)
  | none => true

/-- Put a checked definition in force and answer. -/
def defineFrame (c : Ctx) (kind idx : Nat) (d : Option FrameDef) (s : State) : State :=
  if !remsKeepProgram s (remsAfter s kind idx d) then answer c stResource [] s
  else answer c stOk [] (subHealth (noteConfig c.src (setDef kind idx d s)))

/-- FRAME_DEF's operation (R311, R312, R398, R401). -/
def opFrameDef (c : Ctx) (ws : List Word) (s : State) : State :=
  modeGate [3] c (fun s =>
    let kind := field (par ws 1) 0 3
    let idx := field (par ws 1) 8 6
    if reservedBad (par ws 1) 0x13F07 || decide (4 < kind) then answer c stBadParam [] s
    else if opRuns s [0x50] then answer c stBusy [] s
    else if kindCount kind ≤ idx then answer c stResource [] s
    else if bitOf (par ws 1) 16 then (if ws.length = 1 then defineFrame c kind idx none s else answer c stBadParam [] s)
    else if reservedBad (par ws 2) 0xFFFFFF then answer c stBadParam [] s
    else takePart c 0x52 (64 * kind + idx) (field (par ws 2) 0 16) (field (par ws 2) 16 8) (parFrom ws 3)
      (fun l => l.head?.map fun w => field w 0 16)
      (fun rec s => let d : FrameDef := ⟨kind, rec⟩
        if defOk s d idx then defineFrame c kind idx (some d) s else answer c stBadParam [] s) s) s

/-- FRAME_DEF. -/
def execFrameDef (c : Ctx) (ws : List Word) (s : State) : Outcome := .next (opFrameDef c ws (acceptPacket c s))

/-! ### NET_STATS (R333) -/

/-- The 64-bit counters of a port as LO and HI pairs. -/
def portCounters (p : Port) : List Word := [p.rxN, p.txN, p.fcsN, p.stompN, p.dupN, p.preN].flatMap fun n => [lo32 n, hi32 n]

/-- The counters of a port at zero. -/
def clearPort (p : Port) : Port := { p with rxN := 0, txN := 0, fcsN := 0, stompN := 0, dupN := 0, preN := 0 }

/-- NET_STATS's operation; CLEAR zeroes the counters returned. -/
def opNetStats (c : Ctx) (ws : List Word) (s : State) : State :=
  modeGate modesAll c (fun s =>
    if reservedBad (par ws 1) 1 || ws.length != 1 then answer c stBadParam [] s
    else
      let out := (List.range 19).map (fun i => netRead s (4 * i)) ++ portCounters s.net.a ++ portCounters s.net.b
      let n := { s.net with cFcs := 0, cStomp := 0, cDup := 0, cAuth := 0, cHs := 0, cRate := 0, early := 0
                            a := clearPort s.net.a, b := clearPort s.net.b }
      answer c stOk out (if bitOf (par ws 1) 0 then { s with net := n } else s)) s

/-- NET_STATS. -/
def execNetStats (c : Ctx) (ws : List Word) (s : State) : Outcome := .next (opNetStats c ws (acceptPacket c s))

/-! ### Local delivery, ARP and ICMP (R325, R330) -/

/-- The rate limit takes a frame in, or it is dropped, counted and raises FS63 (R330). -/
def rateLimit (k : State → State) (s : State) : State :=
  let recent := s.net.rate.filter fun t => decide (s.clk < t + 1000000000)
  let s1 := { s with net := { s.net with rate := recent } }
  if recent.length < netSet s 0x000D0210 then k { s1 with net := { s1.net with rate := s.clk :: recent } }
  else raiseFault 63 0 { s1 with net := { s1.net with cRate := satAdd 32 s1.net.cRate 1 } }

/-- LOCAL_FRAME_RECEIVED: a frame of an open session is not limited (R330). -/
def execLocalFrameReceived (port : NetPort) (fcsOk session : Bool) (s : State) : Outcome :=
  .next (if portUp s port then
      let s1 := countRx port s.wakeCore
      if !fcsOk then countFcs port s1 else if session then prpHeard port s1 else rateLimit id (prpHeard port s1)
    else s)

/-- The port management uses: both but in INDEP (Table 13-2). -/
def mgmtPort (s : State) (p : NetPort) : Bool :=
  mgmtEn s && portUp s p && (netMode s != some 1 || portNum (netSet s 0x000D020D) == p)

/-- Management takes frames on some port (R325). -/
def mgmtUp (s : State) : Bool := bothPorts.any (mgmtPort s)

/-- A frame of management comes in, within the rate limit (R330). -/
def mgmtFrame (k : State → State) (s : State) : State := if mgmtUp s then rateLimit k s.wakeCore else s

/-- ARP_ICMP_REQUEST: answered while management is enabled (R325), within the rate limit (R330). -/
def execArpIcmpRequest (port : NetPort) (icmp : Bool) (s : State) : Outcome :=
  .next (if mgmtPort s port then
      rateLimit (fun s => sendOn (portsFor s port) (if icmp then .icmp else .arp) s) (countRx port s.wakeCore)
    else s)

/-! ### The management handshake (R326 to R328) -/

/-- Handshakes are taken while an owner key is enrolled and not while the tamper loop is open (R326, R478). -/
def handshakesTaken (s : State) : Bool := s.fw.owner.isSome && !s.fw.loopOpen

/-- Message 1 is answered: at most 8 in a second, none without an owner key. Message 2 goes out in its four parts and carries a
session ID of the module's choice; its keys and signatures are in no register (R326 to R328, Table 13-19). -/
def takeMessage1 (part : HsPart) (s : State) : State :=
  let recent := s.net.hsTimes.filter fun t => decide (s.clk < t + 1000000000)
  if handshakesTaken s && part.idx == 0 && part.count == 1 && part.session == 0 && decide (recent.length < 8) then
    let id := BitVec.ofNat 32 (Config.free s.free)
    (List.range 4).foldl (fun s n => sendOn (bothPorts.filter (mgmtPort s)) (.message2 id n) s) { s.drawFree with net := { s.net with
      hsTimes := s.clk :: recent, hs := some ⟨id, s.clk, []⟩ } }
  else { s with net := { s.net with hsTimes := recent } }

/-- UDP_HANDSHAKE_MSG1: a frame under RATE_LIM (R330). -/
def execUdpHandshakeMsg1 (part : HsPart) (s : State) : Outcome := .next (mgmtFrame (takeMessage1 part) s)

/-- A handshake fails (R327). -/
def failHandshake (s : State) : State :=
  { s with net := { s.net with hs := none, cHs := satAdd 16 s.net.cHs 1 } }

/-- The session of a handshake opens; while 4 are open it does not (R328). -/
def openSession (id : BitVec 32) (s : State) : State :=
  let n := s.net
  if n.sessions.length < 4 then
    { s with net := { n with hs := none, sessions := n.sessions ++ [{ id := id.toNat, openAt := s.clk, lastAt := s.clk, seq := 0, count := 0 }] } }
  else { s with net := { n with hs := none } }

/-- A part of message 3: with its last part the signatures are verified under the owner keys; the module sends no answer
(R326, R327). Its parts come within 2 s of the first, and that within 2 s of message 2. -/
def takeMessage3 (part : HsPart) (sigOk : Bool) (s : State) : State :=
  match s.net.hs with
  | none => s
  | some h =>
    if h.since + 2000000000 ≤ s.clk then failHandshake s
    else if part.session ≠ h.session ∨ part.count ≠ 3 ∨ 3 ≤ part.idx ∨ handshakesTaken s = false then s
    else
      let got := if h.parts.contains part.idx then h.parts else part.idx :: h.parts
      if got.length < 3 then
        { s with net := { s.net with hs := some { h with parts := got, since := if h.parts = [] then s.clk else h.since } } }
      else if sigOk then openSession h.session s else failHandshake s

/-- UDP_HANDSHAKE_MSG3: a frame under RATE_LIM (R330). -/
def execUdpHandshakeMsg3 (part : HsPart) (sigOk : Bool) (s : State) : Outcome := .next (mgmtFrame (takeMessage3 part sigOk) s)

/-- HANDSHAKE_TIMEOUT (R327). -/
def execHandshakeTimeout (s : State) : Outcome := .next (if s.net.hs.isSome then failHandshake s else s)

/-- Close a session: its alive state goes with it (R328). -/
def closeSession (id : Nat) (s : State) : State :=
  { s with net := { s.net with sessions := s.net.sessions.filter fun x => x.id != id }
           alives := s.alives.filter fun a => a.1 != .udp id }

/-- A session is over: 60 s without an accepted datagram, 2^32 datagrams, or 24 h (R328). -/
def sessionOver (clk : Nat) (x : Session) : Bool :=
  decide (x.lastAt + 60000000000 ≤ clk) || decide (x.openAt + 86400000000000 ≤ clk) || decide (2 ^ 32 ≤ x.count)

/-- SESSION_EXPIRE (R328). -/
def execSessionExpire (session : BitVec 32) (s : State) : Outcome :=
  .next (if s.net.sessions.any (fun x => x.id == session.toNat && sessionOver s.clk x) then closeSession session.toNat s else s)

end Sys2Proof.Machine
end

