-- ==== Sys2Proof/Machine/Stack.lean ====
section
/-! DEFINITION. Culvert stacks and manager-worker groups (chapter 14): training, mastership, tick images, breaks, service
frames on their way, the worker list, forwarding on the manager. What a worker executes stands in Transport. -/

namespace Sys2Proof.Machine

open Sys2Proof

/-- Change the culvert and nothing else. -/
def modCas (f : Cas → Cas) (s : State) : State := { s with cas := f s.cas }

/-- The own index, and the CAS_M strap (R36, R334; log 54). -/
def casIdx (s : State) : Nat := s.pwr.straps % 8
def casDefined (s : State) : Bool := decide (8 ≤ s.pwr.straps)

/-- A CAS_CONFIG setting in force; the culvert is enabled. -/
def casSet (s : State) (id : Nat) : Nat := (valueIn casParams s.cas.cfg id).toNat
def casOn (s : State) : Bool := casSet s 0x000E0101 == 1

/-! ### CAS_CONFIG (R336, R342, R408) -/

/-- Peer, image word, count and first remote word of a MAP entry. -/
def mapPeer (w : Word) : Nat := field w 0 3
def mapWord (w : Word) : Nat := field w 3 7
def mapCount (w : Word) : Nat := field w 10 7
def mapBase (w : Word) : Nat := field w 17 11

/-- The entries of a peer. -/
def peerMap (m : List Word) (i : Nat) : List Word := m.filter fun w => mapPeer w == i

/-- First mapped remote word of a peer, and the words from it to the last one (R346, log 55). -/
def peerBase (m : List Word) (i : Nat) : Nat := (peerMap m i).foldl (fun n w => min n (mapBase w)) 8192
def peerLen (m : List Word) (i : Nat) : Nat := (peerMap m i).foldl (fun n w => max n (mapBase w + mapCount w)) 0 - peerBase m i

/-- The remote inputs a map defines. -/
def peerRems (m : List Word) : List RemIn :=
  (List.finRange 8).filterMap fun i =>
    if (peerMap m i.val).isEmpty then none else some { base := peerBase m i.val, ref := .peer i, len := peerLen m i.val }

/-- The remote inputs of GOOSE and mirror subscriptions. -/
def frameRems (l : List RemIn) : List RemIn :=
  l.filter fun r => match r.ref with
    | .peer _ => false
    | .goose _ | .mirror _ => true

/-- The words of two remote inputs overlap. -/
def remsMeet (a b : RemIn) : Bool := regionsMeet (a.base, a.len + 1) (b.base, b.len + 1)

/-- No two remote inputs of a list overlap. -/
def remsApart : List RemIn → Bool
  | [] => true
  | r :: l => l.all (fun q => !remsMeet r q) && remsApart l

/-- A MAP entry lies in its ranges (Table 14-1). -/
def mapEntryOk (w : Word) : Bool :=
  !reservedBad w 0x0FFFFFFF && decide (3 ≤ mapWord w) && decide (1 ≤ mapCount w) && decide (mapWord w + mapCount w ≤ 127)
    && decide (0x120 ≤ mapBase w) && decide (mapBase w + mapCount w < 0x520)

/-- A whole map: at most 64 entries, its words apart from each other's and from the subscriptions' (R336). -/
def mapOk (s : State) (m : List Word) : Bool :=
  decide (m.length ≤ 64) && m.all mapEntryOk && remsApart (frameRems s.eng.rems ++ peerRems m)

/-- The culvert after its settings changed: switched on it trains, switched off it is DOWN (R335, R356). -/
def casEnable (old new : Bool) (c : Cas) : Cas :=
  if new = old then c
  else if new then { c with state := 1, role := 2 }
  else { c with state := 0, role := 3, localT := false, brkA := false, brkB := false, lost := false, ring := [], queueA := [], queueB := [] }

/-- New settings and, when the packet names MAP, a new map. -/
def applyCas (c : Ctx) (cfg : List (Nat × Int)) (m : Option (List Word)) (s : State) : State :=
  let rems := match m with
    | some m => frameRems s.eng.rems ++ peerRems m
    | none => s.eng.rems
  let s1 := { s with cas := { casEnable (casOn s) (valueIn casParams cfg 0x000E0101 == 1) s.cas with cfg := cfg, map := m.getD s.cas.map }
                     eng := { s.eng with rems := rems } }
  if !remsKeepProgram s rems || !loadOk s1 then answer c stResource [] s
  else answer c stOk [] (refreshLoss (noteBudget (noteConfig c.src s1)))

/-- RECLAIM: only the defined master, not acting, with the culvert UP (R342). -/
def reclaim (c : Ctx) (s : State) : State :=
  if !casDefined s || s.cas.role == 1 || s.cas.state != 2 || s.cas.reclaim.isSome then answer c stWrongMode [] s
  else if opsFull s c then answer c stBusy [] s
  else startOp c (newOp c 0x60 0 0) (modCas (fun x => { x with reclaim := some (ctxRef c 0x60) }) s)

/-- CAS_CONFIG's operation. -/
def opCasConfig (c : Ctx) (ws : List Word) (s : State) : State :=
  let pairs := pairsOf (ws.drop 1)
  let isMap := fun (x : Nat × Word) => x.1 == 0x000E0104
  if bitOf (par ws 1) 31 then
    modeGate modesAll c (refuseIf (reservedBad (par ws 1) 0x80000000 || ws.length != 1) stBadParam c (reclaim c)) s
  else modeGate [3] c (fun s =>
    let m := if pairs.any isMap then some ((pairs.filter isMap).map Prod.snd) else none
    match (if pairsFit ws 0 then checkPairs casParams (pairs.filter fun x => !isMap x) else none) with
    | none => answer c stBadParam [] s
    | some l => if !mapOk s (m.getD s.cas.map) then answer c stBadParam [] s else applyCas c (applyPairs s.cas.cfg l) m s) s

/-- CAS_CONFIG. -/
def execCasConfig (c : Ctx) (ws : List Word) (s : State) : Outcome := .next (opCasConfig c ws (acceptPacket c s))

/-! ### Training and mastership (R334 to R342) -/

/-- The straps and TICK codes of the stack contradict each other (R335). -/
def casConflict (l : List CasReport) (code : Nat) : Bool :=
  !noRepeat (l.map fun r => r.idx.val) || countIf (fun r => r.master) l != 1 || l.any fun r => r.code != code

/-- The module's own report. -/
def ownReport (s : State) : CasReport := ⟨⟨casIdx s, Nat.mod_lt _ (by decide)⟩, casDefined s, s.spring.code⟩

/-- Which peers were seen at training. -/
def seePeers (l : List CasReport) (c : Cas) : Cas :=
  { c with peers := Vector.ofFn fun i => { c.peers[i] with seen := l.any fun r => r.idx == i } }

/-- CAS_TRAINING_COMPLETE: UP or CONFLICT. The defined master acts, unless another acting master has been heard already
(R335, R341). -/
def execCasTrainingComplete (r : CasTraining) (s : State) : Outcome :=
  .next (if !casOn s then s
    else
      let all := ownReport s :: r.peers
      let base := modCas (fun c => { seePeers r.peers c with ring := r.peers.map fun p => p.idx, localT := false, symNum := none }) s
      if casConflict all s.spring.code then
        let s1 := modCas (fun c => { c with state := 3, role := 3, noBkp := false, doubleM := false }) base
        if (s.fsrc 73).present then s1 else raiseFault 73 0 s1
      else
        let act := casDefined s && !s.cas.doubleM
        let m := ((all.find? fun p => p.master).map fun p => p.idx.val).getD 0
        clearFault 73 (modCas (fun c => { c with
          state := 2, role := if act then 1 else 0, noBkp := m == 1, master := if c.doubleM then c.master else m
          brkA := false, brkB := false, doubleM := false }) base))

/-- FS72 ends once all links are locked and the culvert grid is followed (Table 14-4). -/
def casWell (s : State) : State :=
  if (s.fsrc 72).present && !s.cas.lost && !s.cas.brkA && !s.cas.brkB && !s.cas.localT then clearFault 72 s else s

/-- CAS_TICK_SYMBOL: a follower takes the culvert grid from it and forwards it (R337); of two acting masters the lower index yields at the
next tick 0 (R342); before training it shows that a stack runs already (R341). -/
def execCasTickSymbol (num : Nat) (fromIdx : Fin 8) (s : State) : Outcome :=
  .next (if s.cas.state = 1 then modCas (fun c => { c with doubleM := true, master := fromIdx.val }) s
    else if s.cas.state ≠ 2 then s
    else if s.cas.role = 1 then modCas (fun c => { c with doubleM := decide (casIdx s < fromIdx.val) }) s
    else casWell (modCas (fun c => { c with
      role := 0, master := fromIdx.val, localT := false, symNum := some num, symOut := some num }) s))

/-- CAS_FLYWHEEL_TICK: the tick comes from the flywheel (R338); the backup takes over, and without it no one acts (R339). -/
def execCasFlywheelTick (s : State) : Outcome :=
  .next (if s.cas.state ≠ 2 ∨ s.cas.role = 1 then s
    else
      let takes := casIdx s == 1 && !s.cas.noBkp
      raiseFault 72 0 (modCas (fun c => { c with
        localT := true, symNum := none, fly := satAdd 16 c.fly 1
        role := if takes then 1 else if c.localT then 2 else c.role, master := if takes then 1 else c.master }) s))

/-- CAS_RECLAIM_HANDOVER: at tick 0 the defined master that asked acts again, and the one that acted follows; a split master
with the lower index yields (R342). -/
def execCasReclaimHandover (s : State) : Outcome :=
  .next (match s.cas.reclaim with
    | some r => finishOp r stOk 0 [] (modCas (fun c => { c with reclaim := none, role := 1, master := casIdx s, localT := false }) s)
    | none =>
      if s.cas.role = 1 ∧ (s.cas.doubleM = true ∨ casDefined s = false) then
        modCas (fun c => { c with role := 0, doubleM := false }) s
      else s)

/-! ### Breaks (R347) -/

/-- CAS_LINK_BREAK. -/
def execCasLinkBreak (portB : Bool) (s : State) : Outcome :=
  .next (if casOn s then
      refreshLoss (raiseFault 72 0 (modCas (fun c => { c with lost := true, brkA := c.brkA || !portB, brkB := c.brkB || portB }) s))
    else s)

/-- CAS_RING_HEALED: all links locked for 1 s. -/
def execCasRingHealed (s : State) : Outcome :=
  .next (refreshLoss (casWell (modCas (fun c => { c with lost := false, brkA := false, brkB := false }) s)))

/-! ### Tick images (R343 to R346) -/

/-- The module a frame that came in on one port goes to next on the other. -/
def nextModule (c : Cas) (fromB : Bool) : Option (Fin 8) := if fromB then c.ring.head? else c.ring.getLast?

/-- The link of a port is broken. -/
def casBroken (c : Cas) (portB : Bool) : Bool := if portB then c.brkB else c.brkA

/-- An image is forwarded on the other port unless the next module there is its sender (R343). -/
def forwardImage (fromB : Bool) (sender : Nat) (c : Cas) : Cas :=
  let out := if fromB then 0 else 1
  if casBroken c (!fromB) || (nextModule c fromB).map Fin.val == some sender || (nextModule c fromB).isNone || c.fwd.contains (sender, out) then c
  else { c with fwd := (sender, out) :: c.fwd }

/-- The mapped words of a peer, from its first to its last remote word (R345). -/
def mappedVals (m : List Word) (i : Nat) (img : List Word) : List Word :=
  (List.range (peerLen m i)).map fun k =>
    let a := peerBase m i + k
    match (peerMap m i).find? fun w => decide (mapBase w ≤ a) && decide (a < mapBase w + mapCount w) with
    | some w => img.getD (mapWord w + (a - mapBase w)) 0
    | none => 0

/-- An image's sender, tick number and TICK code (Table 14-2). -/
def imgSender (img : CasImage) : Nat := field (img.words.getD 0 0) 21 3
def imgNum (img : CasImage) : Nat := field (img.words.getD 1 0) 0 14
def imgCode (img : CasImage) : Nat := field (img.words.getD 0 0) 18 3

/-- The peer after an image was verified. -/
def peerVerified (s : State) (fromB : Bool) (img : CasImage) (q : CasPeer) : CasPeer :=
  let w0 := img.words.getD 0 0
  let q := { q with valid := true, never := false, test := bitOf w0 11, pmode := field w0 14 4, lastTick := s.spring.cnt }
  if fromB then { q with pathB := some s.spring.cnt } else { q with pathA := some s.spring.cnt }

/-- Change one peer. -/
def modPeer (i : Fin 8) (f : CasPeer → CasPeer) (s : State) : State :=
  modCas (fun c => { c with peers := c.peers.set i (f c.peers[i]) }) s

/-- An image of this tick from the peer has been verified already. -/
def peerDone (s : State) (i : Fin 8) : Bool := let q := s.cas.peers[i]; q.valid && !q.never && q.lastTick == s.spring.cnt

/-- An image is one of this tick, at the local TICK code (R345, Table 14-4). -/
def imageFits (s : State) (img : CasImage) : Bool := imgNum img == s.spring.num && imgCode img == s.spring.code

/-- The words of an image as they come (R345). -/
def imageWords (fromB : Bool) (img : CasImage) (i : Fin 8) (s : State) : State :=
  let q := s.cas.peers[i]
  if imageFits s img && !peerDone s i && q.spec.isNone then
    let q' := peerVerified s fromB img q
    let s1 := modPeer i (fun q => { q with spec := some fromB }) s
    remoteSpeculative (.peer i) (mappedVals s.cas.map i.val img.words ++ [peerStatus s.spring.cnt (casFresh s) q']) s1
  else s

/-- A whole image that passed its check: a copy after a verified one is discarded (R345). -/
def imageVerified (fromB : Bool) (img : CasImage) (i : Fin 8) (s : State) : State :=
  if !imageFits s img then s
  else
    let done := peerDone s i
    let s1 := modPeer i (peerVerified s fromB img) s
    if done then s1
    else remoteVerified (.peer i) (mappedVals s.cas.map i.val img.words ++ [peerStatus s.spring.cnt (casFresh s) s1.cas.peers[i]]) s1

/-- A copy held while the other direction's was in progress is handled now (R303). -/
def imageRelease (fromB : Bool) (i : Fin 8) (s : State) : State :=
  match s.cas.peers[i].wait with
  | some img => imageVerified (!fromB) img i (modPeer i (fun q => { q with wait := none }) s)
  | none => s

/-- The end of an image with the result of its CRC-32C (R345). -/
def imageEnd (fromB : Bool) (img : CasImage) (ok : Bool) (i : Fin 8) (s : State) : State :=
  let q := s.cas.peers[i]
  let s0 := if ok then s else modCas (fun c => { c with errs := satAdd 16 c.errs 1 }) s
  if q.spec = some fromB then
    let s1 := modPeer i (fun q => { q with spec := none }) s0
    imageRelease fromB i (if ok then imageVerified fromB img i s1 else remoteReverted (.peer i) s1)
  else if !ok then s0
  else if q.spec.isSome then modPeer i (fun q => { q with wait := some img }) s0
  else imageVerified fromB img i s0

/-- CAS_IMAGE_RECEIVED: forwarded, its mapped words speculative, verified or reverted; another TICK code raises FS73. -/
def execCasImageReceived (fromB : Bool) (img : CasImage) (crcOk : Bool) (s : State) : Outcome :=
  .next (if s.cas.state ≠ 2 then s
    else
      let i : Fin 8 := ⟨imgSender img, Nat.mod_lt _ (by decide)⟩
      let s1 := modCas (forwardImage fromB i.val) s
      let s2 := match img.phase with
        | .words => imageWords fromB img i s1
        | .check ok => imageEnd fromB img (ok && crcOk) i s1
      let bad := match img.phase with
        | .words => false
        | .check ok => ok && crcOk && imgCode img != s.spring.code
      if bad && !(s.fsrc 73).present then raiseFault 73 0 s2 else s2)

/-- At T_k the peers' images are judged by CAS_FRESH (R346, R314). -/
def refreshPeers (s : State) : State :=
  modCas (fun c => { c with peers := c.peers.map fun q =>
    { q with valid := q.valid && decide (s.spring.cnt ≤ q.lastTick + casFresh s), spec := none, wait := none }, fwd := [] }) s

/-! ### Service frames on their way (R350) -/

/-- Time of a service frame on a link, in ns (2 Gbit/s, with the overhead the image of R343 shows; log 56). -/
def svcTime (f : SvcFrame) : Nat := 4 * (f.n + 8) + 32

/-- The frames of a queue that fit the window left, and those that stay. -/
def fitWindow : Nat → List SvcFrame → List SvcFrame × List SvcFrame
  | _, [] => ([], [])
  | left, f :: r => if svcTime f ≤ left then ((f :: (fitWindow (left - svcTime f) r).1), (fitWindow (left - svcTime f) r).2) else ([], f :: r)

/-- In the window of a tick, from T_k + 25 µs to T_{k+1} − 8 µs, the queued frames are sent (R350). -/
def sendService (s : State) : State :=
  let w := tickPeriod s.spring.code - 33000
  let a := fitWindow w s.cas.queueA
  let b := fitWindow w s.cas.queueB
  modCas (fun c => { c with queueA := a.2, queueB := b.2, svcSent := (b.1.reverse ++ a.1.reverse ++ c.svcSent).take 64 }) s

/-- Put a frame into a queue of at most 8, forwarded frames before the module's own; none when it is full. -/
def queueFrame (own : Nat) (f : SvcFrame) (q : List SvcFrame) : Option (List SvcFrame) :=
  if 8 ≤ q.length then none
  else if f.src.val = own then some (q ++ [f])
  else some ((q.filter fun x => x.src.val != own) ++ [f] ++ (q.filter fun x => x.src.val == own))

/-- The shorter path to an index goes by CAS_A, the other way where its link is broken (R350). -/
def routeA (c : Cas) (dst : Fin 8) : Bool :=
  let j := c.ring.idxOf dst
  let a := decide (j + 1 ≤ c.ring.length - j)
  if a then !c.brkA || c.brkB else c.brkB && !c.brkA

/-- Queue a frame on a port. -/
def enqueue (toA : Bool) (own : Nat) (f : SvcFrame) (c : Cas) : Option Cas :=
  if toA then (queueFrame own f c.queueA).map fun q => { c with queueA := q }
  else (queueFrame own f c.queueB).map fun q => { c with queueB := q }

/-! ### GROUP_CONFIG (R348, R408) -/

/-- One entry of a worker list. -/
def workerOf (a b c d : Word) : Worker :=
  { num := field a 0 6, batch := field a 8 3, culvert := bitOf a 11, casIdx := field a 12 3, udpPort := field a 16 16
    serial := c.toNat * 2 ^ 32 + b.toNat, ip := d.toNat }

/-- An entry is well formed (Table 17-6). -/
def workerWordOk (a : Word) : Bool := !reservedBad a 0xFFFF7F3F && decide (field a 0 6 ≤ 62)

/-- The entries of a list. -/
def workersOf : List Word → Option (List Worker)
  | [] => some []
  | a :: b :: c :: d :: r => if workerWordOk a then (workersOf r).map fun l => workerOf a b c d :: l else none
  | _ => none

/-- Insert a worker in ascending number. -/
def insertWorker (w : Worker) : List Worker → List Worker
  | [] => [w]
  | x :: r => if w.num < x.num then w :: x :: r else x :: insertWorker w r

/-- FS74 ends once every listed worker reports (Table 14-4). -/
def groupWell (s : State) : State :=
  if (s.fsrc 74).present && s.grp.workers.all (fun w => w.ok) then clearFault 74 s else s

/-- GROUP_CONFIG's operation. -/
def opGroupConfig (c : Ctx) (ws : List Word) (s : State) : State :=
  modeGate [3] c (fun s =>
    let w1 := par ws 1
    if reservedBad w1 0x103 then answer c stBadParam [] s
    else match field w1 0 2 with
      | 0 =>
        match workersOf (ws.drop 1) with
        | none => answer c stBadParam [] s
        | some l =>
          let all := (if bitOf w1 8 then s.grp.workers else []) ++ l
          if !noRepeat (all.map fun w => w.num) then answer c stBadParam [] s
          else
            let s1 := noteConfig c.src { s with grp := { s.grp with workers := all.foldr insertWorker [] } }
            answer c stOk [] (groupWell s1)
      | 1 =>
        if ws.length ≠ 11 ∨ bitOf w1 8 = true then answer c stBadParam [] s
        else
          let g := { s.grp with managed := true, mgr := (par ws 3).toNat * 2 ^ 32 + (par ws 2).toNat, key := parFrom ws 4, rxSeq := 0, txSeq := 0 }
          answer c stOk [] (noteConfig c.src { s with grp := g })
      | 2 =>
        if ws.length ≠ 1 ∨ bitOf w1 8 = true then answer c stBadParam [] s
        else
          let g := { s.grp with managed := false, key := [], coord := none }
          answer c stOk [] (noteConfig c.src { s with grp := g })
      | _ => answer c stBadParam [] s) s

/-- GROUP_CONFIG. -/
def execGroupConfig (c : Ctx) (ws : List Word) (s : State) : Outcome := .next (opGroupConfig c ws (acceptPacket c s))

/-! ### Group datagrams from this module (R349 to R351) -/

/-- Change the entry of a worker. -/
def modWorker (n : Nat) (f : Worker → Worker) (s : State) : State :=
  { s with grp := { s.grp with workers := s.grp.workers.map fun w => if w.num = n then f w else w } }

/-- The entry of a worker. -/
def findWorker (s : State) (n : Nat) : Option Worker := s.grp.workers.find? fun w => w.num == n

/-- A datagram goes out: by the network, or in a service frame on the culvert, where a full queue drops it; answers whether
it left. The words are those of the message, without its header and tag (log 57). -/
def sendGroup (w : Worker) (ws : List Word) (s : State) : State × Bool :=
  let s1 := { s with grp := { s.grp with sent := keepSent ws s.grp.sent } }
  let s2 := modWorker w.num (fun w => { w with txSeq := w.txSeq + 1 }) s1
  if w.culvert then
    let dst : Fin 8 := ⟨w.casIdx % 8, Nat.mod_lt _ (by decide)⟩
    let f : SvcFrame := ⟨dst, ⟨casIdx s, Nat.mod_lt _ (by decide)⟩, 32 + 4 * ws.length, ws⟩
    match enqueue (routeA s.cas dst) (casIdx s) f s.cas with
    | some c => ({ s2 with cas := c }, true)
    | none => (s, false)
  else (sendOn (bothPorts.filter (mgmtPort s2)) (.group ws) s2, true)

/-- A message of a worker goes to its manager on the path the manager's last one came by; a full culvert queue drops it
(R349, R350; DESIGN CHOICE, log 57). -/
def sendUp (via : Option (Fin 8)) (s : State) (ws : List Word) : State :=
  let s1 := { s with grp := { s.grp with txSeq := s.grp.txSeq + 1, sent := keepSent ws s.grp.sent } }
  match via with
  | none => sendOn (bothPorts.filter (mgmtPort s1)) (.group ws) s1
  | some dst =>
    let f : SvcFrame := ⟨dst, ⟨casIdx s, Nat.mod_lt _ (by decide)⟩, 32 + 4 * ws.length, ws⟩
    { s1 with cas := (enqueue (routeA s.cas dst) (casIdx s) f s.cas).getD s1.cas }

/-- The replies that wait for it go to the manager, oldest first. -/
def flushGroup (s : State) : State := s.grp.out.foldl (sendUp s.grp.via) { s with grp := { s.grp with out := [] } }

/-- The packet a worker gets: its own alive counter, the tag kept, a new CRC-32C (R409). -/
def forwardPacket (alive : Nat) (packet : List Word) : List Word :=
  let w0 := packet.headD 0
  let ws := ((w0 &&& 0xFF00FFFF#32) ||| BitVec.ofNat 32 (alive % 256 * 65536)) :: (packet.drop 1).dropLast
  ws ++ [crc32c ws]

/-! ### GROUP_FORWARD on the manager (R351, R353, R354, R409) -/

/-- The workers two mask words name, ascending. -/
def namedWorkers (a b : Word) : List Nat :=
  (List.range 63).filter fun n => if n < 32 then bitOf a n else bitOf b (n - 32)

/-- A packet carried whole: length and CRC-32C are right (Table 15-5). -/
def carriedOk (p : List Word) : Bool :=
  let n := field (p.headD 0) 0 8
  decide (n ≤ 243) && p.length == n + 2 && crc32c (p.take (n + 1)) == p.getD (n + 1) 0

/-- The mask words of workers. -/
def maskWords (l : List Nat) : List Word :=
  let n := l.foldl (fun m k => m + 2 ^ k) 0
  [lo32 n, hi32 n]

/-- A GROUP_FORWARD completes with the answers of its workers (R409). -/
def finishForward (a : GroupAct) (s : State) : State :=
  let rows := a.named.map fun n => (n, ((a.got.find? fun g => g.1 == n).map Prod.snd).getD (stTimeout, []))
  let words := rows.map fun r => packWord [(0, 8, r.2.2.length), (16, 6, r.1), (24, 8, r.2.1)]
  let extra := match rows with
    | [r] => r.2.2
    | _ => []
  finishOp a.ref stOk 0 (words ++ extra) { s with grp := { s.grp with act := none } }

/-- A coordinated action fails: FAULT GROUP with the workers at fault, and FS74 (R353, R409, Table 14-4). -/
def failAction (a : GroupAct) (bad : List Nat) (s : State) : State :=
  raiseFault 74 0 (finishOp a.ref stFault rcGroup (maskWords bad) { s with grp := { s.grp with act := none } })

/-- Send a message to each of a list of workers; those whose message could not leave answer TIMEOUT (R350). -/
def sendAll (ws : Worker → List Word) (l : List Nat) (s : State) : State × List Nat :=
  l.foldl (fun r n => match findWorker r.1 n with
    | some w => let x := sendGroup w (ws w) r.1; (x.1, if x.2 then r.2 else n :: r.2)
    | none => r) (s, [])

/-- The words of PREPARE and COMMIT as this model writes them out: 1 or 2, T_ACT, the packet (log 57). -/
def prepareWords (p : List Word) : List Word := 1 :: p
def commitWords (p : List Word) (t : Nat) : List Word := 2 :: tsLo (some t) :: tsHi (some t) :: p

/-- The workers of the lowest batch number not below `b`, and that number. -/
def batchOf (s : State) (named : List Nat) (b : Nat) : Nat × List Nat :=
  let later := s.grp.workers.filter fun w => named.contains w.num && decide (b ≤ w.batch)
  let k := later.foldl (fun m w => min m w.batch) 8
  (k, (later.filter fun w => w.batch == k).map fun w => w.num)

/-- COMMIT to the workers of a batch, or to all; without STAGGER the action is complete (R353, R354). -/
def commitAction (a : GroupAct) (b : Nat) (s : State) : State :=
  let t := s.now + a.lead * 1000000
  if a.stagger then
    let x := batchOf s a.named b
    if x.2.isEmpty then finishForward a s
    else
      let r := sendAll (fun _ => commitWords a.packet t) x.2 s
      { r.1 with grp := { r.1.grp with act := some { a with step := .commit, batch := x.1, wait := x.2 } } }
  else finishForward a (sendAll (fun _ => commitWords a.packet t) a.named s).1

/-- An action whose workers have all answered goes on: a forward completes; PREPARE leads to COMMIT or to a refusal. -/
def advanceAction (a : GroupAct) (s : State) : State :=
  if !a.wait.isEmpty then { s with grp := { s.grp with act := some a } }
  else match a.step with
    | .forward => finishForward a s
    | .prepare =>
      let bad := (a.got.filter fun g => g.2.1 != stOk).map Prod.fst
      if bad.isEmpty then commitAction a 0 s else failAction a bad s
    | .commit => commitAction a (a.batch + 1) s

/-- An answer of a worker arrives, or its absence is known. -/
def workerAnswers (n status : Nat) (payload : List Word) (s : State) : State :=
  match s.grp.act with
  | none => s
  | some a =>
    if a.wait.contains n then
      advanceAction { a with wait := a.wait.filter (fun k => k != n), got := (n, status, payload) :: a.got } s
    else s

/-- GROUP_FORWARD starts: the packet, or PREPARE, goes to every named worker. -/
def startForward (c : Ctx) (named : List Nat) (coord stagger : Bool) (lead : Nat) (packet : List Word) (s : State) : State :=
  let s1 := startOp c (newOp c 0x62 0 0) s
  let a : GroupAct := ⟨ctxRef c 0x62, if coord then .prepare else .forward, coord, stagger, lead, packet, named, named, [], 0⟩
  let s2 := if coord then s1 else named.foldl (fun s n => modWorker n (fun w => { w with alive := (w.alive + 1) % 256 }) s) s1
  let r := sendAll (fun w => if coord then prepareWords packet else forwardPacket w.alive packet) named s2
  r.2.foldl (fun s n => workerAnswers n stTimeout [] s) { r.1 with grp := { r.1.grp with act := some a } }

/-- GROUP_FORWARD's operation. An action that runs already makes it BUSY (log 57). -/
def opGroupForward (c : Ctx) (ws : List Word) (s : State) : State :=
  modeGate modesNo8 c (fun s =>
    let packet := parFrom ws 5
    let op := field (packet.headD 0) 24 8
    let named := namedWorkers (par ws 1) (par ws 2)
    let coord := bitOf (par ws 3) 0
    let stagger := bitOf (par ws 3) 1
    let lead := (par ws 4).toNat
    if [0x90, 0x91, 0x95, 0x61].contains op || decide (0xF0 ≤ op) then answer c stDenied [] s
    else if bitOf (par ws 2) 31 || reservedBad (par ws 3) 3 || !carriedOk packet || named.isEmpty
        || named.any (fun n => (findWorker s n).isNone)
        || (coord && op != 0x02 && op != 0x93) || (stagger && (op != 0x93 || !coord))
        || (coord && (decide (lead < 50) || decide (10000 < lead))) then answer c stBadParam [] s
    else if s.grp.act.isSome || opsFull s c then answer c stBusy [] s
    else startForward c named coord stagger lead packet s) s

/-- GROUP_FORWARD. -/
def execGroupForward (c : Ctx) (ws : List Word) (s : State) : Outcome := .next (opGroupForward c ws (acceptPacket c s))

/-- GROUP_WORKER_TIMEOUT: no reply within 100 ms (R351). -/
def execGroupWorkerTimeout (worker : Fin 63) (s : State) : Outcome := .next (workerAnswers worker.val stTimeout [] s)

/-- STAGGER_BATCH_LIMIT: the remaining batches are not committed (R354). -/
def execStaggerBatchLimit (s : State) : Outcome :=
  .next (match s.grp.act with
    | some a => if a.step = .commit then failAction a a.wait s else s
    | none => s)

/-- The summary of a worker (R352). -/
def groupSummary (s : State) : List Word :=
  [fltSummaryWord s, modeWord s, packWord [bit1 0 (errPair s).1, bit1 1 (errPair s).2], BitVec.ofNat 32 s.tq]

/-- WORKER_SUMMARY_SEND. -/
def execWorkerSummarySend (s : State) : Outcome :=
  .next (if s.grp.managed then sendUp s.grp.via (flushGroup s) (groupSummary s) else s)

/-- WORKER_SUMMARY_MISSING: three in a row (R352). -/
def execWorkerSummaryMissing (worker : Fin 63) (s : State) : Outcome :=
  .next (if (findWorker s worker.val).isSome then
      let s1 := modWorker worker.val (fun w => { w with ok := false, missing := 3 }) s
      if (s.fsrc 74).present then s1 else raiseFault 74 0 s1
    else s)

/-- A worker's summary arrives: stored, its bit set; a staggered batch goes on once all its workers report RUN or DEGRADED
(R352, R354). -/
def takeSummary (n : Nat) (ws : List Word) (s : State) : State :=
  let s1 := groupWell (modWorker n (fun w => { w with ok := true, missing := 0, summary := ws }) s)
  let m := field (ws.getD 1 0) 0 4
  match s1.grp.act with
  | some a =>
    if a.step = .commit ∧ a.wait.contains n = true ∧ (m = 5 ∨ m = 6) then
      advanceAction { a with wait := a.wait.filter (fun k => k != n), got := (n, stOk, []) :: a.got.filter fun g => g.1 != n } s1
    else s1
  | none => s1

end Sys2Proof.Machine
end

