-- ==== Sys2Proof/Machine/Modes.lean ====
section
/-! DEFINITION. Mode changes (chapter 4): which trigger acts at a sluice commit, what leaving and entering a mode does,
operations the new mode does not accept, ABORT, removal and its end (R64 to R77, R399). -/

namespace Sys2Proof.Machine

open Sys2Proof

/-- Change the mode record and nothing else. -/
def modMd (f : ModeSt → ModeSt) (s : State) : State := { s with md := f s.md }

/-- Change the power record and nothing else. -/
def modPwr (f : Pwr → Pwr) (s : State) : State := { s with pwr := f s.pwr }

/-! ### ABORT (R240, R251, R379, R399) -/

/-- A configuration write of a command ends, under way or waiting: the configuration in force stays, and the cell drops its shadow
registers. -/
def abortWrite (clk : Nat) (r : CmdRef) (c0 : Cell) : Cell :=
  let c := (c0.lane.writes.filter fun w => w.ref == some r).foldl (fun c w => undoWrite w c)
    { c0 with lane := { c0.lane with writes := c0.lane.writes.filter fun w => w.ref != some r } }
  let c1 := match c.lane.write with
    | some w => if w.ref = some r then dropWrite clk w c else c
    | none => c
  match c1.cal.pendW with
  | some p => if p.ref = r then { c1 with cal := { c1.cal with pendW := none } } else c1
  | none => c1

/-- What an operation leaves in one of its cells when it stops (R240, R251, R260). -/
def abortCell (o : LongOp) (ch : Ch) (s : State) : State :=
  match o.ref.opcode with
  | 0x15 =>
    if (s.cell ch).func = .di then diReconnect ch (s.cell ch).di.raw s
    else s.modCell ch fun c => aiRestart 1 { c with di := { c.di with test := false } }
  | 0x17 => hartAbort ch (s.modCell ch (abortWrite s.clk o.ref))
  | 0x30 => if bitOf o.left ch.val then s.modCell ch fun c => aiRestart 1 { c with cal := { c.cal with busy := false } } else s
  | 0x33 => s.modCell ch fun c => let c := abortWrite s.clk o.ref c; { c with cal := { c.cal with trim := none } }
  | _ => restoreConfig ch (s.modCell ch (abortWrite s.clk o.ref))

/-- What an operation outside the cells leaves when it stops. -/
def abortModule (o : LongOp) (s : State) : State :=
  match o.ref.opcode with
  | 0x02 => modMd (fun m => { m with pend := m.pend.filter fun p => match p with
      | .set _ r => r != o.ref
      | .removal | .safe | .loss | .factory | .armedEnd => true }) s
  | 0x06 =>
    if s.md.mode = .m8 then (if s.pwr.qreqLow then s else modMd (fun m => { m with quLeave := true }) s)
    else modMd (fun m => { m with pend := m.pend.filter fun p => p != .removal }) s
  | 0x07 => modSpring (fun p => { p with next := none }) s
  | 0x41 => { s with eng := { s.eng with
      actPend := s.eng.actPend.filter fun a => a.ref != o.ref, actCtx := s.eng.actCtx.filter fun r => r != o.ref } }
  | 0x50 => { s with net := { s.net with restart := none } }
  | 0x60 => modCas (fun c => { c with reclaim := none }) s
  | 0x62 => { s with grp := { s.grp with act := none } }
  | 0x94 => { s with fw := { s.fw with reportCtx := none } }
  | _ => s

/-- The effects of an operation end as its command gives. -/
def abortEffects (o : LongOp) (s : State) : State :=
  abortModule o (allCh.foldl (fun s ch => if bitOf o.mask ch.val then abortCell o ch s else s) s)

/-- An operation stops and completes with ABORTED. -/
def abortOp (o : LongOp) (s : State) : State := finishOp o.ref stAborted 0 [] (abortEffects o s)

/-- The modes in which the command of a long operation is accepted (Tables 17-2 to 17-9); SET_MODE and QUIESCE are not
affected by R399. -/
def opModes (o : LongOp) : List Nat :=
  match o.ref.opcode with
  | 0x07 | 0x31 | 0x34 | 0x50 => [3]
  | 0x10 | 0x12 | 0x15 => [3, 4, 5, 6, 7, 10]
  | 0x17 => [4, 5, 6, 7, 9, 10]
  | 0x30 | 0x40 | 0x62 => [3, 4, 5, 6, 7, 9, 10]
  | 0x33 => [3, 10]
  | 0x41 => if bitOf o.arg 0 then [3, 4, 5, 6, 7, 10] else [3, 4, 7]
  | 0x92 => [1, 3, 4, 5, 6, 7, 9, 10]
  | 0x93 => [1, 3, 7, 9]
  | 0x95 => [9]
  | 0x60 | 0x94 => [3, 4, 5, 6, 7, 8, 9, 10]
  | _ => [0, 1, 2, 3, 4, 5, 6, 7, 8, 9, 10, 11]

/-- Operations whose command the new mode does not accept complete with ABORTED (R399). -/
def abortUnaccepted (s : State) : State :=
  (s.ops.filter fun o => !(opModes o).contains (modeNum s.md.mode)).foldl (fun s o => abortOp o s) s

/-! ### Leaving a mode -/

/-- The engine stops; an activation that waits for its frame start takes effect at that stop, and one whose first frame
has not committed is complete (R285, R286). -/
def engineStop (s : State) : State :=
  let s1 := { s with eng := { s.eng with running := false, window := false, pass := false } }
  let s2 := match s1.eng.actPend with
    | some a => activateNow a.ref a.online s1
    | none => s1
  match s2.eng.actCtx with
  | some r => finishOp r stOk 0 [] (noteLgpVer { s2 with eng := { s2.eng with actCtx := none } })
  | none => s2

/-- Leaving COMMISSION releases every force and simulation (R406). -/
def releaseAll (s : State) : State :=
  s.mapCells fun _ c => { c with force := none, forceNext := none, sim := none, simNext := none }

/-- The storm hold is released: MODE.STORM, the recorded reset times, and FS94 (R85, Table 18-1). -/
def releaseStorm (s : State) : State :=
  clearFault 94 (modMd (fun m => { m with rstTimes := [] }) { s with flt := { s.flt with stormHold := false } })

/-- What ends when the module goes from its mode to another. -/
def leaveMode (m : Mode) (s : State) : State :=
  let old := s.md.mode
  let s := if modeEngineRuns old && !modeEngineRuns m then engineStop s else s
  let s := if old = .m10 then releaseAll s else s
  let s := if modeRecords old && !modeRecords m then closeRecord true s else s
  let s := if old = .m3 ∧ s.cfgOk = true then
      modMd (fun d => { d with waitCfg := false }) { s with flt := { s.flt with cfgCame := true } } else s
  if (m = .m4 ∨ m = .m3) ∧ (old = .m7 ∨ old = .m9) ∧ s.flt.stormHold = true then releaseStorm s else s

/-! ### Entering a mode -/

/-- The hold-over is authorised for an entry to SERVICE from a mode (R475). -/
def holdoverAuth (s : State) (old : Mode) : Bool := sysSet s 3 == 1 && (old == .m5 || old == .m6)

/-- HOLDOVER goes to an output cell with COMMITTED = 1, after the writes under way (R126, R143, R475). -/
def sendHoldover (ch : Ch) (s : State) : State :=
  let c := s.cell ch
  if c.lane.state == .up && isOut c.func && c.committed then
    startWrite ch { kind := .holdover, frames := [.holdover (sysSet s 4)], since := 0, func := c.func, pars := [], ref := none
                    immediate := false } s
  else s

/-- Entry to SERVICE. -/
def enterService (old : Mode) (s : State) : State :=
  let auth := holdoverAuth s old
  let s1 := modMd (fun d => { d with svcHold := auth }) s
  if auth then allCh.foldl (fun s ch => sendHoldover ch s) s1 else s1

/-- A calibration of SELFCAL stops at the entry to QUIESCE, and is repeated on the return (Table 4-4). -/
def suspendSelfcal (c : Cell) : Cell :=
  if c.cal.busy then aiRestart 1 { c with cal := { c.cal with busy := false, again := true } } else c

/-- Entry to QUIESCE: what is kept for the return. In SELFCAL the self-calibrations that have not finished stop; a cell that
calibrates in another mode goes on (R64, R77). -/
def enterQuiesce (old : Mode) (why : Nat) (s : State) : State :=
  modMd (fun d => { d with quFrom := some old, quWhy := why, quLeave := false })
    (modPwr (fun p => { p with quTicks := 0 })
      (if old = .m2 then s.mapCells fun _ c => suspendSelfcal c else s))

/-- Return from QUIESCE to SELFCAL: each cell whose self-calibration did not finish calibrates again (Table 4-4). -/
def resumeSelfcal (s : State) : State :=
  s.mapCells fun _ c => if c.running && c.cal.again then selfcalBegin { c with cal := { c.cal with again := false } } else c

/-- Entry to ARMED: START takes effect, and eight ticks are counted from here (R74, R88). -/
def enterArmed (s : State) : State :=
  modMd (fun d => { d with armed := 0, armedStart := sysSet s 1 }) s

/-- A first boot of an image on trial that reaches ARMED confirms it (R468, R470). -/
def confirmTrial (s : State) : State :=
  if s.fw.trial ∧ s.fw.bootCfw = s.fw.actCfw then
    let i := s.fw.bootCfw
    let s1 := modSlot i (setStateBit 2 true) s
    writeBootRecord (fun f => { f with trial := false, attempt := 0, arbCfw := max f.arbCfw (imgSvn (slotOf s i)) }) s1
  else s

/-- Entry into a publishing mode: the first GOOSE publication goes out as a change (R319). -/
def restartPublications (s : State) : State :=
  { s with net := { s.net with gpub := s.net.gpub.map fun p => { p with first := true, due := false } } }

/-- Every history: of the 96 sources, then of the 26 cause bits of each cell (R429). -/
def allHists (s : State) : List Hist := s.srcs.toList.map (fun f => f.hist) ++ s.cells.toList.flatMap fun c => c.causeHist.toList

/-- Entry to FACTORY_TEST: every history is saved, and no event has been injected yet (R435, Table 18-6). -/
def enterFactory (s : State) : State := { s with flt := { s.flt with saved := allHists s, injSeen := false } }

/-- What starts when a mode is entered. -/
def arriveMode (old : Mode) (why : Nat) (s : State) : State :=
  let m := s.md.mode
  let s := if modeEngineRuns m && !modeEngineRuns old then engineStart s else s
  let s := if modePublishes m && !modePublishes old then restartPublications s else s
  match m with
  | .m2 => if old = .m8 then resumeSelfcal s else s
  | .m4 => enterArmed (confirmTrial s)
  | .m8 => enterQuiesce old why s
  | .m9 => if old = .m8 then s else enterService old s
  | .m5 | .m6 | .m10 => modMd (fun d => { d with quKeep := false }) s
  | .m11 => enterFactory s
  | .m0 | .m1 | .m3 | .m7 => s

/-- The module enters a mode: the mode-change event, the SYSTEM entry, and what ends and starts with it (R70, R399). `why`
is SAFE_WHY of an entry to SAFE_HOLD. -/
def enterMode (m : Mode) (why : Nat) (s0 : State) : State :=
  let old := s0.md.mode
  let was := s0.md.safeWhy
  let s := leaveMode m s0
  let s := modMd (fun d => { d with prev := modeNum old, mode := m, safeWhy := if m = .m7 then why else 0
                                    svcHold := if m = .m9 then d.svcHold else false }) s
  arriveMode old was (abortUnaccepted (soeSystem (modeNum m) (evtRaise evMode s)))

/-! ### Triggers (R73 to R77, Tables 4-2 to 4-4) -/

/-- RUN, or DEGRADED while MODE.LOSS is 1. -/
def runMode (s : State) : Mode := if s.md.loss then .m6 else .m5

/-- Table 4-2 permits SET_MODE with a target from a mode. SAFE_HOLD from SELFCAL stands there too, where SET_MODE itself is not
accepted (R402, log 134). -/
def setPermitted (m : Mode) (t : Mode) : Bool :=
  match t with
  | .m3 => [.m4, .m5, .m6, .m7, .m9, .m10].contains m
  | .m4 => [.m3, .m5, .m6, .m7, .m9, .m10].contains m
  | .m5 => [.m4, .m10].contains m
  | .m7 => [.m2, .m3, .m4, .m5, .m6, .m9, .m10].contains m
  | .m9 => [.m3, .m4, .m5, .m6, .m7, .m10].contains m
  | .m10 => [.m4, .m5, .m6].contains m
  | .m0 | .m1 | .m2 | .m6 | .m8 | .m11 => false

/-- A mode from which a removal request leads to QUIESCE (Table 4-2). -/
def removable (m : Mode) : Bool := [.m2, .m3, .m4, .m5, .m6, .m7, .m9, .m10].contains m

/-- The rank of a decided trigger (Table 4-3, which ranks neither the factory key nor the eight ticks of ARMED: last, logs 82
and 133). -/
def trigRank : PendMode → Nat
  | .removal => 3
  | .safe => 4
  | .loss => 5
  | .set _ _ => 6
  | .factory => 7
  | .armedEnd => 8

/-- The trigger that acts: of the highest rank, the one decided first (R76). -/
def ruling : List PendMode → Option PendMode
  | [] => none
  | p :: r =>
    match ruling r with
    | some q => if trigRank q < trigRank p then some q else some p
    | none => some p

/-- Where the module goes when it leaves QUIESCE (Table 4-4). -/
def quBack (s : State) : Mode :=
  match s.md.quFrom with
  | some .m5 | some .m6 | some .m10 => .m4
  | some m => m
  | none => .m3

/-- The mode a trigger leads to, the mode in force where it leads nowhere. -/
def trigTarget (s : State) : PendMode → Mode
  | .removal => if removable s.md.mode then .m8 else s.md.mode
  | .safe => if safeAllowed s.md.mode then .m7 else s.md.mode
  | .loss => if s.md.mode = .m5 ∨ s.md.mode = .m6 then runMode s else s.md.mode
  | .factory => if s.md.mode = .m9 then .m11 else s.md.mode
  | .armedEnd => if s.md.mode = .m4 then runMode s else s.md.mode
  | .set t _ => if setPermitted s.md.mode t then (if t = .m5 then runMode s else t) else s.md.mode

/-- The decided triggers without those that no longer lead to another mode; a SET_MODE stays, to be answered. -/
def livePend (s : State) : List PendMode :=
  s.md.pend.filter fun p => match p with
    | .set _ _ => true
    | .removal | .safe | .loss | .factory | .armedEnd => trigTarget s p != s.md.mode

/-- The mode in force from the next sluice commit on, as decided now. -/
def commitMode (s : State) : Mode :=
  if s.md.mode = .m8 then (if s.md.quLeave then quBack s else .m8)
  else match ruling (livePend s) with
    | some p => trigTarget s p
    | none => s.md.mode

/-- SAFE_WHY of an entry to SAFE_HOLD: 3 when a storm hold is resumed, 2 for a SAFE reaction, 1 for SET_MODE (R86). -/
def safeReason (s : State) : PendMode → Nat
  | .safe => 2
  | .removal | .loss | .factory | .armedEnd | .set _ _ => if s.flt.stormHold then 3 else 1

/-- A SET_MODE whose trigger is dropped completes with ABORTED (R75). -/
def dropTrigger (s : State) : PendMode → State
  | .set _ r => finishOp r stAborted 0 [] s
  | .removal | .safe | .loss | .factory | .armedEnd => s

/-- A trigger acts: the mode changes, lower-ranked triggers of the frame are dropped, and its own SET_MODE completes. Of
several SET_MODE commands of one frame the next acts at the next commit (R378, R398). -/
def actTrigger (p : PendMode) (s : State) : State :=
  let rest := s.md.pend.filter fun q => q != p
  let low := rest.filter fun q => decide (trigRank p < trigRank q)
  let s1 := modMd (fun d => { d with pend := rest.filter fun q => decide (trigRank q ≤ trigRank p) }) s
  let s2 := low.foldl dropTrigger s1
  let t := trigTarget s2 p
  let moved := t != s2.md.mode
  let s3 := if moved then enterMode t (safeReason s2 p) s2 else s2
  match p with
  | .set _ r => if moved then finishOp r stOk 0 [] s3 else finishOp r stAborted 0 [] s3
  | .removal | .safe | .loss | .factory | .armedEnd => s3

/-- The module leaves QUIESCE: the outputs stay as they are until the next commit in RUN (R77). -/
def leaveQuiesce (s : State) : State :=
  let s1 := enterMode (quBack s) s.md.quWhy s
  modMd (fun d => { d with quFrom := none, quLeave := false, quKeep := true }) s1

/-- The mode changes that take effect at a sluice commit (R73). -/
def modeCommit (s : State) : State :=
  if s.md.mode = .m8 then (if s.md.quLeave then leaveQuiesce s else s)
  else
    let s1 := modMd (fun d => { d with pend := livePend s }) s
    match ruling s1.md.pend with
    | some p => actTrigger p s1
    | none => s1

/-! ### Planned removal (R64, R65) -/

/-- Every running QUIESCE completes. -/
def finishQuiesce (status : Nat) (s : State) : State :=
  (s.ops.filter fun o => o.ref.opcode == 0x06).foldl (fun s o => finishOp o.ref status 0 [] s) s

/-- The removal is under way and QACK may go high: the flush and the commit at T_{k+2} are complete (R64). QUIESCE
completes with OK. -/
def removalAck (s : State) : State :=
  if s.md.mode = .m8 ∧ s.pwr.flushed = true ∧ 2 ≤ s.pwr.quTicks ∧ s.pwr.qack = false ∧ s.md.quLeave = false then
    finishQuiesce stOk (modPwr (fun p => { p with qack := true, qackTime := min 65535 ((s.clk - p.reqAt) / 10000) }) s)
  else s

/-- A removal is requested, by QREQ_N or by QUIESCE (R64, Table 3-14). -/
def requestRemoval (byCmd hold : Bool) (s : State) : State :=
  decideMode .removal (modPwr (fun p => { p with
    reqByCmd := byCmd, polHold := hold, reqAt := s.clk, flushed := false, qackTime := 0 }) s)

/-- The removal is called off: QACK low, and the module leaves QUIESCE at the next tick; a request that has not taken effect
is dropped (R65, R404). -/
def cancelRemoval (s : State) : State :=
  let s1 := modPwr (fun p => { p with qack := false }) s
  let s2 := finishQuiesce stAborted s1
  if s2.md.mode = .m8 then modMd (fun m => { m with quLeave := true }) s2
  else modMd (fun m => { m with pend := m.pend.filter fun p => p != .removal }) s2

/-- REMOVAL_REQUEST: QREQ_N low for 10 µs in a mode that permits QUIESCE (R64); QREQ_N wakes the core (R60). -/
def execRemovalRequest (s : State) : Outcome :=
  .next (
    let s1 := (modPwr (fun p => { p with qreqLow := true }) s).wakeCore
    if removable s.md.mode && !s.md.pend.contains .removal then requestRemoval false (sysSet s 2 == 1) s1 else s1)

/-- REMOVAL_CANCEL: QREQ_N returns high (R60, R65). -/
def execRemovalCancel (s : State) : Outcome :=
  .next (if s.pwr.qreqLow then cancelRemoval (modPwr (fun p => { p with qreqLow := false }) s).wakeCore else s)

/-- The MRAM flush: SOE log, fault history and summaries are in MRAM already; the life counters are saved (R64, R454). -/
def flushMram (s : State) : State := modPwr (fun p => { p with flushed := true }) (lifeSave s)

/-- MRAM_FLUSH_COMPLETE (R64). -/
def execMramFlushComplete (s : State) : Outcome := .next (removalAck (flushMram s))

/-! ### ARMED (R74) -/

/-- ARMED_TICKS_ELAPSED: eight ticks in ARMED with START = RUN are the trigger for RUN, or DEGRADED, at the next sluice commit
(R73, Table 4-2). -/
def execArmedTicksElapsed (s : State) : Outcome :=
  .next (if s.md.mode = .m4 ∧ s.md.armedStart = 0 ∧ 8 ≤ s.md.armed then decideMode .armedEnd s else s)

end Sys2Proof.Machine
end

