-- ==== Sys2Proof/Machine/Publish.lean ====
section
/-! DEFINITION. Publications at a commit: GOOSE, sampled values, mirror streams (chapter 13, R318 to R322). -/

namespace Sys2Proof.Machine

open Sys2Proof

/-- Send a frame of a definition on the ports it uses (Table 13-14). -/
def sendDefined (d : FrameDef) (f : SentFrame) (s : State) : State :=
  sendOn (bothPorts.filter (defOnPort s d)) f s

/-- COMMISSION marks what it publishes as test (R319, R320, R322). -/
def pubTest (s : State) : Bool := s.md.mode == .m10

/-! ### The local input image (Table 12-4) -/

/-- A word of the local input image of this frame. -/
def localWord (s : State) (a : Nat) : Word :=
  let ch := chAt (a / 8)
  match a % 8 with
  | 0 => s.ti.work.vals[ch]
  | 1 => s.ti.work.stat[ch]
  | 2 => s.ti.work.ts[ch]
  | 3 => s.ti.work.seq[ch]
  | 4 => lo32 (s.cell ch).cnt
  | 5 => hi32 (s.cell ch).cnt
  | 6 => (s.cell ch).aux
  | _ => 0

/-- A data memory word that a stream names: of the local input image, or a committed publication word (Table 13-17). -/
def streamWord (s : State) (a : Nat) : Word := if a < 0x100 then localWord s a else memGet s.eng.memC a

/-! ### GOOSE (R318, R319) -/

/-- A member's words from address `a`; a quality member carries the test bit in COMMISSION. -/
def memberVals (s : State) (m : Word) (a : Nat) : List Word :=
  (memRead s.eng.memC a (memberLen m)).map fun w => if field m 0 4 = 5 ∧ pubTest s = true then w ||| 2 else w

/-- The words of the members from address `a`. -/
def datasetFrom (s : State) : List Word → Nat → List Word
  | [], _ => []
  | m :: r, a => memberVals s m a ++ datasetFrom s r (a + memberLen m)

/-- The dataset of a publication. -/
def gooseDataset (s : State) (d : FrameDef) : List Word := datasetFrom s (memberWords d) (defRegion d).1

/-- T_MIN and T_MAX of a definition, in ms (Table 13-15). -/
def gooseTMin (d : FrameDef) : Nat := field (defWord d 7) 0 16
def gooseTMax (d : FrameDef) : Nat := 100 * field (defWord d 7) 16 16

/-- A publication after it sends a change: stNum increments, but for the first frame since the module reset (R318, R319). -/
def gooseChanged (d : FrameDef) (vals : List Word) (p : GPub) : GPub :=
  { p with stNum := if p.sent = 0 then p.stNum else (p.stNum + 1) % 2 ^ 32, sqNum := 0, lastSet := some vals, first := false
           interval := gooseTMin d, due := false, sent := p.sent + 1 }

/-- A publication after a retransmission (R318). -/
def gooseRepeated (d : FrameDef) (p : GPub) : GPub :=
  { p with sqNum := (p.sqNum + 1) % 2 ^ 32, interval := min (2 * p.interval) (gooseTMax d), due := false, sent := p.sent + 1 }

/-- Change a GOOSE publication. -/
def modGpub (i : Fin 16) (f : GPub → GPub) (s : State) : State :=
  { s with net := { s.net with gpub := s.net.gpub.set i (f s.net.gpub[i]) } }

/-- One GOOSE publication at a commit. -/
def goosePublish (s : State) (i : Fin 16) : State :=
  let p := s.net.gpub[i]
  match p.defn with
  | none => s
  | some d =>
    let vals := gooseDataset s d
    let change := p.first || p.lastSet != some vals
    if change || p.due then
      let p' := if change then gooseChanged d vals p else gooseRepeated d p
      sendDefined d (.goose i.val p'.stNum p'.sqNum (2 * p'.interval) (pubTest s) vals) (modGpub i (fun _ => p') s)
    else s

/-- GOOSE_RETRANSMIT: due at the next commit (R318). -/
def execGooseRetransmit (pub : Fin 16) (s : State) : Outcome :=
  .next (if modePublishes s.md.mode && s.net.gpub[pub].defn.isSome && !s.net.gpub[pub].first then
      modGpub pub (fun p => { p with due := true }) s
    else s)

/-! ### Sampled values (R320) -/

/-- Quality of a member: good while its channel is VALID or where it names none; invalid else; the test bit in COMMISSION. -/
def svQuality (s : State) (ch : Nat) : Word :=
  (if ch = 0xFF ∨ bitOf s.ti.work.stat[chAt ch] 0 = true then 0 else 1) ||| (if pubTest s then 0x800 else 0)

/-- The ASDU of this tick. -/
def svAsdu (s : State) (d : FrameDef) : Asdu :=
  let members := ((d.words.drop (8 + strWords (field (defWord d 7) 0 8))).dropLast)
  ⟨s.spring.num, if s.spring.state = .locked ∨ s.spring.state = .holdover then 2 else 0,
    members.map fun w => (streamWord s (field w 0 13), svQuality s (field w 16 8))⟩

/-- ASDUs of a frame. -/
def svCount (d : FrameDef) : Nat := 2 ^ field (defWord d 5) 8 2

/-- Change a sampled-value stream. -/
def modSv (i : Fin 4) (f : GPub → GPub) (s : State) : State :=
  { s with net := { s.net with sv := s.net.sv.set i (f s.net.sv[i]) } }

/-- One stream at a commit: its ASDU joins the frame, which is sent after its last one. -/
def svPublish (s : State) (i : Fin 4) : State :=
  let p := s.net.sv[i]
  match p.defn with
  | none => s
  | some d =>
    let l := p.asdus ++ [svAsdu s d]
    if svCount d ≤ l.length then
      sendDefined d (.sv i.val (pubTest s) l) (modSv i (fun p => { p with asdus := [], sent := p.sent + 1 }) s)
    else modSv i (fun p => { p with asdus := l }) s

/-! ### Mirror streams (R321, R322) -/

/-- The PDU of a stream (Table 13-7). -/
def mirrorPdu (s : State) (d : FrameDef) (stNum : Nat) (vals : List Word) : List Word :=
  let w := [packWord [(24, 8, 1), (16, 8, field (defWord d 5) 0 3), (0, 16, vals.length)],
      lo32 s.fw.serial, hi32 s.fw.serial, BitVec.ofNat 32 stNum, lo32 s.spring.cnt, tsLo (some s.spring.tk), tsHi (some s.spring.tk),
      packWord [(0, 4, modeNum s.md.mode), (4, 2, s.tq), bit1 6 (pubTest s), (16, 16, field (defWord d 6) 16 16)]] ++ vals
  w ++ [crc32c w]

/-- Change a mirror publication. -/
def modMpub (i : Fin 8) (f : GPub → GPub) (s : State) : State :=
  { s with net := { s.net with mpub := s.net.mpub.set i (f s.net.mpub[i]) } }

/-- One mirror publication at a commit; stNum increments when a word differs from the previous frame. -/
def mirrorPublish (s : State) (i : Fin 8) : State :=
  let p := s.net.mpub[i]
  match p.defn with
  | none => s
  | some d =>
    let vals := memRead s.eng.memC (defRegion d).1 (defRegion d).2
    let st := if p.lastSet.isSome && p.lastSet != some vals then (p.stNum + 1) % 2 ^ 32 else p.stNum
    sendDefined d (.mirror i.val (mirrorPdu s d st vals))
      (modMpub i (fun p => { p with stNum := st, lastSet := some vals, first := false, sent := p.sent + 1 }) s)

/-- The publications whose stream number is `k`. -/
def mirrorStream (s : State) (k : Nat) : State :=
  (List.finRange 8).foldl (fun s i => if (s.net.mpub[i].defn.map fun d => field (defWord d 5) 0 3) = some k then mirrorPublish s i else s) s

/-- Everything a committed frame publishes: mirror streams in stream order, then GOOSE, then sampled values. -/
def publishCommit (s : State) : State :=
  if modePublishes s.md.mode then
    (List.finRange 16).foldl goosePublish ((List.range 8).foldl mirrorStream s)
  else s

/-- The sampled-value streams of a committed or input-only frame (R320, R440). -/
def publishSv (s : State) : State :=
  if modeSvPublishes s.md.mode then (List.finRange 4).foldl svPublish s else s

end Sys2Proof.Machine
end

