-- ==== Sys2Proof/Machine/Frame.lean ====
section
/-! DEFINITION. The frame: marker launch, sluice commit, local image, commit cutoff (R18 to R23, R269, R280 to R283, R289,
R343, R439, R440). -/

namespace Sys2Proof.Machine

open Sys2Proof

/-- Ticks run: the core firmware runs and the core has power and clocks (R78). -/
def ticking (s : State) : Bool := s.md.fwUp && s.pwr.vsysValid && !s.pwr.tripped && !s.pwr.heldReset && !s.pwr.failing

/-- Count a good or bad occasion towards the clear condition of a source, which needs `lim` good ones in a row. -/
def goodCount (n : Fin 96) (lim : Nat) (good : Bool) (s : State) : State :=
  if good then
    let k := (s.fsrc n).clearCount + 1
    if (s.fsrc n).present ∧ lim ≤ k then clearFault n (s.modSrc n fun f => { f with clearCount := 0 })
    else s.modSrc n fun f => { f with clearCount := min k lim }
  else raiseFault n 0 (s.modSrc n fun f => { f with clearCount := 0 })

/-- TICK_MARKER_LAUNCH: later than 20 ns, or before the previous marker has arrived, the tick is not on time: FS52 (R18,
Table 5-8). -/
def execTickMarkerLaunch (lateNs : Nat) (s : State) : Outcome :=
  .next (if ticking s then
      let good := decide (lateNs ≤ 20) && !s.spring.launched
      goodCount 52 1000 good (modSpring (fun p => { p with launched := true, onTime := if good then p.onTime + 1 else 0 }) s)
    else s)

/-! ### The next tick (R90, R91, R104, R106, R337) -/

/-- The tick at an instant of the grid. -/
def tickAt (t : Nat) (p : Spring) : Spring :=
  { p with tk := t, sec := t / 1000000000, num := gridIndex (tickRate p.code) t }

/-- A tick of the culvert grid by its number: a jump in the number is a stretched frame of the stack (R337, R340). -/
def tickNamed (n : Nat) (p : Spring) : Spring :=
  let f := tickRate p.code
  let sec := if n ≤ p.num then p.sec + 1 else p.sec
  { p with tk := sec * 1000000000 + tickOffset f n, sec := sec, num := n
           stretch := if n = (p.num + 1) % f then p.stretch else satAdd 16 p.stretch 1 }

/-- The offset a slew still has to remove, after a tick of length P, and what the next period carries of it: the last one
only the remainder (R106). The offset of PTP's last Sync shrinks with it. -/
def slewTick (ppm : Int) (p : Spring) : Spring :=
  if p.slewing then
    let r := p.remain + slewPart ppm p.code p.remain
    { p with remain := r, slewLeft := slewPart ppm p.code r, ptpMt := p.ptpMt + (r / 1000000000 - p.remain / 1000000000) }
  else p

/-- The next tick begins: its time, number and count (R90, R91). -/
def advanceTick (s : State) : State :=
  let p := slewTick (slewPpm s) s.spring
  let p := if !p.ticked then { tickAt (gridFrom (tickRate p.code) s.now) p with ticked := true, cnt := 0 }
    else
      let q := match (if stackFollow s then s.cas.symNum else none) with
        | some n => tickNamed n p
        | none => tickAt (nextTick s) p
      { q with cnt := p.cnt + 1 }
  modCas (fun c => { c with symNum := none, localT := c.localT && c.role != 1 })
    { s with spring := { p with stretched := false, launched := false, tkTq := s.tq } }

/-- Every SET_TICK that named the code in force completes at the next tick (R93). -/
def settleSetTick (s : State) : State :=
  (s.ops.filter fun o => o.ref.opcode == 0x07 && ((s.spring.next.bind fun r => r.ref) != some o.ref)).foldl
    (fun s o => finishOp o.ref stOk 0 [] s) s

/-! ### The sluice commit (R22, R73, R120 to R128) -/

/-- Frames whose kind the new mode does not permit are discarded (R73); those of the frame in which a removal was requested
are not (Table 3-8). -/
def discardOutputs (m : Mode) (s : State) : State :=
  if modeCommits m || m == .m8 then s
  else s.mapCells fun _ c => { c with out := c.out.filter fun o => o.kind != .value }

/-- The headgate's flags of a tick start again, and forces and simulations due at this frame start take effect (R282,
R406). -/
def frameStartCell (c : Cell) : Cell :=
  { c with gotRes := false, tickEdge := none, tickBits := 0, tickUntagged := false
           force := c.forceNext.getD c.force, forceNext := none, sim := c.simNext.getD c.sim, simNext := none
           lane := { c.lane with fails := if c.lane.failTick then c.lane.fails else 0, failTick := false } }

/-- No result can come from a cell whose lane is not UP, or which does not run: a configured channel repeats its last verified
value, marked stale (R127, Table 12-9). -/
def repeatValue (c : Cell) : Cell := if c.cfgFunc = .off then c else { c with stale := true }

/-- A tick at one channel: the marker reaches a running cell whose lane is UP, or is missed; confirmed configuration takes
effect and a rejoined cell joins (R22, R81, R120, R127, R129, R204). -/
def tickCell (tag : Nat) (x : SluiceIn) (s : State) (ch : Ch) : State :=
  let c := s.cell ch
  let s1 :=
    if !(c.powered && c.running) then s.modCell ch repeatValue
    else if c.lane.state ≠ .up then (cellMissed ch s).modCell ch repeatValue
    else if x.missed.getLsbD ch.val then cellMissed ch s
    else joinMarker ch (writeMarker ch (cellMarker ch tag (x.samples.getD ch.val {}) s))
  s1.modCell ch frameStartCell

/-- NEW of every subscription ends with its frame (Table 13-5). -/
def clearNew (s : State) : State :=
  { s with net := { s.net with
      gsub := s.net.gsub.map fun g => { g with isNew := false }, msub := s.net.msub.map fun g => { g with isNew := false } } }

/-- Commits in QUIESCE count towards QACK; ticks whose frame is computed in ARMED are counted (R64, R74). -/
def countCommit (s : State) : State :=
  let s1 := if s.md.mode = .m4 then modMd (fun d => { d with armed := d.armed + 1 }) s else s
  if s1.md.mode = .m8 then removalAck (modPwr (fun p => { p with quTicks := p.quTicks + 1 }) s1) else s1

/-- What a sluice commit does in the frame. -/
def sluiceCommit (x : SluiceIn) (s : State) : State :=
  if ticking s then
      let s1 := soeTick (settleSetTick (advanceTick s))
      let s2 := modeCommit (discardOutputs (commitMode s1) s1)
      let s3 := allCh.foldl (tickCell (s2.spring.cnt % 256) x) s2
      countCommit (subHealth (clearNew (refreshPeers s3)))
    else s

/-! ### The local input image (R127, R269, R282, Tables 12-4, 12-8, 12-9) -/

/-- TI_STATUS of a channel. A simulation replaces its low bits (R406). -/
def tiStatus (c : Cell) : Word :=
  let st := cellStatWord c
  let low := match c.sim with
    | some x => x.2.toNat
    | none => (if c.invalid then 0 else field st 15 1) + 2 * c.stale.toNat + 4 * field st 16 1 + 8 * field st 13 1
  packWord [(0, 4, low), bit1 4 c.sim.isSome, bit1 5 c.force.isSome, (8, 4, field st 0 4), (16, 16, field c.aux 0 16)]

/-- TI_VALUE of a channel. -/
def tiValue (c : Cell) : Word := match c.sim with
  | some x => x.1
  | none => c.value

/-- TI_TS: the first edge of the tick of a binary input. -/
def tiStamp (c : Cell) : Word := match c.cfgFunc, c.tickEdge with
  | .di, some t => tsLo (some t)
  | _, _ => 0xFFFFFFFF

/-- The local input image of this tick. -/
def buildImage (s : State) : TiBuf :=
  { vals := Vector.ofFn fun i => tiValue s.cells[i], stat := Vector.ofFn fun i => tiStatus s.cells[i]
    ts := Vector.ofFn fun i => tiStamp s.cells[i]
    seq := Vector.ofFn fun i => packWord [(0, 16, s.spring.cnt), (16, 16, s.cells[i].epoch)]
    outs := Vector.replicate 32 0, cnt := s.spring.cnt, tk := some s.spring.tk, flags := 0 }

/-- The system image (Table 12-4). -/
def systemImage (s : State) : List Word :=
  [BitVec.ofNat 32 s.spring.num, lo32 s.spring.cnt, hi32 s.spring.cnt, tsLo (some s.spring.tk), tsHi (some s.spring.tk),
    BitVec.ofNat 32 (modeNum s.md.mode), timeStatWord s, b2w s.md.loss, chMask fun c => cellLost (s.cell c),
    Config.portRingWord s.net.a.lost s.net.b.lost s.cas.lost]

/-- The words 0x000 to 0x109 of data memory. -/
def imageOf (s : State) : List Word := (List.range 256).map (localWord s) ++ systemImage s

/-- The culvert tick image (Table 14-2). -/
def casImage (s : State) : List Word :=
  let w := [packWord [(24, 8, 1), (21, 3, casIdx s), (18, 3, s.spring.code), (14, 4, modeNum s.md.mode), (12, 2, s.tq), bit1 11 (pubTest s)],
      BitVec.ofNat 32 s.spring.num, lo32 s.spring.cnt]
    ++ allCh.flatMap (fun c => [s.ti.work.vals[c], s.ti.work.stat[c]])
    ++ memRead s.eng.memC (casSet s 0x000E0103) 60
  w ++ [crc32c w]

/-- The module's tick image goes out on both culvert ports (R343). -/
def sendCasImage (s : State) : State :=
  if s.cas.state = 2 ∧ pinsLive s = true then modCas (fun c => { c with imgOut := some ⟨.check true, casImage s⟩ }) s else s

/-- A result that has not come by T_k + 8 µs is missing (R127). -/
def missingResult (s : State) (ch : Ch) : State :=
  let c := s.cell ch
  if c.lane.state = .up ∧ c.running = true ∧ c.func ≠ .off ∧ c.gotRes = false then resultStale ch rcLaneTimeout s else s

/-- An engine held by a BLK reaction restarts at the frame start, in a mode in which it runs (Table 18-4). -/
def releaseEngine (s : State) : State := if s.eng.blkWait && modeEngineRuns s.md.mode then engineStart s else s

/-- LOCAL_IMAGE_COMPLETE: `inTime` is whether the image was complete by T_k + 8 µs with every check of its buffer passed (R269,
Table 18-1 FS32). -/
def execLocalImageComplete (inTime : Bool) (s : State) : Outcome :=
  .next (if ticking s then
      let s1 := goodCount 32 1000 inTime (allCh.foldl missingResult s)
      let s2 := frameSwitch (releaseEngine (expireSubs s1))
      let s3 := { s2 with ti := { s2.ti with work := buildImage s2 } }
      sendCasImage (if s3.eng.running && modeEngineRuns s3.md.mode then firstEval (imageOf s3) s3 else s3)
    else s)

/-! ### The engine at C_k (R267, R279 to R283, R290, R291) -/

/-- An operation's input in a committed block state. -/
def blkIn (l : List (Nat × BlkSt)) (o : EngOp) : Bool := ((assocGet (blkKey o) l).map fun b => b.p1).getD false

/-- Operations of the main schedule whose input rose between two committed frames. -/
def risen (p : Program) (old new : List (Nat × BlkSt)) : List EngOp :=
  (p.main.flatMap fun b => b.ops).filter fun o => blkIn new o && !blkIn old o

/-- Triggers and user events that act in this commit (R267). -/
def rectrigs (l : List EngOp) : List Nat := l.filterMap fun o => match o.code with
  | .rectrig n => some n.val
  | _ => none
def userEvents (l : List EngOp) : List Nat := l.filterMap fun o => match o.code with
  | .uevt c => some c.val
  | _ => none

/-- A UFLT input is 1. -/
def userFault (p : Program) (l : List (Nat × BlkSt)) : Bool :=
  (p.main.flatMap fun b => b.ops).any fun o => match o.code with
    | .uflt => blkIn l o
    | _ => false

/-- User events of a frame: 64 are counted in, the others are lost (R450). -/
def logUser (codes : List Nat) (s : State) : State :=
  let s1 := (codes.take 64).foldl (fun s c =>
    soeWrite ⟨some s.spring.tk, s.spring.tkTq, false, false, soeTest s false, 5, 0, c⟩ s) s
  { s1 with soe := { s1.soe with lostUser := satAdd 16 s1.soe.lostUser (codes.length - 64) } }

/-- Verified arrivals that the committed result does not reflect (R278). -/
def lateInputs (p : Program) (e : Engine) : Nat :=
  countIf (fun r => r.arrived.isSome && !(remDeps p r).isEmpty && r.arrived != some r.vUse) e.rems

/-- The frame has a result to commit (R283). -/
def canCommit (s : State) : Bool := s.eng.running && s.eng.window && s.eng.haveV && !s.eng.eccBad

/-- V becomes C (R280), with the registers of Table 12-10, which change at a commit alone (R290). -/
def commitV (late : Nat) (e : Engine) : Engine :=
  let fb := !e.vIsLast
  { e with memC := e.memV, blkC := e.blkV, start := none, fresh := false, frames := satAdd 64 e.frames 1
           lastPass := e.curPass, lastEnd := e.curEnd, lastFb := fb, lastAb := e.pass
           peakPass := max e.peakPass e.curPass, peakEnd := max e.peakEnd e.curEnd
           cFallback := satAdd 32 e.cFallback fb.toNat, cLate := satAdd 32 e.cLate late
           cRevert := satAdd 32 e.cRevert e.revNew, revNew := 0
           cReplay := satAdd 32 e.cReplay e.curPass, cArith := satAdd 32 e.cArith e.arithV }

/-- The engine's window closes. -/
def closeWindowLe (e : Engine) : Engine :=
  { e with window := false, pass := false, dirty := [], haveV := false, vIsLast := false, eccBad := false
           rems := e.rems.map fun r => { r with arrived := none } }

/-- The fault sources of a committed frame (R265, R278, R280, R291). -/
def commitFaults (p : Program) (fb : Bool) (late arith : Nat) (s : State) : State :=
  let s1 := if fb then raiseFault 66 0 s else s
  let s2 := if late = 0 then s1 else raiseFault 67 0 s1
  let s3 := if arith = 0 then clearFault 69 s2 else raiseFault 69 0 s2
  let u := userFault p s.eng.blkC
  goodCount 65 1000 true (levelFault 71 u (!u) s3)

/-- An online activation completes at the commit of the new program's first frame (R285, R486). -/
def finishOnline (s : State) : State :=
  match s.eng.actCtx with
  | some r => finishOp r stOk 0 [] (noteLgpVer { s with eng := { s.eng with actCtx := none } })
  | none => s

/-! ### Output frames (R138, R250, R283, Table 6-8) -/

/-- The command kind under the removal policy (R64). -/
def policyKind (s : State) : OutKind := if s.pwr.polHold then .hold else .safe

/-- A cell is held in SERVICE: it is in hold-over, HOLDOVER is on its way to it, or the module enters SERVICE with an
authorised hold-over (R143, R475). -/
def heldInService (s : State) (c : Cell) : Bool :=
  holdKnown c || (c.lane.write.toList ++ c.lane.writes).any (fun w => w.kind == .holdover)
    || (s.md.mode != .m9 && holdoverAuth s s.md.mode && c.committed)

/-- The kind Table 6-8 gives for a mode. -/
def kindIn (s : State) (m : Mode) (c : Cell) : Option OutKind :=
  match m with
  | .m0 | .m1 | .m2 => none
  | .m3 | .m4 | .m7 =>
    some (if s.md.quKeep then policyKind s else if m = .m3 ∧ s.md.waitCfg = true then .deenergise
      else if holdoverOn s then .hold else .safe)
  | .m5 | .m6 | .m10 => some .value
  | .m8 => some (policyKind s)
  | .m9 => some (if s.md.quKeep then policyKind s else if heldInService s c then .hold else .safe)
  | .m11 => some .deenergise

/-- The kind of this frame's commands: by the mode in force at the next marker; a frame computed in ARMED reaches no field
output, and the frame of a removal request commits normally (R72, R73, Table 3-8). A cell whose self-calibration is not
valid is de-energised (R248). -/
def frameKind (s : State) (c : Cell) : Option OutKind :=
  let cur := s.md.mode
  let nxt := commitMode s
  let k := if modeCommits nxt ∨ nxt = .m8 ∨ cur = .m8 then kindIn s cur c else kindIn s nxt c
  if c.cal.selfOk then k else k.map fun _ => .deenergise

/-- The committed value of a channel, or its force (R282, R406). -/
def outValue (s : State) (ch : Ch) : Int :=
  ((s.cell ch).force).getD (memGet s.eng.memC (0x520 + ch.val)).toInt

/-- The OUT frame of one cell is launched, before every frame but the marker; a cell that has not joined gets no VALUE (R81, R126). -/
def sendOut (tag : Nat) (s : State) (ch : Ch) : State :=
  let c := s.cell ch
  let k := if isOut c.cfgFunc && c.lane.state == .up then frameKind s c else none
  match k with
  | none => s
  | some k =>
    let k := if k = .value ∧ c.joined = false then .safe else k
    modLane ch (fun l => startOut ⟨.out ⟨tag, k, if k = .value then outValue s ch else 0⟩, l.seqTx, 1, s.clk⟩ l) s

/-- One OUT frame per output cell; none in a frame without a commit (R283). -/
def sendOutputs (none' : Bool) (s : State) : State :=
  if none' then s else allCh.foldl (sendOut ((s.spring.cnt + 1) % 256)) s

/-! ### The tick image and the record (R289, R439, R440) -/

/-- TI_FLAGS (Table 12-9). -/
def tiFlags (s : State) (fb ab late noCommit inOnly : Bool) : Word :=
  packWord [bit1 0 fb, bit1 1 ab, bit1 2 late, bit1 3 noCommit, (4, 4, modeNum s.md.mode), (8, 2, s.spring.tkTq), bit1 10 s.spring.stretched,
    bit1 11 inOnly]

/-- The buffer of this frame becomes the one the host sees; the eighth frame under a lock ends it (R289). -/
def switchBuffer (flags : Word) (s : State) : State :=
  let t := s.ti
  let b := { t.work with
    flags := flags
    outs := Vector.ofFn fun i => if isOut s.cells[i].cfgFunc then memGet s.eng.memC (0x520 + i.val) else 0 }
  let t1 : TickImg := if t.view.isSome then { t with live := b, age := t.age + 1 } else { t with live := b }
  { s with ti := if t1.view.isSome ∧ 8 ≤ t1.age then { t1 with view := none, auto := true } else t1 }

/-- The tick record of the buffer (Table 19-2). -/
def tickRecOf (b : TiBuf) : TickRec :=
  ⟨b.cnt, b.tk.getD 0, b.flags.setWidth 16, chMask fun c => bitOf b.stat[c] 0, b.vals⟩

/-- The record writer copies the frame, with its triggers; a copy it misses is FS36 (R439, R442, Table 18-1). -/
def writeRecord (missed : Bool) (trigs : List Nat) (s : State) : State :=
  let req := (List.range 16).filter fun n => s.recs.trigReq.getLsbD n
  let s1 := { s with recs := { s.recs with trigReq := 0 } }
  goodCount 36 1000 (!missed) (if missed then s1 else recordFrame (tickRecOf s.ti.live) (req ++ trigs) s1)

/-! ### The commit cutoff -/

/-- A frame that commits. -/
def commitFrame (p : Program) (x : CutoffIn) (s : State) : State :=
  let fb := !s.eng.vIsLast
  let late := lateInputs p s.eng
  let ab := s.eng.pass
  let arith := s.eng.arithV
  let up := risen p (baseBlk s.eng) s.eng.blkV
  let s1 := { s with eng := { closeWindowLe (commitV late s.eng) with frameCnt := s.spring.cnt } }
  let s2 := finishOnline (logUser (userEvents up) (commitFaults p fb late arith s1))
  let s3 := publishSv (publishCommit (sendOutputs false s2))
  writeRecord x.recMissed (rectrigs up) (switchBuffer (tiFlags s fb ab (decide (0 < late)) false false) s3)

/-- A frame in which the engine commits nothing (R283): FS65 where its first evaluation is missing. -/
def emptyFrame (s : State) : State :=
  let ecc := s.eng.eccBad
  let s1 := { s with eng := closeWindowLe s.eng }
  let s2 := if ecc then s1.modSrc 65 (fun f => { f with clearCount := 0 }) else goodCount 65 1000 false s1
  switchBuffer (tiFlags s false false false true false) (sendOutputs true s2)

/-- A frame of a mode in which the engine is stopped: SAFE_HOLD forms an input-only frame (R440). -/
def stoppedFrame (x : CutoffIn) (s : State) : State :=
  let hold := s.md.mode == .m7
  let s1 := switchBuffer (tiFlags s false false false false hold) (publishSv (sendOutputs false s))
  if hold then writeRecord x.recMissed [] s1 else s1

/-- The engine started after the image of this frame was complete, as by a configuration load that ends within a frame: its
first frame is the next one (R286). -/
def startedMidFrame (s : State) : Bool :=
  s.eng.running && s.eng.fresh && !s.eng.window && !s.eng.eccBad && s.ti.work.tk == some s.spring.tk

/-- The acting master sends the culvert tick symbol of the next tick on both ports (R337). -/
def sendTickSymbol (s : State) : State :=
  if s.cas.state = 2 ∧ s.cas.role = 1 then
    modCas (fun c => { c with symOut := some (gridIndex (tickRate s.spring.code) (nextTick s)) }) s
  else s

/-- COMMIT_CUTOFF. -/
def execCommitCutoff (x : CutoffIn) (s : State) : Outcome :=
  .next (if ticking s then
      let s1 := if !modeEngineRuns s.md.mode || startedMidFrame s then stoppedFrame x s
        else match s.eng.active with
          | some p => if canCommit s then commitFrame p x s else emptyFrame s
          | none => emptyFrame s
      sendTickSymbol (sendService (flushGroup (goodCount 37 1000 (!x.outMissed) s1)))
    else s)

end Sys2Proof.Machine
end

