-- ==== Sys2Proof/Machine/System.lean ====
section
/-! DEFINITION. The system and mode commands of Table 17-2: GET_INFO, SET_MODE, GET_STATUS, ABORT, RESET, QUIESCE,
SYS_CONFIG. -/

namespace Sys2Proof.Machine

open Sys2Proof

/-- The modes M1 to M11. -/
abbrev modesAny : List Nat := [1, 2, 3, 4, 5, 6, 7, 8, 9, 10, 11]

/-! ### GET_INFO, GET_STATUS -/

/-- Four ASCII bytes as a word, the first in [31:24]. -/
def asciiWord (a b c d : Nat) : Word := packWord [(24, 8, a), (16, 8, b), (8, 8, c), (0, 8, d)]

/-- The order code "YTN32-A" or "YTN32-G", zero-padded (R2, Table 17-2). -/
def orderWords (s : State) : List Word :=
  [asciiWord 0x59 0x54 0x4E 0x33, asciiWord 0x32 0x2D (if s.fw.orderG then 0x47 else 0x41) 0]

/-- The payload of GET_INFO. -/
def infoWords (s : State) : List Word :=
  [0x00, 0x04, 0x08, 0x0C, 0x10, 0x24, 0x28, 0x2C, 0x30, 0x20].map (idRead s) ++ orderWords s ++
    [BitVec.ofNat 32 (s.fw.mac / 2 ^ 32 % 65536), lo32 s.fw.mac]

/-- The payload of GET_STATUS. -/
def statusWords (s : State) : List Word :=
  [modeWord s, pwrStateWord s, fltSummaryWord s, chMask fun ch => cellLost (s.cell ch), timeStatWord s, netStatWord s,
    casStatWord s, engRead s 0, hpQueueWord s]

/-- A command without parameters that answers a payload. -/
def opQuery (c : Ctx) (ws : List Word) (payload : State → List Word) (s : State) : State :=
  modeGate modesAny c (refuseIf (ws.length != 0) stBadParam c fun s => answer c stOk (payload s) s) s

def opGetInfo (c : Ctx) (ws : List Word) (s : State) : State := opQuery c ws infoWords s

/-- GET_INFO (Table 17-2). -/
def execGetInfo (c : Ctx) (ws : List Word) (s : State) : Outcome := .next (opGetInfo c ws (acceptPacket c s))

def opGetStatus (c : Ctx) (ws : List Word) (s : State) : State := opQuery c ws statusWords s

/-- GET_STATUS (Table 17-2). -/
def execGetStatus (c : Ctx) (ws : List Word) (s : State) : Outcome := .next (opGetStatus c ws (acceptPacket c s))

/-! ### SET_MODE (R74, R75, R85, R86) -/

/-- A source that has SAFE in a mask is present or severe (R86). -/
def safeHeld (s : State) : Bool :=
  s.srcs.toList.any fun f => (f.maskN.getLsbD 5 || f.maskS.getLsbD 5) && (f.present || f.severe)

/-- An active program has the TICK code in force (R94, R286). -/
def programFits (s : State) : Bool := (s.eng.active.map fun p => p.code == s.spring.code).getD false

/-- SET_MODE ARMED is a transition of Table 4-2 from the current mode (R86, R425). -/
def armedAllowed (s : State) : Bool :=
  (s.md.mode != .m3 || (s.cfgOk && !s.flt.stormHold)) && !(s.md.mode == .m7 && s.md.safeWhy == 2 && safeHeld s)

/-- What SET_MODE answers for a target, ACCEPTED aside from a full set of operations (R74, R86, R94, R286). -/
def modeVerdict (s : State) (t : Mode) : Nat :=
  if !setPermitted s.md.mode t then stWrongMode
  else if t = .m9 ∧ s.fw.svcOn = false then stDenied
  else if t = .m4 then (if armedAllowed s then (if programFits s then stAccepted else stResource) else stWrongMode)
  else stAccepted

/-- The target a SET_MODE names, among those it accepts at all. -/
def modeTarget (ws : List Word) : Option Mode :=
  if ws.length != 1 || reservedBad (par ws 1) 0xF then none
  else (modeOfNum (field (par ws 1) 0 4)).bind fun m => if [Mode.m3, .m4, .m5, .m7, .m9, .m10].contains m then some m else none

/-- The modes that accept SET_MODE. -/
abbrev modesSet : List Nat := [3, 4, 5, 6, 7, 9, 10]

/-- SET_MODE's status as it would be answered now (also by a worker's PREPARE, R353). -/
def setModeStatus (s : State) (ws : List Word) : Nat :=
  if !inModeList s modesSet then stWrongMode
  else match modeTarget ws with
    | none => stBadParam
    | some t => modeVerdict s t

/-- SET_MODE is answered ACCEPTED: the trigger waits for the sluice commit. -/
def startSetMode (c : Ctx) (ws : List Word) (s : State) : State :=
  match modeTarget ws with
  | some t => decideMode (.set t (ctxRef c 0x02)) (startOp c (newOp c 0x02 0 (par ws 1)) s)
  | none => s

def opSetMode (c : Ctx) (ws : List Word) (s : State) : State :=
  let st := setModeStatus s ws
  if st ≠ stAccepted then answer c st [] s
  else refuseIf (opsFull s c) stBusy c (startSetMode c ws) s

/-- SET_MODE (R74, R75). -/
def execSetMode (c : Ctx) (ws : List Word) (s : State) : Outcome := .next (opSetMode c ws (acceptPacket c s))

/-! ### ABORT (R379) -/

/-- The running operation an ABORT names. -/
def abortTarget (c : Ctx) (w : Word) (s : State) : Option LongOp :=
  s.ops.find? fun o => o.ref.src == c.src && o.ref.alive.toNat == field w 16 8 && o.ref.tag.toNat == field w 8 8

/-- An operation that completed is among the last 16 of the source. -/
def abortDone (c : Ctx) (w : Word) (s : State) : Bool :=
  s.done.any fun d => d.1 == c.src && d.2.1.toNat == field w 16 8 && d.2.2.toNat == field w 8 8

def opAbort (c : Ctx) (ws : List Word) (s : State) : State :=
  modeGate modesAny c (refuseIf (ws.length != 1 || reservedBad (par ws 1) 0x00FFFF00) stBadParam c fun s =>
    match abortTarget c (par ws 1) s with
    | some o => abortOp o (answer c stOk [] s)
    | none => answer c (if abortDone c (par ws 1) s then stAlreadyDone else stBadParam) [] s) s

/-- ABORT (R379): its reply comes before the completion event of the target. -/
def execAbort (c : Ctx) (ws : List Word) (s : State) : Outcome := .next (opAbort c ws (acceptPacket c s))

/-! ### RESET (R403) -/

/-- A module reset is due; one that is due already stays. -/
def dueReset (r : RstReq) (s : State) : State := modMd (fun m => { m with rstDue := m.rstDue <|> some r }) s

def opReset (c : Ctx) (ws : List Word) (s : State) : State :=
  modeGate modesAny c (refuseIf (ws.length != 1 || reservedBad (par ws 1) 1) stBadParam c fun s =>
    dueReset ⟨if s.md.mode = .m11 then 8 else 2, bitOf (par ws 1) 0, 0xFF⟩ (answer c stOk [] s)) s

/-- RESET (R403). -/
def execReset (c : Ctx) (ws : List Word) (s : State) : Outcome := .next (opReset c ws (acceptPacket c s))

/-! ### QUIESCE (R64, R404) -/

/-- The removal policy a request uses: HOLD is true (R64, Table 17-2). -/
def policyHold (s : State) (code : Nat) : Bool := if code = 0 then sysSet s 2 == 1 else code == 2

/-- QUIESCE requests a removal. -/
def quiesceRequest (c : Ctx) (w : Word) (s : State) : State :=
  refuseIf (opsFull s c) stBusy c (fun s =>
    requestRemoval true (policyHold s (field w 0 2)) (startOp c (newOp c 0x06 0 w) s)) s

/-- QUIESCE CANCEL is accepted (R404). -/
def cancelAllowed (s : State) : Bool := s.md.mode == .m8 && s.pwr.reqByCmd && !s.pwr.qreqLow

/-- QUIESCE CANCEL. -/
def quiesceCancel (c : Ctx) (s : State) : State :=
  inModes (cancelAllowed s) c (fun s => cancelRemoval (answer c stOk [] s)) s

def opQuiesce (c : Ctx) (ws : List Word) (s : State) : State :=
  if field (par ws 1) 0 2 = 3 then
    modeGate [8] c (refuseIf (ws.length != 1 || reservedBad (par ws 1) 3) stBadParam c (quiesceCancel c)) s
  else
    modeGate [2, 3, 4, 5, 6, 7, 9, 10] c (refuseIf (ws.length != 1 || reservedBad (par ws 1) 3) stBadParam c
      (quiesceRequest c (par ws 1))) s

/-- QUIESCE (R64, R404). -/
def execQuiesce (c : Ctx) (ws : List Word) (s : State) : Outcome := .next (opQuiesce c ws (acceptPacket c s))

/-! ### SYS_CONFIG (R88, R436) -/

/-- ERR_CTL takes its initial values from the settings in force (R436). -/
def applyErrCtl (s : State) : State :=
  { s with flt := { s.flt with
      errDyn := sysSet s 5 == 1, errLatch := sysSet s 6 == 1, errHold := sysSet s 7 } }

def opSysConfig (c : Ctx) (ws : List Word) (s : State) : State :=
  modeGate [3] c (fun s =>
    match pairsApply sysParams (fun _ => true) s.sys ws 0 with
    | some cfg => answer c stOk [] (noteConfig c.src (endHolds (applyErrCtl { s with sys := cfg })))
    | none => answer c stBadParam [] s) s

/-- SYS_CONFIG (R88). -/
def execSysConfig (c : Ctx) (ws : List Word) (s : State) : Outcome := .next (opSysConfig c ws (acceptPacket c s))

end Sys2Proof.Machine
end

