-- ==== Sys2Proof/Machine/FaultCmd.lean ====
section
/-! DEFINITION. Detectors and commands of the fault collector: lockstep, watchdog, memories, crossings, the closing of
windows and holds, tamper, the service and factory entries, FLT_CONFIG, FLT_READ, FLT_CLEAR, fault injection (chapter 18,
R11, R12, R26, R37, R461 to R463, R478). -/

namespace Sys2Proof.Machine

open Sys2Proof

/-! ### Processor (R12, R427, Table 18-1) -/

/-- LOCKSTEP_MISMATCH: FS92; the alternation of the error pair stops (R12, R427). -/
def execLockstepMismatch (s : State) : Outcome :=
  .next (whenCore (fun s => raiseFault 92 0 (modMd (fun m => { m with lockBad := true }) s)) s)

/-- PROCESSOR_WATCHDOG_EXPIRE: FS93 (Table 18-1, R427). -/
def execProcessorWatchdogExpire (s : State) : Outcome :=
  .next (whenCore (fun s => raiseFault 93 0 (modMd (fun m => { m with wdogBad := true }) s)) s)

/-! ### Memories (R11, R263, Table 18-1) -/

/-- FLT_LAST.DETAIL of FS80 to FS87: word address bits [17:2] (Table 18-9). -/
def addrDetail (addr : Nat) : Nat := addr / 4 % 65536

/-- Number of a scrubbed memory in the scrub states. -/
def scrubIdx : ScrubMem → Fin 3
  | .dram => 0 | .mram => 1 | .sram => 2

/-- An access fails at an address of a memory: it stays marked until the memory is written afresh (R11, log 137). -/
def markBad (i : Fin 3) (addr : Nat) (s : State) : State :=
  { s with scrub := s.scrub.set i { s.scrub[i] with bad := addr :: s.scrub[i].bad.filter fun a => a != addr } }

/-- A single-bit error is corrected, written back and counted (R11). -/
def countSingle (i : Fin 3) (s : State) : State :=
  { s with scrub := s.scrub.set i { s.scrub[i] with single := s.scrub[i].single + 1 } }

/-- An error in a memory: a single-bit error is corrected and counted; an uncorrectable one raises its source, and in an engine
memory the frame commits nothing. Flash has a CRC for each block, so any error there is a failed block read (R11, R263, R283,
Tables 1-2, 18-1). `raise` reports the source. -/
def memoryFound (raise : Fin 96 → Nat → State → State) (m : MemKind) (addr : Nat) (double : Bool) (s : State) : State :=
  match m with
  | .dram => if double then raise 81 (addrDetail addr) (markBad 0 addr s) else countSingle 0 s
  | .mram => if double then raise 85 (addrDetail addr) (markBad 1 addr s) else countSingle 1 s
  | .sram => if double then raise 87 (addrDetail addr) (markBad 2 addr s) else countSingle 2 s
  | .flash => raise 82 (addrDetail addr) s
  | .engine =>
    if double then raise 64 0 { s with eng := { s.eng with eccBad := true } }
    else { s with eng := { s.eng with eccFix := s.eng.eccFix + 1 } }

/-- MEMORY_ECC_ERROR (R11, R263). -/
def memoryError (m : MemKind) (addr : Nat) (double : Bool) (s : State) : State := memoryFound raiseFault m addr double s

def execMemoryEccError (m : MemKind) (addr : Nat) (double : Bool) (s : State) : Outcome :=
  .next (whenCore (memoryError m addr double) s)

/-- The source of a word corrected in two consecutive passes (Table 18-1). -/
def scrubFs : ScrubMem → Fin 96
  | .dram => 80 | .mram => 84 | .sram => 86

/-- A scrub pass ends: the words it corrected are counted, and those the previous pass corrected too raise their source
(R11, Table 18-1). -/
def scrubPass (m : ScrubMem) (corrected : List Nat) (s : State) : State :=
  let i := scrubIdx m
  let before := s.scrub[i].last
  let s1 := { s with scrub := s.scrub.set i { s.scrub[i] with last := corrected, single := s.scrub[i].single + corrected.length } }
  (corrected.filter fun a => before.contains a).foldl (fun s a => raiseFault (scrubFs m) (addrDetail a) s) s1

/-- MEMORY_SCRUB_PASS (Table 18-1). -/
def execMemoryScrubPass (m : ScrubMem) (corrected : List Nat) (s : State) : Outcome :=
  .next (whenCore (scrubPass m corrected) s)

/-! ### Crossings (R25, R26, R431 to R433, Table 1-8) -/

/-- The crossing of a row of Table 1-8 has a handshake; the others are FIFOs alone. -/
def hasHandshake (row : Fin 8) : Bool := row.val != 2 && row.val != 4

/-- DETAIL of FS33 to FS35: the row counted from 1, and the words lost (Table 18-9). -/
def xingDetail (row : Fin 8) (lost : Nat) : Nat := (row.val + 1) % 16 + 16 * min lost 4095

/-- Change one crossing and nothing else. -/
def modXing (row : Fin 8) (f : Xing → Xing) (s : State) : State := { s with xing := s.xing.set row (f s.xing[row]) }

/-- A handshake times out: FS33 once until a probe is answered, and the source side stops requesting unless the other side
only reset, when both reinitialise (R26, R432, R433). -/
def xingRequestTimeout (row : Fin 8) (lost : Nat) (otherReset : Bool) (s : State) : State :=
  raiseFault 33 (xingDetail row 0)
    (modXing row (fun x => { x with stopped := !otherReset, lossSeen := !otherReset && decide (0 < lost) }) s)

/-- FIFO words lost while the destination is stopped: the first loss of the stoppage raises its one FS35 (R433). -/
def stoppedLoss (row : Fin 8) (lost : Nat) (s : State) : State :=
  if lost = 0 ∨ s.xing[row].lossSeen = true then s
  else raiseFault 35 (xingDetail row lost) (modXing row (fun x => { x with lossSeen := true }) s)

/-- CROSSING_TIMEOUT: the timeout of a handshake, and the transfer and FIFO words lost with it in one FS35 event; while the
destination is stopped there is no further FS33 (R26, R432, R433). -/
def crossingTimeout (row : Fin 8) (lost : Nat) (otherReset : Bool) (s : State) : State :=
  if s.xing[row].stopped then stoppedLoss row lost s
  else
    let s1 := if hasHandshake row then xingRequestTimeout row lost otherReset s else s
    if (hasHandshake row && otherReset) || decide (0 < lost) then raiseFault 35 (xingDetail row lost) s1 else s1

def execCrossingTimeout (row : Fin 8) (lost : Nat) (otherReset : Bool) (s : State) : Outcome :=
  .next (whenCore (crossingTimeout row lost otherReset) s)

/-- CROSSING_PROBE: an answered probe ends the stoppage, and the next request delivers the count of pulses (R431, R433). -/
def execCrossingProbe (row : Fin 8) (answered : Bool) (s : State) : Outcome :=
  .next (whenCore (fun s =>
    if s.xing[row].stopped && answered then modXing row (fun _ => {}) s else s) s)

/-- CROSSING_PULSE_SATURATE: the accumulator reaches 15, and the next transfer carries the saturation flag (R431). While a
destination stays stopped nothing is delivered, so it is reached once. -/
def pulseSaturate (row : Fin 8) (s : State) : State :=
  if !hasHandshake row || (s.xing[row].stopped && s.xing[row].satF) then s
  else raiseFault 34 (xingDetail row 0) (modXing row (fun x => { x with acc := 15, satF := true }) s)

def execCrossingPulseSaturate (row : Fin 8) (s : State) : Outcome := .next (whenCore (pulseSaturate row) s)

/-! ### Windows, holds, the pair (R424, R426, R427) -/

/-- SETTLE_WINDOW_CLOSE (R424). -/
def execSettleWindowClose (b : Block) (s : State) : Outcome := .next (whenCore (closeWindow b) s)

/-- ERR_HOLD_EXPIRE: the hold time has passed; the hold ends when nothing else keeps it (R426). -/
def execErrHoldExpire (fs : Fin 96) (s : State) : Outcome :=
  .next (endHold fs (s.modSrc fs fun f => { f with holdPassed := f.holdFrom.isSome }))

/-- ERR_DYN_TOGGLE: a 500 µs boundary. A change of ERR_CTL.DYN takes effect, and the pair alternates while the watchdog is
serviced and lockstep matches (R427). -/
def dynToggle (s : State) : State :=
  let s1 := { s with flt := { s.flt with errDynNow := s.flt.errDyn } }
  if errAlternates s1 then { s1 with flt := { s1.flt with errPhase := !s1.flt.errPhase } } else s1

def execErrDynToggle (s : State) : Outcome := .next (whenCore dynToggle s)

/-! ### Coupler driver supply, security element (Table 18-1) -/

/-- COUPLER_DRIVER_SUPPLY_FAULT: out of range raises FS39; 100 ms back in range ends it. -/
def driverSupply (back : Bool) (s : State) : State :=
  levelFault 39 (!back) back (modPwr (fun p => { p with drvFault := !back }) s)

def execCouplerDriverSupplyFault (back : Bool) (s : State) : Outcome := .next (whenCore (driverSupply back) s)

/-- SE_HEALTH_TEST_FAIL: a TRNG health test or an anti-rollback counter check fails; FS91 either way. -/
def execSeHealthTestFail (trng : Bool) (s : State) : Outcome :=
  let _ := trng
  .next (whenCore (raiseFault 91 0) s)

/-! ### Tamper (R37, R478) -/

/-- An open sample latches the tamper latch with its time, which is the RTC's where the core does not run, as in DORMANT (R28,
R478). A latch that is set keeps its time. -/
def latchTamper (s : State) : State :=
  if s.fw.tamper then { s with fw := { s.fw with loopOpen := true } }
  else if coreOn s then { s with fw := { s.fw with loopOpen := true, tamper := true, tamperTs := some s.now } }
  else { s.drawFree with fw := { s.fw with loopOpen := true, tamper := true, tamperTs := some (rtcFree s) } }

/-- What the module does on an open sample: FS90 at every one, and no management session stays open (R478, chapter 2). -/
def tamperReact (s : State) : State :=
  s.net.sessions.foldl (fun s x => closeSession x.id s) (raiseFault 90 0 s)

/-- A sample of the loop (R37, R478). -/
def tamperSample (isOpen : Bool) (s : State) : State :=
  if isOpen then whenCore tamperReact (latchTamper s)
  else whenCore (clearFault 90) { s with fw := { s.fw with loopOpen := false } }

/-- The backup domain samples the loop while it has a supply (Table 2-5). -/
def tamperRuns (s : State) : Bool := s.pwr.vsysValid || s.pwr.failing || s.pwr.vbatPresent

/-- TAMPER_SAMPLE (R39, R478). -/
def execTamperSample (isOpen : Bool) (s : State) : Outcome := .next (if tamperRuns s then tamperSample isOpen s else s)

/-- A write of SEC_CTL (R478). -/
def secCtlWrite (val : Word) (s : State) : State :=
  if field val 0 16 = 0x7A3C ∧ s.md.mode = .m9 then { s with fw := { s.fw with tamper := false, tamperTs := none } } else s

/-- SEC_CTL_CLEAR_TAMPER (R478). -/
def execSecCtlClearTamper (val : Word) (s : State) : Outcome := .next (secCtlWrite val s)

/-! ### The service port pin and the factory key (R461, R463, Table 4-2) -/

/-- SVC_EN_N_LOW: the service port starts (R461). -/
def execSvcEnNLow (s : State) : Outcome := .next { s with fw := { s.fw with svcOn := true } }

/-- SVC_EN_N_HIGH: the port stops, and any open transfer is discarded; the mode stays (R463). -/
def execSvcEnNHigh (s : State) : Outcome :=
  .next (dropPart .service 0x91 { s with fw := { s.fw with svcOn := false, xfer := none } })

/-- FACTORY_KEY_PRESENTED: a trigger from SERVICE to FACTORY_TEST (Table 4-2, R73). -/
def execFactoryKeyPresented (s : State) : Outcome :=
  .next (if s.md.mode = .m9 ∧ s.fw.svcOn = true then decideMode .factory s else s)

/-! ### FLT_CONFIG (R418, R419) -/

/-- The source of a 7-bit number. -/
def srcOf (n : Nat) : Option (Fin 96) := if h : n < 96 then some ⟨n, h⟩ else none

/-- CHIP and ERR stay set for FS92 and FS93 (R419). -/
def storedMask (n : Fin 96) (m : Nat) : BitVec 6 :=
  BitVec.ofNat 6 m ||| (if n.val = 92 ∨ n.val = 93 then 0x18 else 0)

/-- FLT_CONFIG takes effect: N, W and both masks; the weir counters empty (R418). -/
def setClass (n : Fin 96) (ws : List Word) (s : State) : State :=
  s.modSrc n fun f => { f with
    n := field (par ws 1) 8 4 + 1, w := (par ws 2).toNat
    maskN := storedMask n (field (par ws 3) 0 6), maskS := storedMask n (field (par ws 3) 8 6), weir := [] }

/-- The words of FLT_CONFIG are within their ranges (Table 17-8, R395). -/
def fltConfigOk (ws : List Word) : Bool :=
  ws.length == 3 && !reservedBad (par ws 1) 0xF7F && decide (1 ≤ (par ws 2).toNat) && decide ((par ws 2).toNat ≤ 86400000) &&
    !reservedBad (par ws 3) 0x3F3F && decide (field (par ws 1) 0 7 < 95)

def opFltConfig (c : Ctx) (ws : List Word) (s : State) : State :=
  modeGate [3] c (refuseIf (!fltConfigOk ws) stBadParam c fun s =>
    match srcOf (field (par ws 1) 0 7) with
    | some n => answer c stOk [] (noteConfig c.src (setClass n ws s))
    | none => s) s

/-- FLT_CONFIG (R418). -/
def execFltConfig (c : Ctx) (ws : List Word) (s : State) : Outcome := .next (opFltConfig c ws (acceptPacket c s))

/-! ### FLT_READ (R429, R352) -/

/-- Counted events within W (Table 17-8). -/
def countedNow (s : State) (f : FltSrc) : Nat := countIf (fun t => decide (s.now - t ≤ f.w * 1000000)) f.weir

/-- The six words of FLT_READ: present, severe and tagged; the count; first and last time. -/
def histWords (s : State) (f : FltSrc) (present : Bool) (h : Hist) : List Word :=
  [packWord [bit1 0 present, bit1 1 f.severe, bit1 2 h.tagged, (8, 8, countedNow s f)], BitVec.ofNat 32 h.count,
    tsLo h.first, tsHi h.first, tsLo h.last, tsHi h.last]

/-- The summary of FLT_READ: FLT_SUMMARY and FLT_SEVERE0 to FLT_SEVERE2. -/
def fltSummaryWords (s : State) : List Word := [0x00, 0x04, 0x08, 0x0C].map (fltRegRead s)

/-- The cause bit an FLT_READ names for a source: none for the composite and for FS32 to FS95 (Table 17-8). -/
def readBit (n : Fin 96) (b : Nat) : Option (Option (Ch × Fin 26)) :=
  if h : n.val < 32 then
    if b = 0x1F then some none else if hb : b < 26 then some (some (⟨n.val, h⟩, ⟨b, hb⟩)) else none
  else some none

/-- FLT_READ of a source or a cause bit (R429). -/
def readSource (s : State) (n : Fin 96) (b : Nat) : Option (List Word) :=
  (readBit n b).map fun r => match r with
    | none => histWords s (s.fsrc n) (s.fsrc n).present (s.fsrc n).hist
    | some (ch, bit) => histWords s (s.fsrc n) ((s.cell ch).causeNow.getLsbD bit.val) (s.cell ch).causeHist[bit]

/-- What FLT_READ returns; none where a parameter is out of range. -/
def fltReadWords (s : State) (w : Word) : Option (List Word) :=
  if bitOf w 31 then (findWorker s (field w 16 6)).map fun k => k.summary
  else if field w 0 7 = 0x7F then some (fltSummaryWords s)
  else (srcOf (field w 0 7)).bind fun n => readSource s n (field w 8 5)

def opFltRead (c : Ctx) (ws : List Word) (s : State) : State :=
  modeGate modesAny c (refuseIf (ws.length != 1 || reservedBad (par ws 1) 0x803F1F7F) stBadParam c fun s =>
    match fltReadWords s (par ws 1) with
    | some l => memoryRead 1 c 0x81 (answer c stOk l) s
    | none => answer c stBadParam [] s) s

/-- FLT_READ (R429, R352). -/
def execFltRead (c : Ctx) (ws : List Word) (s : State) : Outcome := .next (opFltRead c ws (acceptPacket c s))

/-! ### FLT_CLEAR (R410) -/

/-- A history with its count 0 and no times (R410). -/
def clearHist (h : Hist) : Hist := { h with count := 0, first := none, last := none, firstTq := 0, lastTq := 0 }

/-- FLT_CLEAR of one source: of an absent one the severe state and the weir counters; with HISTORY the histories of the
source and of its cause bits (R410, R429). -/
def clearSource (history : Bool) (n : Fin 96) (s : State) : State :=
  let s1 := s.modSrc n fun f => if f.present then f else { f with severe := false, weir := [] }
  if !history then s1
  else
    let s2 := s1.modSrc n fun f => { f with hist := clearHist f.hist }
    if h : n.val < 32 then s2.modCell ⟨n.val, h⟩ fun c => { c with causeHist := c.causeHist.map clearHist } else s2

/-- FLT_CLEAR of the source named, or of all. -/
def clearNamed (w : Word) (s : State) : Option State :=
  if field w 0 7 = 0x7F then some ((List.finRange 96).foldl (fun s n => clearSource (bitOf w 8) n s) s)
  else (srcOf (field w 0 7)).map fun n => clearSource (bitOf w 8) n s

def opFltClear (c : Ctx) (ws : List Word) (s : State) : State :=
  modeGate modesAll c (refuseIf (ws.length != 1 || reservedBad (par ws 1) 0x17F) stBadParam c fun s =>
    match clearNamed (par ws 1) s with
    | some s1 => answer c stOk [] s1
    | none => answer c stBadParam [] s) s

/-- FLT_CLEAR (R410). -/
def execFltClear (c : Ctx) (ws : List Word) (s : State) : Outcome := .next (opFltClear c ws (acceptPacket c s))

/-! ### Factory commands (R434, Table 17-9) -/

/-- An injected event: on a cause bit of a cell, or on any other source (R434). -/
def injectFault (fs : Fin 96) (bit : Fin 26) (s : State) : State :=
  if h : fs.val < 32 then causeEvent ⟨fs.val, h⟩ bit true s
  else handleEvent ⟨fs, 0, isTagged s fs 0, true, s.now, 0x3F⟩ s

/-- A factory command that injects a fault; FS95 is no injection point (R434). -/
def opInject (c : Ctx) (fs : Fin 96) (bit : Fin 26) (s : State) : State :=
  refuseIf (fs.val == 95) stBadParam c (fun s => answer c stOk [] (injectFault fs bit s)) s

/-- A source reports the event of an injected error (R434). -/
def raiseInjected (n : Fin 96) (detail : Nat) (s : State) : State :=
  handleEvent ⟨n, detail, isTagged s n 0, true, s.now, 0x3F⟩ (if eventOnly n then s else s.setPresent n true)

/-- The destination clock of a crossing is stopped: its handshake times out, and a FIFO only stands (R26, R433, R434). -/
def injectStop (row : Fin 8) (s : State) : State :=
  let s1 := modXing row (fun x => { x with stopped := true }) s
  if hasHandshake row then raiseInjected 33 (xingDetail row 0) s1 else s1

/-- FACTORY_COMMAND: BAD_OPCODE outside FACTORY_TEST; within it, an injection, or an opcode whose effect the manual does not
describe (R434, Table 17-9). -/
def execFactoryCommand (c : Ctx) (op : FactoryOp) (s : State) : Outcome :=
  let s1 := acceptPacket c s
  if s.md.mode ≠ .m11 then .next (answer c stBadOpcode [] s1)
  else match op with
    | .inject fs bit => .next (opInject c fs bit s1)
    | .memoryWord m addr double => .next (answer c stOk [] (memoryFound raiseInjected m addr double s1))
    | .laneCheck ch toCell => .next (answer c stOk [] (resend ch toCell rcLaneCrc s1))
    | .stopClock row => .next (answer c stOk [] (injectStop row s1))
    | .other _ => .refused .factoryOpcodeNotDescribed

end Sys2Proof.Machine
end

