-- ==== Sys2Proof/Machine/Packet.lean ====
section
/-! DEFINITION. A packet as it comes from its path: CRC, alive counter, opcode, and the operation of its opcode (R371 to
R374), and what a frame's packet answers before it is executed. -/

namespace Sys2Proof.Machine

open Sys2Proof

/-! ### Parts of a packet (Table 15-5) -/

/-- Opcode, alive counter, tag and parameter length in W0. -/
def pktOpcode (p : List Word) : Nat := field (p.headD 0) 24 8
def pktLen (p : List Word) : Nat := field (p.headD 0) 0 8

/-- The source, alive counter and tag of a packet. -/
def pktCtx (src : Src) (p : List Word) : Ctx :=
  ⟨src, BitVec.ofNat 8 (field (p.headD 0) 16 8), BitVec.ofNat 8 (field (p.headD 0) 8 8)⟩

/-- The parameters of a packet. -/
def pktParams (p : List Word) : List Word := (p.drop 1).take (pktLen p)

/-- The length in W0 is at most 250 and agrees with the packet's own length (R364, R376). -/
def pktFits (p : List Word) : Bool := decide (pktLen p ≤ 250) && p.length == pktLen p + 2

/-- The packet passes its CRC-32C. -/
def pktCrcOk (p : List Word) : Bool := crc32c (p.take (pktLen p + 1)) == p.getD (pktLen p + 1) 0

/-! ### The operation of an opcode (Tables 17-2 to 17-9) -/

/-- A verdict of the security element on signatures a packet carries: a free value (log 32). -/
def sigVerdict (s : State) : Bool := Config.free s.free % 2 == 1

/-- The commands of Tables 17-2 to 17-4. -/
def opLow (op : Nat) (c : Ctx) (ws : List Word) (s : State) : Option State :=
  match op with
  | 0x01 => some (opGetInfo c ws s)
  | 0x02 => some (opSetMode c ws s)
  | 0x03 => some (opGetStatus c ws s)
  | 0x04 => some (opAbort c ws s)
  | 0x05 => some (opReset c ws s)
  | 0x06 => some (opQuiesce c ws s)
  | 0x07 => some (opSetTick c ws s)
  | 0x08 => some (opSysConfig c ws s)
  | 0x10 => some (opChConfig c ws s)
  | 0x11 => some (opChReadConfig c ws s)
  | 0x12 => some (opChSetFailsafe c ws s)
  | 0x13 => some (opChForce c ws s)
  | 0x14 => some (opChClearLatch c ws s)
  | 0x15 => some (opInputTest c ws s)
  | 0x16 => some (opInjSeqConfig c ws s)
  | 0x17 => some (opHartTx c ws s)
  | 0x18 => some (opHartRx c ws s)
  | 0x30 => some (opSelfcal c ws s)
  | 0x31 => some (opCalWrite c ws s)
  | 0x32 => some (opCalExport c ws s)
  | 0x33 => some (opAoTrim c ws s)
  | 0x34 => some (opCalRestore c ws (sigVerdict s) s.drawFree)
  | _ => none

/-- The commands of Tables 17-5 to 17-9. -/
def opHigh (op : Nat) (c : Ctx) (ws : List Word) (s : State) : Option State :=
  match op with
  | 0x40 => some (opLpStage c ws s)
  | 0x41 => some (opLpActivate c ws s)
  | 0x42 => some (opLpStats c ws s)
  | 0x43 => some (opLpReadVar c ws s)
  | 0x50 => some (opNetConfig c ws s)
  | 0x51 => some (opPtpConfig c ws s)
  | 0x52 => some (opFrameDef c ws s)
  | 0x53 => some (opNetStats c ws s)
  | 0x60 => some (opCasConfig c ws s)
  | 0x61 => some (opGroupConfig c ws s)
  | 0x62 => some (opGroupForward c ws s)
  | 0x70 => some (opRecConfig c ws s)
  | 0x71 => some (opRecTrigger c ws s)
  | 0x72 => some (opRecRead c ws s)
  | 0x73 => some (opSoeRead c ws s)
  | 0x74 => some (opLifeRead c ws s)
  | 0x75 => some (opClockSet c ws s)
  | 0x80 => some (opFltConfig c ws s)
  | 0x81 => some (opFltRead c ws s)
  | 0x82 => some (opFltClear c ws s)
  | 0x90 => some (opImgBegin c ws s)
  | 0x91 => some (opImgBlock c ws s)
  | 0x92 => some (opImgVerify c ws s)
  | 0x93 => some (opImgActivate c ws s)
  | 0x94 => some (opAttest c ws s)
  | 0x95 => some (opOwnerEnrol c ws (sigVerdict s) s.drawFree)
  | _ => none

/-- A factory opcode. -/
def isFactory (op : Nat) : Bool := decide (0xF0 ≤ op)

/-- The commands the recovery loader names (R469). -/
def recoveryOp (op : Nat) : Bool := [0x90, 0x91, 0x92, 0x93].contains op

/-- Carry out an accepted packet: its operation; BAD_OPCODE for an opcode that is not defined, and for a factory opcode outside
FACTORY_TEST; DENIED for a factory opcode over UDP or from a group message within it (R329, R351, R372). -/
def runOpcode (op : Nat) (c : Ctx) (ws : List Word) (s : State) : State :=
  if s.md.recovery && !recoveryOp op then answer c stWrongMode [] s
  else match opLow op c ws s <|> opHigh op c ws s with
    | some t => t
    | none => answer c (if isFactory op && s.md.mode == .m11 then stDenied else stBadOpcode) [] s

/-! ### CRC and alive counter (R372 to R374, R377) -/

/-- How the alive counter of a packet stands (R373). -/
inductive AliveVerdict where
  | accept | again | bad
  deriving DecidableEq, Repr

/-- The verdict on an alive counter. -/
def aliveVerdict (a : AliveSt) (alive : Byte) : AliveVerdict :=
  if !a.sync then .accept
  else if alive = a.last + 1 then .accept
  else if alive = a.last then .again
  else .bad

/-- Count for the host port only (R385). -/
def countHost (c : Ctx) (f : HostPort → HostPort) (s : State) : State := if c.src = .host then { s with hp := f s.hp } else s

/-- A reply that is neither cached nor advances the alive counter (R374, R377). -/
def answerUncached (c : Ctx) (status : Nat) (s : State) : State := deliver c.src false (message status c.alive c.tag []) s

/-- CHECK_FAIL (R372). -/
def packetCrcFail (c : Ctx) (s : State) : State :=
  raiseFault 77 0 (countHost c (fun h => { h with ePkt := satAdd 16 h.ePkt 1 }) (answerUncached c stCheckFail s))

/-- ALIVE_ERR (R373). -/
def packetAliveErr (c : Ctx) (s : State) : State :=
  raiseFault 77 0 (countHost c (fun h => { h with eAlive := satAdd 16 h.eAlive 1 }) (answerUncached c stAliveErr s))

/-- A repeat: the cached reply once more (R373). -/
def packetAgain (c : Ctx) (s : State) : State :=
  countHost c (fun h => { h with eRepeat := satAdd 16 h.eRepeat 1 }) (deliver c.src false (aliveOf s c.src).cached s)

/-- A packet that has passed its transport checks: CRC, alive counter, then its operation (R372, R373). -/
def runPacket (src : Src) (p : List Word) (s : State) : State :=
  let c := pktCtx src p
  if !pktCrcOk p then packetCrcFail c s
  else match aliveVerdict (aliveOf s src) c.alive with
    | .again => packetAgain c s
    | .bad => packetAliveErr c s
    | .accept => runOpcode (pktOpcode p) c (pktParams p) (acceptPacket c s)

/-- The packet would be executed as a factory command in FACTORY_TEST: the manual does not describe what that does (R434). -/
def runsFactory (src : Src) (p : List Word) (s : State) : Bool :=
  s.md.mode == .m11 && isFactory (pktOpcode p) && pktFits p && pktCrcOk p &&
    aliveVerdict (aliveOf s src) (pktCtx src p).alive == .accept

end Sys2Proof.Machine
end

