-- ==== Sys2Proof/Machine/Window.lean ====
section
/-! DEFINITION. The register window through the host port: frames, the status word, reads with their shadows, writes by
access code, PKT and RSP frames, the stretch limit (R4, R5, R357 to R370, R375, R376, R382, R385, R386, R481 to R484). -/

namespace Sys2Proof.Machine

open Sys2Proof

/-- Change the host port record and nothing else. -/
def modHp (f : HostPort → HostPort) (s : State) : State := { s with hp := f s.hp }

/-! ### RS pairs (R369, R484, Table 21-2) -/

/-- LO registers with RS access: HI follows at the next word, and a read of LO latches it. -/
def isRsLo (a : Nat) : Bool :=
  [0x000C, 0x0308, 0x0310, 0x0330, 0x1280, 0x1288, 0x2020, 0x3014, 0x3300, 0x3514].contains a ||
    (decide (0x800 ≤ a) && decide (a < 0x1000) && [0x20, 0x28].contains (a % 0x40))

/-- The HI register of an RS pair. -/
def isRsHi (a : Nat) : Bool := decide (4 ≤ a) && isRsLo (a - 4)

/-- What a read of an address returns: HI of a pair comes from its shadow once LO has been read (R369). -/
def regRead (s : State) (a : Nat) : Word :=
  if isRsHi a then (assocGet (a - 4) s.hp.shadows).getD (regLive s a) else regLive s a

/-- Reading LO of an RS pair latches HI (R369). -/
def latchHi (a : Nat) (s : State) : State :=
  if isRsLo a then modHp (fun h => { h with shadows := assocSet a (regLive s (a + 4)) h.shadows }) s else s

/-- RS_PAIR_LO_READ. -/
def execRsPairLoRead (addr : BitVec 16) (s : State) : Outcome := .next (latchHi addr.toNat s)

/-- The channel of an INJ_VAL address. -/
def injValAt (a : Nat) : Option Ch := if 0x600 ≤ a ∧ a < 0x700 ∧ a % 8 = 0 then some (chAt ((a - 0x600) / 8)) else none
/-- The channel of an INJ_STAT address. -/
def injStatAt (a : Nat) : Option Ch := if 0x600 ≤ a ∧ a < 0x700 ∧ a % 8 = 4 then some (chAt ((a - 0x600) / 8)) else none

/-- What sampling a word changes at once: the shadow of its pair, the freeze of an injected result (R217, R369). -/
def sampleEffect (a : Nat) (s : State) : State :=
  match injValAt a with
  | some ch => s.modCell ch fun c => { c with inj := injValRead s.clk c.inj }
  | none => latchHi a s

/-- What the read of a word does at the end of a valid frame: the flags of an injected result, the instant of the last read of
an event register (R217, R370, R382). -/
def endEffect (a : Nat) (s : State) : State :=
  match injStatAt a with
  | some ch => s.modCell ch fun c => { c with inj := injStatTaken c.inj }
  | none =>
    if a = 0x100 ∨ a = 0x104 ∨ a = 0x108 then noteRegRead a (8 * (a - 0x100)) 32 s
    else if a = 0x120 then noteRegRead a 96 5 s else s

/-- Read `n` words from an address on, each at its own start. -/
def readRun : Nat → Nat → State → List Word × State
  | 0, _, s => ([], s)
  | n + 1, a, s =>
    let r := readRun n (a + 4) (sampleEffect a s)
    (regRead s a :: r.1, r.2)

/-- The addresses of a frame of `n` words. -/
def frameAddrs (a n : Nat) : List Nat := (List.range n).map fun i => a + 4 * i

/-! ### Writes (R4, R5, R367) -/

/-- EVT_MASK`i`; bit 31 of EVT_MASK2 is reserved (Table 15-8). -/
def maskWrite (i : Nat) (v : Word) (s : State) : State :=
  let keep := s.evt.mask &&& ~~~ (BitVec.ofNat 96 (0xFFFFFFFF * 2 ^ (32 * i)))
  let new := BitVec.ofNat 96 ((if i = 2 then v.toNat % 2 ^ 31 else v.toNat) * 2 ^ (32 * i))
  { s with evt := { s.evt with mask := keep ||| new } }

/-- INT_CTL (Table 15-10). -/
def intCtlWrite (v : Word) (s : State) : State := { s with evt := { s.evt with intCtl := v.setWidth 6 } }

/-- HP_CTL.CLR clears 0x0208 to 0x021C (R385). -/
def hpClear (s : State) : State :=
  modHp (fun h => { h with frames := 0, eFrame := 0, eLen := 0, eReg := 0, ePkt := 0, eAlive := 0, eRepeat := 0
                           eRefused := 0, eStretch := 0, eRdy := 0 }) s

/-- ERR_CTL: HOLD below 10 stores 10 (Table 18-7). -/
def errCtlWrite (v : Word) (s : State) : State :=
  endHolds { s with flt := { s.flt with errDyn := bitOf v 0, errLatch := bitOf v 1, errHold := max 10 (field v 8 8) } }

/-- ERR_ACK: only 0xACE5 acts (Table 18-8). -/
def errAckWrite (v : Word) (s : State) : State := if field v 0 16 = 0xACE5 then ackHolds s else s

/-- TI_LOCK.LOCK = 1: the view freezes at the latest complete frame, and the count starts (R289). -/
def tiLockOn (s : State) : State := { s with ti := { s.ti with view := some s.ti.live, auto := false, age := 0 } }

/-- TI_UNLOCK = 1: the view is live again (R289). -/
def tiLockOff (s : State) : State := { s with ti := { s.ti with view := none, age := 0 } }

/-- FS44 follows the case temperature and its threshold (Table 3-10). -/
def caseCheck (s : State) : State :=
  let w : Int := s.pwr.thWarn
  levelFault 44 (decide (64 * w ≤ s.pwr.caseT)) (decide (s.pwr.caseT ≤ 64 * (w - 3))) s

/-- PWR_CTL: 5 to 7 store 4; TH_WARN is held to 60 to 100 (Table 3-13). -/
def pwrCtlWrite (v : Word) (s : State) : State :=
  caseCheck (modPwr (fun p => { p with limit := min 4 (field v 0 3), thWarn := min 100 (max 60 (field v 8 8)) }) s)

/-- A write outside the CELL_CAUSE and check unit blocks. -/
def plainWrite (a : Nat) (v : Word) (s : State) : State :=
  match a with
  | 0x0100 => evtPendClear 0 v s
  | 0x0104 => evtPendClear 1 v s
  | 0x0108 => evtPendClear 2 v s
  | 0x010C => maskWrite 0 v s
  | 0x0110 => maskWrite 1 v s
  | 0x0114 => maskWrite 2 v s
  | 0x011C => intCtlWrite v s
  | 0x0120 => evtSysClear v s
  | 0x0224 => if bitOf v 0 then hpClear s else s
  | 0x041C => errCtlWrite v s
  | 0x0420 => errAckWrite v s
  | 0x1400 => if bitOf v 0 then tiLockOn s else s
  | 0x1404 => if bitOf v 0 then tiLockOff s else s
  | 0x3400 => pwrCtlWrite v s
  | 0x351C => secCtlWrite v s
  | _ => s

/-- A write of a register by its access code; read-only and reserved addresses ignore it (R4, R5). -/
def regWrite (a : Nat) (v : Word) (s : State) : State :=
  if a % 4 ≠ 0 then s
  else if 0x500 ≤ a ∧ a < 0x600 then cuWrite ((a - 0x500) % 0x40) ⟨(a - 0x500) / 0x40 % 4, by omega⟩ v s
  else if 0x800 ≤ a ∧ a < 0x1000 then (if a % 0x40 = 4 then causeClear (chAt ((a - 0x800) / 0x40)) v s else s)
  else plainWrite a v s

/-- The writes of a frame, in address order (R367). -/
def writeRun : Nat → List Word → State → State
  | _, [], s => s
  | a, v :: r, s => writeRun (a + 4) r (regWrite a v s)

/-! ### The writes as commands -/

/-- TI_LOCK (R289). -/
def execTiLock (s : State) : Outcome := .next (tiLockOn s)
/-- TI_UNLOCK (R289). -/
def execTiUnlock (s : State) : Outcome := .next (tiLockOff s)
/-- EVT_PEND_CLEAR (R382). -/
def execEvtPendClear (idx : Fin 3) (val : Word) (s : State) : Outcome := .next (evtPendClear idx val s)
/-- EVT_SYS_CLEAR (R382). -/
def execEvtSysClear (val : Word) (s : State) : Outcome := .next (evtSysClear val s)
/-- ERR_ACK (R426). -/
def execErrAck (val : Word) (s : State) : Outcome := .next (errAckWrite val s)
/-- HP_CTL_CLR (R385). -/
def execHpCtlClr (s : State) : Outcome := .next (hpClear s)
/-- REGISTER_WRITE (R4). -/
def execRegisterWrite (addr : BitVec 16) (val : Word) (s : State) : Outcome := .next (regWrite addr.toNat val s)

/-! ### The status word (R366, R387, Table 15-4) -/

/-- HEAD_KIND. -/
def headKind (s : State) : Nat := match s.hp.queue.head? with
  | none => 0
  | some e => if e.event then 2 else 1

/-- The status word at the falling edge of HSEL_N. -/
def statusWord (s : State) : Word :=
  packWord [(24, 8, s.hp.prev.toNat), (16, 8, s.hp.fnum), bit1 15 (!s.hp.queue.isEmpty), bit1 14 (intCause s), (12, 2, headKind s),
    bit1 11 (pktOk s), (0, 8, headLen s)]

/-! ### Frames (R357 to R364) -/

/-- The kinds of Table 15-2. -/
inductive FrameKind where
  | nop | regRead | regWrite | pkt | rsp
  deriving DecidableEq, Repr

/-- The kind a header selects; none for a reserved KIND or a reserved field that is not 0 (R363). -/
def frameKindOf (h : Word) : Option FrameKind :=
  match field h 28 4 with
  | 0x0 => if h = 0 then some .nop else none
  | 0x3 => if field h 24 3 = 0 ∧ field h 0 2 = 0 then some (if bitOf h 27 then .regWrite else .regRead) else none
  | 0x5 => if field h 0 28 = 0 then some .pkt else none
  | 0x9 => if field h 0 27 = 0 then some .rsp else none
  | _ => none

/-- N and ADDR of a REG header. -/
def regCount (h : Word) : Nat := field h 16 8 + 1
def regAddr (h : Word) : Nat := field h 0 16

/-- The words agree in number with Table 15-3, a REG frame stays in the window, a packet has at most 250 parameters (R364). -/
def frameLenOk (k : FrameKind) (ws : List Word) : Bool :=
  let h := ws.headD 0
  match k with
  | .nop => ws.length == 1
  | .regRead | .regWrite => ws.length == regCount h + 2 && decide (regAddr h + 4 * (regCount h - 1) ≤ 0xFFFC)
  | .pkt => pktFits (ws.drop 1)
  | .rsp => decide (1 ≤ ws.length)

/-- The host's check word of a REG frame matches (R364). -/
def hostCheckOk (ws : List Word) : Bool := crc32c ws.dropLast == ws.getLastD 0

/-- A counted frame begins: HP_FRAMES, its number and its mode (R357, Table 15-12). -/
def countFrame (f : HostFrame) (s : State) : State :=
  modHp (fun h => { h with frames := (h.frames + 1) % 2 ^ 32, fnum := (h.fnum + 1) % 256, mode3 := f.mode3 }) s

/-- A frame ends with its transport result; HP_STAT keeps the last rejection or refusal (R366, Table 15-12). -/
def endFrame (result : Nat) (out : List Word) (s : State) : State :=
  modHp (fun h => { h with
    prev := BitVec.ofNat 8 result, out := out
    lastErr := if result = stOk then h.lastErr else BitVec.ofNat 8 result
    since := if result = stOk then satAdd 16 h.since 1 else 0 }) s

/-- FS78 ends once PKT_OK is 1 and 100 frames have ended without the stretch limit since its event (Table 15-13). -/
def countQuiet (s : State) : State :=
  let s1 := modHp (fun h => { h with noStretch := satAdd 16 h.noStretch 1 }) s
  if (s1.fsrc 78).present && pktOk s1 && decide (100 ≤ s1.hp.noStretch) then clearFault 78 s1 else s1

/-- FS78: a PKT frame is refused, or the stretch limit ends a frame (Table 15-13). -/
def busyEvent (s : State) : State := raiseFault 78 0 (modHp (fun h => { h with noStretch := 0 }) s)

/-- A rejected frame: FRAME_ERR or LEN_ERR, counted, FS76 (R359, R364, R386). -/
def rejectFrame (result : Nat) (st : Word) (s : State) : State :=
  let s1 := modHp (fun h => if result = stLenErr then { h with eLen := satAdd 16 h.eLen 1 } else { h with eFrame := satAdd 16 h.eFrame 1 }) s
  countQuiet (raiseFault 76 0 (endFrame result [st] s1))

/-- A REG frame whose check word does not match: no effect, counted, FS77 (R367). -/
def checkFailFrame (out : List Word) (s : State) : State :=
  countQuiet (raiseFault 77 0 (endFrame stCheckFail out (modHp (fun h => { h with eReg := satAdd 16 h.eReg 1 }) s)))

/-- The words a REG read frame answers: status word, values, check word (Table 15-3). -/
def readOut (st : Word) (vals : List Word) : List Word := st :: vals ++ [crc32c (st :: vals)]

/-- A REG read frame: its words are sampled before it counts itself (R367 to R370). -/
def readFrame (f : HostFrame) (st : Word) (s : State) : State :=
  let h := f.words.headD 0
  let r := readRun (regCount h) (regAddr h) s
  if hostCheckOk f.words then
    countQuiet (endFrame stOk (readOut st r.1)
      ((frameAddrs (regAddr h) (regCount h)).foldl (fun s a => endEffect a s) (countFrame f r.2)))
  else checkFailFrame (readOut st r.1) (countFrame f s)

/-- A REG write frame (R367). -/
def writeFrame (st : Word) (ws : List Word) (s : State) : State :=
  let out := st :: List.replicate (ws.length - 1) 0
  if hostCheckOk ws then countQuiet (endFrame stOk out (writeRun (regAddr (ws.headD 0)) (ws.drop 1).dropLast s))
  else checkFailFrame out s

/-- A PKT frame: refused when there is no room, else its packet is taken in and executed (R372, R375). -/
def pktFrame (st : Word) (ws : List Word) (s : State) : State :=
  let out := st :: List.replicate (ws.length - 1) 0
  let s := s.wakeCore
  if pktOk s then countQuiet (runPacket .host (ws.drop 1) (endFrame stOk out s))
  else busyEvent (endFrame stBusy out (modHp (fun h => { h with eRefused := satAdd 16 h.eRefused 1 }) s))

/-- The words of an entry as a frame of `n` words after the header carries them. -/
def entryOut (e : Option QEntry) (n : Nat) : List Word :=
  let l := (e.map fun e => e.words).getD []
  (l ++ List.replicate n 0).take n

/-- An RSP frame: the head entry, removed when every word of it was clocked; with AGAIN the entry removed last (R376). -/
def rspFrame (st : Word) (ws : List Word) (s : State) : State :=
  let n := ws.length - 1
  if bitOf (ws.headD 0) 27 then countQuiet (endFrame stOk (st :: entryOut s.hp.again n) s)
  else
    let s1 := match s.hp.queue with
      | e :: r => if e.words.length ≤ n then modHp (fun h => { h with queue := r, again := some e }) s else s
      | [] => s
    countQuiet (endFrame stOk (st :: entryOut s.hp.queue.head? n) s1)

/-- A counted frame by its kind. -/
def kindFrame (k : FrameKind) (f : HostFrame) (st : Word) (s : State) : State :=
  match k with
  | .nop => countQuiet (endFrame stOk [st] (countFrame f s))
  | .regRead => readFrame f st s
  | .regWrite => writeFrame st f.words (countFrame f s)
  | .pkt => pktFrame st f.words (countFrame f s)
  | .rsp => rspFrame st f.words (countFrame f s)

/-- The transport checks of a frame with its kind: FRAME_ERR, then LEN_ERR (R359, R361, R363, R364). -/
def frameVerdict (f : HostFrame) : Nat × Option FrameKind :=
  if f.bits % 32 ≠ 0 ∨ f.rdyViol = true then (stFrameErr, none)
  else match frameKindOf (f.words.headD 0) with
    | none => (stFrameErr, none)
    | some k => if frameLenOk k f.words then (stOk, some k) else (stLenErr, none)

/-- A word that started while HRDY was low is counted (R361). -/
def countViol (f : HostFrame) (s : State) : State :=
  if f.rdyViol then modHp (fun h => { h with eRdy := satAdd 16 h.eRdy 1 }) s else s

/-- A frame at the host port. One without clock edges has not occurred (R358), and there is none while the port does not
accept frames (R39). -/
def hostFrame (f : HostFrame) (s : State) : State :=
  if !s.md.fwUp || f.bits == 0 then s
  else
    let st := statusWord s
    match frameVerdict f with
    | (_, some k) => kindFrame k f st s
    | (e, none) => rejectFrame e st (countViol f (countFrame f s))

/-- The frame carries a packet that would run as a factory command (R434). -/
def frameFactory (f : HostFrame) (s : State) : Bool :=
  s.md.fwUp && f.bits != 0 && frameVerdict f == (stOk, some .pkt) && pktOk s && runsFactory .host (f.words.drop 1) s

/-- HP_FRAME_NOP (R366). -/
def execHpFrameNop (f : HostFrame) (s : State) : Outcome :=
  if frameFactory f s then .refused .factoryOpcodeNotDescribed else .next (hostFrame f s)
/-- HP_FRAME_REG_READ (R367). -/
def execHpFrameRegRead (f : HostFrame) (s : State) : Outcome :=
  if frameFactory f s then .refused .factoryOpcodeNotDescribed else .next (hostFrame f s)
/-- HP_FRAME_REG_WRITE (R367). -/
def execHpFrameRegWrite (f : HostFrame) (s : State) : Outcome :=
  if frameFactory f s then .refused .factoryOpcodeNotDescribed else .next (hostFrame f s)
/-- HP_FRAME_PKT (R372, R375). -/
def execHpFramePkt (f : HostFrame) (s : State) : Outcome :=
  if frameFactory f s then .refused .factoryOpcodeNotDescribed else .next (hostFrame f s)
/-- HP_FRAME_RSP (R376). -/
def execHpFrameRsp (f : HostFrame) (s : State) : Outcome :=
  if frameFactory f s then .refused .factoryOpcodeNotDescribed else .next (hostFrame f s)
/-- HP_FRAME_MALFORMED (R363). -/
def execHpFrameMalformed (f : HostFrame) (s : State) : Outcome :=
  if frameFactory f s then .refused .factoryOpcodeNotDescribed else .next (hostFrame f s)

/-! ### The stretch limit (R362) -/

/-- The values of a read frame that the limit ends at word `k` (the header is word 0): zero from there on, and the complement
of the check word. -/
def stretchOut (st : Word) (vals : List Word) (k : Nat) : List Word :=
  let sent := vals.take (k - 1) ++ List.replicate (vals.length - (k - 1)) 0
  st :: sent ++ [~~~ crc32c (st :: sent)]

/-- HRDY_STRETCH_LIMIT: a REG read that cannot be served has no effect and is reported as BUSY; a frame that the transport
checks reject is rejected. Only a register read meets the limit (R59, R362). -/
def stretchFrame (f : HostFrame) (s : State) : State :=
  if !s.md.fwUp || f.bits == 0 then s
  else
    let st := statusWord s
    match frameVerdict f with
    | (_, some .regRead) =>
      let h := f.words.headD 0
      let out := stretchOut st (readRun (regCount h) (regAddr h) s).1 f.limitWord
      busyEvent (endFrame stBusy out (modHp (fun h => { h with eStretch := satAdd 16 h.eStretch 1 }) (countFrame f s)))
    | (_, some _) => s
    | (e, none) => rejectFrame e st (countViol f (countFrame f s))

def execHrdyStretchLimit (f : HostFrame) (s : State) : Outcome := .next (stretchFrame f s)

end Sys2Proof.Machine
end

