-- ==== Sys2Proof/Machine/Reset.lean ====
section
/-! DEFINITION. What a reset of the module leaves of each part: the core die starts again, the backup domain, the stores
and the cells keep what is theirs (R82, R83, R417, R445, R451, R454). -/

namespace Sys2Proof.Machine

open Sys2Proof

/-- The spring after a reset: unsynchronised, at TICK code 0, its time from the RTC; the backup domain keeps the calendar and the
leap-second state (R28, R92, R100, R47). -/
def coreSpring (s : State) : Spring :=
  let p := s.spring
  { mtNs := rtcNow s, rtcNs := rtcNow s, rtcFrom := some s.clk, rtcValid := p.rtcValid, utcOfs := p.utcOfs, leap61 := p.leap61
    leap59 := p.leap59, utcValid := p.utcValid }

/-- What stands outside the reset: supplies and pins, the couplers, the record of the last power-down, the straps (R36, R82). -/
def corePwr (p : Pwr) : Pwr :=
  { vsysValid := p.vsysValid, vioOk := p.vioOk, vbatOk := p.vbatOk, vbatPresent := p.vbatPresent, holdupOk := p.holdupOk
    brown := p.brown, couplers := p.couplers, presLow := p.presLow, presSince := none, softStart := p.softStart, qreqLow := p.qreqLow
    lastExit := p.lastExit, marker := p.marker, exitWhy := p.exitWhy, trip := p.trip, tripped := p.tripped
    drvFault := p.drvFault, straps := p.straps }

/-- The injected-result pair in the core; the sequence itself runs in the cell. -/
def coreInj (j : InjSt) : InjSt :=
  { j with sent := [], val := 0, stat := 0, lost := 0, frozen := none, pend := none, ovr := false }

/-- The core's side of a cell: the lane is DOWN, every register of its block reads its reset value, no configuration is in
force; the cell itself runs on with its function, its factors and its outputs (R83, R123, R144, R145, R501). -/
def coreCell (clk : Nat) (c : Cell) : Cell :=
  { c with
    lane := { downAt := clk }, cfgFunc := .off, cfgPar := [], accFunc := .off, accPar := [], joined := false, joinNext := false
    epoch := 0, rstWhy := 0xF, cause := 0, causeNow := 0, tickBits := 0, tickUntagged := false
    value := 0, aux := 0, temp := 0, supply := 0, cnt := 0, tse := none, calReg := 0, bits := 0
    valid := false, stale := false, invalid := false, gotRes := false, res := none, tickEdge := none
    force := none, forceNext := none, sim := none, simNext := none, clearReq := 0
    life := c.lifeSaved, lifeOn := 0, lifeEn := 0, lifeComp := 0
    sw := { c.sw with trims := 0 }, ao := { c.ao with satTicks := 0 }, inj := coreInj c.inj, hart := { c.hart with ex := none }
    cal := { c.cal with trim := none, pendW := none } }

/-- Every waveform is discarded and LOST_PWR set in the summaries of the records held; the numbering runs on (R445). -/
def coreRecs (r : RecSt) : RecSt :=
  { nextNum := r.nextNum, sums := r.sums.map fun x => if x.held then { x with held := false, lostPwr := true } else x }

/-- The MRAM log and its index stay (R451). -/
def coreSoe (q : SoeSt) : SoeSt := { mlog := q.mlog, midx := q.midx }

/-- The counters are loaded from MRAM at boot (R454). -/
def coreLife (clk : Nat) (l : Life) : Life :=
  { ctrs := l.saved, saved := l.saved, savedAt := clk, acc := clk, erased := l.erased }

/-- Flash, the security element, identity and the tamper latch stay; an open transfer and the report do not (R464, R479). -/
def coreFw (f : Fw) : Fw :=
  { f with xfer := none, report := none, reportCtx := none, reportNonce := [], updLast := 0, dirty := false, svcOut := [], udpOut := []
           fwVer := 0, lgpVer := 0, cfgVer := 0, bootLgp := 0 }

/-- A source after a reset: default settings, not present, its weir empty; its history stays (R417, R418). -/
def coreSrc (i : Nat) (f : FltSrc) : FltSrc := { defaultSrc i with hist := f.hist }

/-- The core die starts again in BOOT. RESET is the first event (R383, Table 15-11). -/
def coreReset (s : State) : State :=
  { pending := s.pending, clk := s.clk, free := s.free
    pwr := corePwr s.pwr
    md := { rstTimes := s.md.rstTimes, rstTotal := s.md.rstTotal, resetAt := s.clk }
    spring := coreSpring s
    cells := s.cells.map (coreCell s.clk)
    scrub := #v[{}, { bad := s.scrub[1].bad }, {}]
    net := { a := { changed := s.clk }, b := { changed := s.clk } }
    evt := { setAt := [(evReset, s.clk)] }
    flt := { saved := s.flt.saved }
    srcs := Vector.ofFn fun i => coreSrc i.val s.srcs[i]
    recs := coreRecs s.recs, soe := coreSoe s.soe, life := coreLife s.clk s.life, fw := coreFw s.fw }

/-- The couplers stop: every cell on INT loses its power (R52, R82, Table 3-9). -/
def couplersOff (s : State) : State :=
  modPwr (fun p => { p with couplers := false })
    (s.mapCells fun _ c => if c.powered ∧ c.src = 0 then unpowerCell 0 c else c)

/-! ### Module resets (R82 to R84, R435) -/

/-- The histories saved at the entry to FACTORY_TEST are restored by the reset that leaves it, a power-on reset too (R435). -/
def restoreHists (s : State) : State :=
  if s.flt.saved.isEmpty then s
  else
    let l := s.flt.saved
    { s with
      srcs := Vector.ofFn fun i => { s.srcs[i] with hist := l.getD i.val {} }
      cells := Vector.ofFn fun ch => { s.cells[ch] with causeHist := Vector.ofFn fun b => l.getD (96 + 26 * ch.val + b.val) {} }
      flt := { s.flt with saved := [] } }

/-- A reset by a fault reaction, which the storm check counts (R84). -/
def byFault (cause : Nat) : Bool := cause == 3 || cause == 4 || cause == 5

/-- RESET_CAUSE and RESET_COUNT of a module reset (Tables 4-8, 4-9). -/
def noteReset (r : RstReq) (last : Mode) (now : Nat) (m : ModeSt) : ModeSt :=
  { m with cause := r.cause, causeCold := r.cold, causeFs := if byFault r.cause then r.fs else 0xFF, lastMode := modeNum last, rstTotal := satAdd 16 m.rstTotal 1
           warm := true, rstTimes := if byFault r.cause then (now :: m.rstTimes).take 64 else m.rstTimes }

/-- A warm or cold module reset takes effect: the counters are saved, the core starts again; a cold one stops the couplers; after
a CHIP reaction the settle window of the module opens (R82, Table 18-4). -/
def moduleReset (r : RstReq) (s : State) : State :=
  let last := s.md.mode
  let s1 := coreReset (lifeSave s)
  let s2 := modMd (noteReset r last (rtcNow s1)) (restoreHists s1)
  let s3 := if r.cold then couplersOff s2 else s2
  if r.cause = 3 ∨ r.cause = 4 then openWindow .module s3 else s3

/-- MODULE_RESET: the reset that is due, or the one the command names (R82). -/
def execModuleReset (r : RstReq) (s : State) : Outcome :=
  .next (if coreOn s && s.pwr.vsysValid && !s.pwr.failing then moduleReset (s.md.rstDue.getD r) s else s)

/-! ### Thermal trip (R62) -/

/-- THERMAL_TRIP: the core clocks stop, the couplers run on; it is a warm module reset whose restart waits. -/
def execThermalTrip (s : State) : Outcome :=
  .next (if coreOn s && s.pwr.vsysValid && !s.pwr.failing then
      modPwr (fun p => { p with trip := some s.now, tripped := true }) (moduleReset ⟨5, false, 45⟩ s)
    else s)

/-- The trip enters the history of FS45 with its own time, and applies INT and ERR alone. -/
def tripEvent (t : Nat) (s : State) : State := handleEvent ⟨45, 0, isTagged s 45 0, false, t, 0x11⟩ s

/-- THERMAL_TRIP_RESTART: the junction is below 115 °C; the full BOOT may begin. -/
def execThermalTripRestart (s : State) : Outcome :=
  .next (if s.pwr.tripped then
      let s1 := modPwr (fun p => { p with tripped := false, trip := none }) s
      match s.pwr.trip with
      | some t => tripEvent t s1
      | none => s1
    else s)

end Sys2Proof.Machine
end

