-- ==== Sys2Proof/Machine/Power.lean ====
section
/-! DEFINITION. Supplies, live insertion and the power-fail sequence, the supply and temperature monitors, the core's power
states (chapter 3, R68). -/

namespace Sys2Proof.Machine

open Sys2Proof

/-! ### Power-on reset (R66, R82) -/

/-- LAST_EXIT as the next boot reads it: the cause kept in MRAM, or 3 without the completion marker (R67, Table 3-14). -/
def exitCode (p : Pwr) : Nat := if p.marker then p.exitWhy else 3

/-- A power-on reset: the whole module but the backup domain, couplers off; the presence wait starts (R63, R82, Table 4-9). -/
def powerOnReset (cause : Nat) (s : State) : State :=
  let s1 := couplersOff (restoreHists (coreReset s))
  modMd (fun m => { m with cause := cause, causeCold := true, causeFs := 0xFF, lastMode := 0xF, rstTotal := 0, warm := false })
    (modPwr (fun p => { p with lastExit := exitCode p, presSince := if p.presLow then some s.clk else none, softStart := true }) s1)

/-- The module is held in reset, or in DORMANT. -/
def isHeld (s : State) : Bool := s.pwr.heldReset || s.md.mode == .m0

/-- The presence wait runs: nothing has booted since the power-on reset (R63). -/
def awaitsPresence (s : State) : Bool := s.md.mode == .m1 && !s.md.bootRom && !s.md.warm && !s.pwr.failing && !s.pwr.heldReset

/-! ### The power-fail sequence (R66, R67, Table 3-9) -/

/-- The sequence starts: the couplers stop, engine, publications and recording stop, every lane goes down; the flush runs. -/
def startPowerFail (why : Nat) (s : State) : State :=
  let s1 := couplersOff (closeRecord true { s with eng := { s.eng with running := false, window := false, pass := false } })
  modPwr (fun p => { p with failing := true, failByPres := why == 1, exitWhy := why, marker := false })
    (modMd (fun m => { m with pend := [], rstDue := none }) (s1.mapCells fun _ c => dropLane s.clk c))

/-- The module holds itself in reset in a mode: the core die is in reset, its pins as Table 2-5 gives them. -/
def holdCore (m : Mode) (s : State) : State :=
  let t := modPwr (fun p => { p with heldReset := true }) (coreReset s)
  modMd (fun d => { d with prev := modeNum s.md.mode, mode := m }) t

/-- Power or presence is lost while QACK is high: the couplers stop at once and the module holds itself in reset; nothing more is
flushed (R66, Table 2-5). -/
def holdAfterQack (s : State) : State :=
  holdCore .m1 (couplersOff (modPwr (fun p => { p with exitWhy := 0, marker := true }) s))

/-- Power or presence is lost: hold, or the power-fail sequence. -/
def losePower (why : Nat) (s : State) : State :=
  if s.pwr.failing || isHeld s then s
  else if s.pwr.qack then holdAfterQack s
  else startPowerFail why s

/-- The end of the sequence: with VBAT present the module is in DORMANT (Table 4-2). -/
def holdReset (s : State) : State := holdCore (if s.pwr.vbatPresent then .m0 else .m1) s

/-- The flush is complete and its marker written; while the hold-up is charged it always completes (R67). -/
def flushOk (inTime : Bool) (s : State) : Bool := inTime || s.pwr.holdupOk

/-- The end of the sequence. When VSYS and PRES_N are back the module boots under R63 (R66). -/
def endPowerFail (inTime : Bool) (s : State) : State :=
  let s1 := if flushOk inTime s then modPwr (fun p => { p with marker := true }) (lifeSave s) else s
  let s2 := holdReset s1
  if s2.pwr.vsysValid && s2.pwr.presLow then powerOnReset (if s.pwr.failByPres then 1 else 0) s2 else s2

/-- POWER_FAIL_COMPLETE (R66, R67). -/
def execPowerFailComplete (inTime : Bool) (s : State) : Outcome :=
  .next (if s.pwr.failing then endPowerFail inTime s else s)

/-- VBAT as the brown-out comparator and the backup domain see it when VSYS fails (R47). -/
def noteVbat (mv : Nat) (p : Pwr) : Pwr :=
  { p with vsysValid := false, vbatPresent := decide (0 < mv), brown := p.brown || decide (mv < 2000) }

/-- The RTC goes on from its last value without VSYS (R28). -/
def freeRtc (s : State) : State := modSpring (fun p => { p with rtcNs := rtcNow s, rtcFrom := some s.clk }) s

/-- VSYS_POWER_FAIL (R45, R47, R66). -/
def execVsysPowerFail (vbatMv : Nat) (s : State) : Outcome :=
  .next (if s.pwr.vsysValid then losePower 2 (freeRtc (modPwr (noteVbat vbatMv) s)) else s)

/-- VBAT_BROWNOUT: the latch sets while VSYS is absent (R47). -/
def execVbatBrownout (s : State) : Outcome :=
  .next (if s.pwr.vsysValid then s else modPwr (fun p => { p with brown := true }) s)

/-- The time the RTC shows after VSYS was absent (R28); where the backup domain had no supply, whatever it starts with (R47, log
32). -/
def rtcAfter (s : State) : Nat := if s.pwr.vbatPresent then rtcFree s else Config.free s.free

/-- What UTC_OFS shows after VSYS was absent: the backup domain kept it, or, without a supply, it starts with anything (R47, R114,
log 32). -/
def leapAfter (s : State) : State :=
  if s.pwr.vbatPresent then s
  else
    let n := Config.free s.free
    let bit (i : Nat) : Bool := n / 2 ^ i % 2 == 1
    modSpring (fun p => { p with utcOfs := signedOf 16 n, leap61 := bit 16, leap59 := bit 17, utcValid := bit 18 }) s.drawFree

/-- VSYS is back: the RTC is read, the hold-up store charges anew (R28, R47, R67). -/
def vsysBack (s : State) : State :=
  let s1 := leapAfter (modSpring (fun p => { p with rtcNs := rtcAfter s, rtcFrom := some s.clk }) s.drawFree)
  modPwr (fun p => { p with vsysValid := true, holdupOk := false, brown := p.brown || !p.vbatPresent }) s1

/-- VSYS_VALID: the soft start begins and the module enters BOOT, once a sequence under way has ended (R45, R66). The threshold
lies between 17.0 V and 18.0 V; the model takes 17.0 V (log 136). -/
def execVsysValid (mv : Nat) (s : State) : Outcome :=
  .next (if s.pwr.vsysValid || decide (mv < 17000) then s
    else
      let s1 := vsysBack s
      if s1.pwr.failing then s1 else powerOnReset 0 s1)

/-- HOLDUP_CHARGED (R67). -/
def execHoldupCharged (s : State) : Outcome := .next (modPwr (fun p => { p with holdupOk := p.vsysValid }) s)

/-- HOLDUP_STORE_FAILURE (R67). -/
def execHoldupStoreFailure (s : State) : Outcome := .next (modPwr (fun p => { p with holdupOk := false }) s)

/-! ### PRES_N (R63, R66) -/

/-- PRES_N is low. -/
def presDown (s : State) : State := modPwr (fun p => { p with presLow := true }) s

/-- The presence wait starts. -/
def presWait (s : State) : State := modPwr (fun p => { p with presSince := some s.clk }) s

/-- PRES_N_LOW: a module that waits starts its 50 ms, as an insertion; a module held in reset with VSYS valid boots (R63, R66,
R82). -/
def execPresNLow (s : State) : Outcome :=
  .next (if s.pwr.presLow then s
    else if s.pwr.vsysValid && isHeld s && !s.pwr.failing then powerOnReset 1 (presDown s)
    else if awaitsPresence s then modMd (fun m => { m with cause := 1 }) (presWait (presDown s))
    else (presDown s).wakeCore)

/-- PRES_N_RELEASE: the wait ends, to start again at the next low; or power-fail, or the hold after QACK (R63, R66). -/
def execPresNRelease (s : State) : Outcome :=
  .next (if !s.pwr.presLow then s
    else
      let s1 := (modPwr (fun p => { p with presLow := false, presSince := none }) s).wakeCore
      if awaitsPresence s then s1 else losePower 1 s1)

/-! ### Monitors (R46, R57, R68, Table 3-10) -/

/-- The core's monitors run: the firmware runs with VSYS valid. -/
def monitors (s : State) : Bool := s.md.fwUp && coreOn s && s.pwr.vsysValid && !s.pwr.failing

/-- VIO stands inside its operating range (R46). -/
def vioInside (mv : Nat) : Bool := decide (1620 ≤ mv ∧ mv ≤ 3600)

/-- What the module sees of VIO: FS42 is present outside the range (R46, Table 3-10). -/
def vioCheck (ok : Bool) (s : State) : State := levelFault 42 (!ok) ok (modPwr (fun p => { p with vioOk := ok }) s)

/-- VIO_RANGE_CHANGE: VIO leaves its range, or has been inside it for 1 ms (R46, Table 3-10). -/
def execVioRangeChange (mv : Nat) (s : State) : Outcome :=
  .next (
    let s1 := modPwr (fun p => { p with vioOk := vioInside mv }) s
    if coreOn s && s.pwr.vsysValid then vioCheck (vioInside mv) s1 else s1)

/-- VBAT_CHECK: FS43 below 2.0 V, clear from 2.1 V on (R47, Table 3-10). -/
def execVbatCheck (mv : Nat) (s : State) : Outcome :=
  .next (if monitors s then
      levelFault 43 (decide (mv < 2000)) (decide (2100 ≤ mv))
        (modPwr (fun p => { p with vbatMv := mv, vbatOk := decide (2000 ≤ mv), vbatPresent := decide (0 < mv) }) s)
    else s)

/-- FS41: one of its two conditions starts it, and it ends when VSYS is at or below 36.5 V and the average input power at or below
40 W (R57, Table 3-10). -/
def inputFault (start : Bool) (s : State) : State :=
  levelFault 41 start (!s.pwr.vHigh && decide (s.pwr.inMw ≤ 40000)) s

/-- VSYS_SAMPLE: a sample above 37.0 V (R57, Table 3-10). -/
def execVsysSample (mv : Nat) (s : State) : Outcome :=
  .next (if monitors s then inputFault (decide (37000 < mv)) (modPwr (fun p => { p with vHigh := decide (36500 < mv) }) s) else s)

/-- POWER_AVERAGE_UPDATE: the lowest and highest VSYS and the average of the last 1 ms, coupler power over 100 ms, input power over
1 s, and VIO (R57, R69, Table 3-10). FS40 needs the whole 1 ms on one side; VIO inside its range ends FS42 by VIO_RANGE_CHANGE. -/
def execPowerAverageUpdate (x : SupplyIn) (s : State) : Outcome :=
  .next (if monitors s then
      let s1 := modPwr (fun p => { p with vsysMv := x.vsysMv, vioMv := x.vioMv, cplMw := x.cplMw, inMw := x.inMw }) s
      let s2 := levelFault 40 (decide (x.vsysMax < 18000)) (decide (18200 ≤ x.vsysMin)) s1
      let s3 := if vioInside x.vioMv then s2 else vioCheck false s2
      levelFault 47 (decide (26000 < x.cplMw)) (decide (x.cplMw ≤ 26000)) (inputFault (decide (40000 < x.inMw)) s3)
    else s)

/-- The temperatures are measured: FS44 and FS45 follow, and the hold-over estimate sees the case (R68, R101). -/
def temperatures (caseT coreT : Int) (s : State) : State :=
  let s1 := modPwr (fun p => { p with caseT := caseT, coreT := coreT }) s
  let s2 := caseCheck s1
  let s3 := levelFault 45 (decide (125 * 64 ≤ coreT)) (decide (coreT ≤ 120 * 64)) s2
  modSpring (fun p => if p.state = .holdover then { p with holdDT := max p.holdDT (caseT - p.holdT0).natAbs } else p) s3

/-- TEMPERATURE_THRESHOLD (R68). -/
def execTemperatureThreshold (caseT coreT : Int) (s : State) : Outcome :=
  .next (if monitors s then temperatures caseT coreT s else s)

/-! ### Power states of the core (R58 to R60, Table 3-6) -/

/-- The state whose range holds a horizon; HIBERNATE only in CONFIGURE, SAFE_HOLD and SERVICE. -/
def stateFor (m : Mode) (h : Nat) : Nat :=
  if h < 2000 then 1 else if h < 40000 then 2 else if h < 5000000 ∨ ¬ (m = .m3 ∨ m = .m7 ∨ m = .m9) then 3 else 4

/-- Exit time and margin of a state in ns. -/
def exitLead : Nat → Nat
  | 2 => 1500
  | 3 => 25000
  | 4 => 2000000
  | _ => 0

/-- POWER_STATE_ENTER: the deepest state the horizon and PWR_CTL.LIMIT permit, and the start of its exit (R58). -/
def execPowerStateEnter (horizonNs : Nat) (s : State) : Outcome :=
  .next (if coreOn s then
      let st := min (stateFor s.md.mode horizonNs) s.pwr.limit
      modPwr (fun p => { p with pstate := st, wakeAt := if st = 0 then none else some (s.clk + horizonNs - exitLead st) }) s
    else s)

/-- POWER_STATE_WAKE: the stopped blocks wake for the event the horizon named (R58). -/
def execPowerStateWake (s : State) : Outcome := .next s.wakeCore

end Sys2Proof.Machine
end

