-- ==== Sys2Proof/Machine/Boot.lean ====
section
/-! DEFINITION. Start-up (Table 4-5): boot ROM, core firmware, lanes, self-calibration, the configuration load and the program
(R63, R74, R78 to R81, R83, R84, R468, R469, R471 to R473, R476, R477). -/

namespace Sys2Proof.Machine

open Sys2Proof

/-! ### Boot ROM (R36, R63, R468, R469) -/

/-- BOOT may begin: the presence wait has run, or the module was reset without losing power, which repeats no wait: R83 says so of a
warm reset, and the model takes a cold module reset alike (R63, R83, log 135). -/
def bootReady (s : State) : Bool :=
  s.md.mode == .m1 && coreOn s && s.pwr.vsysValid && !s.pwr.failing && !s.md.bootRom && (s.pwr.presSince.isSome || s.md.warm)

/-- A CFW slot passes the boot ROM's checks and has not been rejected (R469, R477). -/
def cfwGood (s : State) (b : BootCheck) (i : Nat) : Bool :=
  (if i = 0 then b.okA else b.okB) && !(slotOf s i).state.getLsbD 3

/-- A header word of the image in a slot, as production left it where the state lists no block of it (R486). -/
def imageWord (s : State) (i k : Nat) : Word :=
  if (slotOf s i).blocks.isEmpty then Config.productionWord i k else hdrWord (slotOf s i) k

/-- A CFW slot boots; `prev` is whether it is not the one the boot records named (R468, R469). -/
def bootSlot (i : Nat) (prev : Bool) (s : State) : State :=
  let s1 := { s with fw := { s.fw with bootCfw := i, prevBoot := prev, fwVer := imageWord s i 4 } }
  if prev then raiseFault 89 0 s1 else s1

/-- The recovery loader runs in M1 (R469). -/
def startRecovery (s : State) : State :=
  modMd (fun m => { m with recovery := true }) { s with fw := { s.fw with fwVer := 0 } }

/-- The other slot boots when it passes; else the recovery loader starts. -/
def bootOther (b : BootCheck) (i : Nat) (s : State) : State :=
  if cfwGood s b (1 - i) then bootSlot (1 - i) true s else startRecovery s

/-- A third trial boot would start: the trial slot is rejected, and the records name the other one (R468). -/
def rejectTrial (i : Nat) (s : State) : State :=
  writeBootRecord (fun f => { f with actCfw := 1 - i, trial := false, attempt := 0 }) (modSlot i (setStateBit 3 true) s)

/-- Which slot boots. -/
def chooseSlot (b : BootCheck) (s : State) : State :=
  let i := s.fw.actCfw
  if s.fw.trial && decide (2 ≤ s.fw.attempt) then bootOther b i (rejectTrial i s)
  else
    let s1 := if s.fw.trial then writeBootRecord (fun f => { f with attempt := f.attempt + 1 }) s else s
    if cfwGood s b i then bootSlot i false s1 else bootOther b i (raiseFault 88 0 s1)

/-- Keys drawn at boot (R304, chapter 19). -/
def drawKeys (s : State) : State :=
  let k := Config.free s.free
  let h := Config.free (s.free + 1)
  ({ s with net := { s.net with sipKey := k }, recs := { s.recs with bankKey := h } }).drawFree.drawFree

/-- BOOT_BEGIN: the rails are up, the straps are read once, and the boot ROM picks the slot (R36, R63). CAS_M low is bit 3
(log 54). -/
def execBootBegin (casM : Bool) (casId : BitVec 3) (cfw : BootCheck) (s : State) : Outcome :=
  .next (if bootReady s then
      let s1 := modPwr (fun p => { p with straps := casM.toNat * 8 + casId.toNat, presSince := none, softStart := false }) s
      chooseSlot cfw (drawKeys (modMd (fun m => { m with bootRom := true }) s1))
    else s)

/-! ### Core firmware (R28, R47, R52, R67, R78, R84, R87, R116, R455, R471) -/

/-- Fault-reaction resets within the last 600 s by the RTC (R84). -/
def resetsInWindow (s : State) : Nat :=
  countIf (fun t => decide (t ≤ rtcNow s) && decide (rtcNow s ≤ t + 600000000000)) s.md.rstTimes

/-- The storm check: more than 3 resets raise FS94 and hold the module (R84). -/
def stormCheck (s : State) : State :=
  let n := resetsInWindow s
  let storm := decide (3 < n)
  let s1 := modMd (fun m => { m with rstWindow := min 15 n, causeStorm := storm }) s
  if storm then raiseFault 94 0 { s1 with flt := { s1.flt with stormHold := true } } else s1

/-- Module time starts from the RTC; a brown-out latch that is set is read and cleared, with FS54 (R28, R47, R116). -/
def startClock (s : State) : State :=
  let s1 := modSpring (fun p => { p with mtNs := rtcNow s, frac := 0, rtcValid := !s.pwr.brown }) s
  if s.pwr.brown then raiseFault 54 0 (modPwr (fun p => { p with brown := false }) s1) else s1

/-- LAST_EXIT is 1, 2 or 3: FS46 at this boot, and at each one until a power-down ends orderly (R67, Table 3-10, log 71). -/
def exitCheck (s : State) : State := if s.pwr.lastExit != 0 then raiseFault 46 0 s else s

/-- PREV_SLOT; after a migration fallback FS89 is raised (Table 4-8, R477). -/
def slotCheck (s : State) : State :=
  let s1 := modMd (fun m => { m with prevSlot := s.fw.prevBoot || m.cause == 7 }) s
  if s.md.cause = 7 then raiseFault 89 0 s1 else s1

/-- The current CMC image, or the previous copy when its check fails (R471). -/
def cmcCheck (ok : Bool) (s : State) : State :=
  let s1 := if ok then s else raiseFault 89 0 (writeBootRecord (fun f => { f with actCmc := 1 - f.actCmc }) s)
  let i := 6 + s1.fw.actCmc
  { s1 with fw := { s1.fw with cmcVer := imageWord s1 i 4, cmcCrc := (imageWord s1 i 6).toNat } }

/-- Life counters: loaded at boot; the channel counters from their copies when MRAM has failed; power cycles and insertions
are counted (R453 to R455, Table 19-8). -/
def lifeBoot (mramOk : Bool) (s : State) : State :=
  let s1 := { s with life := { s.life with valid := true, restored := !mramOk } }
  let s2 := if mramOk then s1 else raiseFault 85 0 (s1.mapCells fun _ c => { c with life := c.lifeCopy })
  if s.md.warm then s2 else if s.md.cause = 1 then ctrAdd 2 1 (ctrAdd 1 1 s2) else ctrAdd 1 1 s2

/-- CFG_VER: the version of the CFG slot in use, 0 without a valid one (R486, Table 21-4). -/
def noteCfgVer (s : State) : State :=
  let i := 4 + s.fw.actCfg
  { s with fw := { s.fw with cfgVer := if (slotOf s i).state.getLsbD 1 then imgVer (slotOf s i) else 0 } }

/-- What the module reads at boot before the port opens: CFG_VER and BOOT_SLOT.LGP from the boot records, and VBAT (R6, R47, R480,
R486). -/
def bootRegs (vbatMv : Nat) (s : State) : State :=
  let s1 := noteCfgVer { s with fw := { s.fw with bootLgp := s.fw.actLgp } }
  levelFault 43 (decide (vbatMv < 2000)) (decide (2100 ≤ vbatMv))
    (modPwr (fun p => { p with vbatOk := decide (2000 ≤ vbatMv), vbatPresent := decide (0 < vbatMv) }) s1)

/-- Firmware may start. -/
def firmwareReady (s : State) : Bool :=
  s.md.mode == .m1 && coreOn s && s.pwr.vsysValid && !s.pwr.failing && s.md.bootRom && !s.md.fwUp && !s.md.recovery

/-- The host port accepts frames; the couplers start (R52, R78). -/
def openPort (s : State) : State :=
  modPwr (fun p => { p with couplers := true })
    (modMd (fun m => { m with fwUp := true }) (modHp (fun h => { h with hrdyLow := false }) s))

/-- FIRMWARE_START. -/
def execFirmwareStart (caseT coreT : Int) (vbatMv : Nat) (cmcOk mramOk : Bool) (s : State) : Outcome :=
  .next (if firmwareReady s then
      let s1 := stormCheck (exitCheck (slotCheck (startClock (bootRegs vbatMv s))))
      let s2 := openPort (lifeBoot mramOk (cmcCheck cmcOk (vioCheck s1.pwr.vioOk s1)))
      soeSystem (1 + 256) (temperatures caseT coreT s2)
    else s)

/-! ### SELFCAL (R74, R78, R83, R246) -/

/-- STARTUP_LANES_UP: M2, and self-calibration in all cells in parallel. -/
def execStartupLanesUp (s : State) : Outcome :=
  .next (if s.md.mode = .m1 ∧ s.md.fwUp = true ∧ coreOn s = true ∧ s.pwr.failing = false then
      (enterMode .m2 0 s).mapCells fun _ c => startCal s c
    else s)

/-- The migrated configuration is in the other CFG slot, which becomes the slot in use (R476). -/
def migrate (s : State) : State :=
  let i := 4 + s.fw.actCfg
  let j := 4 + (1 - s.fw.actCfg)
  let s1 := modSlot j (fun _ => { blocks := (slotOf s i).blocks, state := 3 }) (flashErase j 64 s)
  noteCfgVer (writeBootRecord (fun f => { f with actCfg := 1 - f.actCfg }) s1)

/-- SAFE for an output cell at the next marker; it ends a hold-over (R477). -/
def safeNext (tag : Nat) (c : Cell) : Cell :=
  if c.running && isOut c.func && c.lane.state == .up then { c with out := some ⟨tag, .safe, 0⟩ } else c

/-- Migration fails: SAFE to every output cell, the own CFW slot rejected, the other one named, FS89 in the history, a warm
reset (R477). -/
def migrationFails (s : State) : State :=
  let i := s.fw.bootCfw
  let s1 := s.mapCells fun _ c => safeNext ((s.spring.cnt + 1) % 256) c
  let s2 := modSlot i (fun sl => { setStateBit 3 true sl with mig := true }) s1
  let s3 := writeBootRecord (fun f => { f with actCfw := 1 - i, trial := false, attempt := 0 }) s2
  dueReset ⟨7, false, 0xFF⟩ (s3.modSrc 89 fun f => { f with hist := histEvent s3.now s3.tq (isTagged s3 89 0) f.hist })

/-- No cell whose lane is UP is still calibrating. -/
def calDone (s : State) : Bool := s.cells.toList.all fun c => !(c.cal.busy && c.lane.state == .up)

/-! ### The configuration load (R472, R473) -/

/-- The words of a CFG image's payload, word 1023 of every block left out. -/
def cfgStream (sl : Slot) : List Word := (payload sl).flatMap fun b => b.take 1023

/-- The packets of a stream up to its end word; none where it does not end so. -/
def splitPackets : Nat → List Word → Option (List (List Word))
  | 0, _ => none
  | _ + 1, [] => none
  | k + 1, w :: r =>
    if w = 0 then some []
    else
      let n := field w 0 8 + 2
      if (w :: r).length < n then none else (splitPackets k ((w :: r).drop n)).map fun l => (w :: r).take n :: l

/-- SYS_CONFIG, SET_TICK, NET_CONFIG, PTP_CONFIG, FRAME_DEF, CAS_CONFIG, GROUP_CONFIG, REC_CONFIG, FLT_CONFIG, CH_CONFIG,
INJ_SEQ_CONFIG. -/
abbrev cfgOpcodes : List Nat := [0x08, 0x07, 0x50, 0x51, 0x52, 0x60, 0x61, 0x70, 0x80, 0x10, 0x16]

/-- A packet the image may carry: its length, CRC, alive counter 0, tag 0 and a permitted opcode. -/
def cfgPacketOk (p : List Word) : Bool :=
  pktFits p && pktCrcOk p && field (p.headD 0) 8 16 == 0 && cfgOpcodes.contains (pktOpcode p)

/-- The packets of an image; their number stands in header word 24. -/
def cfgPackets (sl : Slot) : Option (List (List Word)) :=
  let l := cfgStream sl
  (splitPackets (l.length + 1) l).filter fun ps => ps.length == field (hdrWord sl 24) 0 16 && ps.all cfgPacketOk

/-- The reference is of a packet of the image. -/
def fromImage (r : Option CmdRef) : Bool := (r.map fun x => x.src == .cfg).getD false

/-- The status the packet in execution was answered with. -/
def loadStatus (s : State) : Option Nat := (aliveOf s .cfg).cached.head?.map fun w => field w 24 8

/-- Operations that packets of the image started run. -/
def loadOps (s : State) : Bool := s.ops.any fun o => o.ref.src == .cfg

/-- The load fails: no further packet is carried out. -/
def loadFails (s : State) : State := modMd (fun m => { m with cfgLeft := [], cfgSent := false, loadBad := true }) s

/-- The first packet left is carried out (R378, R473). -/
def sendPacket (p : List Word) (s : State) : State :=
  let c : Ctx := ⟨.cfg, 0, 0⟩
  let s0 := modMd (fun m => { m with cfgSent := true }) (setAlive .cfg (fun a => { a with cached := [] }) s)
  ((opLow (pktOpcode p) c (pktParams p) s0).orElse fun _ => opHigh (pktOpcode p) c (pktParams p) s0).getD s0

/-- What the answer of the packet in execution says: it waits for an answer or a completion, it is carried out again at the next
commit after BUSY, it is complete, or it ends the load (R473). -/
def packetDone (s : State) : State :=
  match loadStatus s with
  | none => s
  | some st =>
    if st = stBusy then modMd (fun m => { m with cfgSent := false }) s
    else if st ≠ stOk ∧ st ≠ stAccepted then loadFails s
    else if loadOps s then s
    else modMd (fun m => { m with cfgLeft := m.cfgLeft.drop 1, cfgSent := false }) s

/-- The packets are carried out in order, each after the one before it is complete. -/
def runPackets : Nat → State → State
  | 0, s => s
  | k + 1, s =>
    if s.md.loadBad then loadFails s
    else match s.md.cfgLeft with
      | [] => s
      | p :: _ =>
        let t := packetDone (if s.md.cfgSent then s else sendPacket p s)
        if t.md.cfgLeft.length < s.md.cfgLeft.length then runPackets k t else t

/-- The configuration load goes on. -/
def loadStep (s : State) : State :=
  if s.md.mode = .m3 ∧ s.md.loading = true then runPackets (s.md.cfgLeft.length + 1) s else s

/-- SLUICE_COMMIT; a configuration load under way goes on with it. -/
def execSluiceCommit (x : SluiceIn) (s : State) : Outcome := .next (loadStep (sluiceCommit x s))

/-- The load starts from the CFG slot in use; an image that fails its checks is FS88 (R472, Table 18-1). -/
def startLoad (cfg : ImgCheck) (s : State) : State :=
  let ps := cfgPackets (slotOf s (4 + s.fw.actCfg))
  let s1 := modMd (fun m => { m with loading := true, loadBad := cfg != .ok || ps.isNone, cfgSent := false
                                     cfgLeft := if cfg = .ok then ps.getD [] else [] }) s
  loadStep (if cfg = .failed then raiseFault 88 0 s1 else s1)

/-- STARTUP_SELFCAL_COMPLETE: M3, and the configuration load starts, with what migration made of the slot (R476, R477). -/
def execStartupSelfcalComplete (mig : MigResult) (cfg : ImgCheck) (s : State) : Outcome :=
  .next (if s.md.mode = .m2 ∧ calDone s = true then
      let s1 := enterMode .m3 0 s
      match mig with
      | .none => startLoad cfg s1
      | .migrated => startLoad cfg (migrate s1)
      | .failed => migrationFails s1
    else s)

/-! ### The end of the configuration load (R80, R81, R83, R473, R486) -/

/-- The load has come to an end: it has failed, or every packet is complete and every cell they named is configured. -/
def loadEnded (s : State) : Bool :=
  s.md.loadBad || (s.md.cfgLeft.isEmpty && !loadOps s && s.cells.toList.all fun c => c.lane.state != .up || !rejoining c.lane)

/-- Nothing of an image that failed stays in force: every setting is that of the reset, TICK code 0 again from the next tick both
grids share; operations of the image end (R92, R473; DESIGN CHOICE, log 145). -/
def dropImage (s : State) : State :=
  let d : State := {}
  let s1 := s.mapCells fun _ c => { c with cfgFunc := .off, cfgPar := [], accFunc := .off, accPar := []
                                           inj := { c.inj with en := false, cfgPend := none }
                                           lane := { c.lane with writes := c.lane.writes.filter fun w => !fromImage w.ref } }
  let s2 := modSpring (fun p => { p with next := if p.code = 0 then none else some ⟨0, s.now, none⟩ }) s1
  { applyErrCtl { s2 with sys := [] } with
    net := { s2.net with cfg := [], applied := false, ptp := [], gsub := d.net.gsub, msub := d.net.msub, gpub := d.net.gpub
                         sv := d.net.sv, mpub := d.net.mpub }
    cas := { s2.cas with cfg := [], map := [] }, grp := { s2.grp with workers := [], managed := false, mgr := 0, key := [] }
    recs := { s2.recs with cfg := [] }
    srcs := Vector.ofFn fun i => { s2.srcs[i] with n := d.srcs[i].n, w := d.srcs[i].w, maskN := d.srcs[i].maskN, maskS := d.srcs[i].maskS }
    parts := s2.parts.filter fun p => p.src != .cfg
    ops := s2.ops.filter fun o => o.ref.src != .cfg, cfgOk := false }

/-- The image is in force; its version shows, and the configuration event is raised (R436, R473, R486, Table 15-11). -/
def imageInForce (s : State) : State :=
  let s1 := modSlot (4 + s.fw.actCfg) (setStateBit 2 true) (applyErrCtl s)
  evtRaise evConfig (noteCfgVer { s1 with cfgOk := true })

/-- What remains of the load as a source of packets goes. -/
def endSource (s : State) : State :=
  modMd (fun m => { m with loading := false, cfgLeft := [], cfgSent := false, loadBad := false })
    { s with alives := s.alives.filter (fun a => a.1 != .cfg), done := s.done.filter fun d => d.1 != .cfg }

/-- Every cell that is loaded and calibrated is given the configuration in force (R81, R83). -/
def configureCells (s : State) : State := refreshLoss (allCh.foldl (fun s ch => rejoinConfig ch s) s)

/-! ### The program (R272, R472) -/

/-- The program of the slot the boot records name is active. -/
def startProgram (p : Program) (s : State) : State :=
  let s1 := { s with eng := { s.eng with active := some p, deact := false, running := false } }
  clearFault 70 (noteLgpVer (modSlot (2 + s.fw.actLgp) (setStateBit 2 true) s1))

/-- The outcome of the LGP load: FS88 and FS70 when the slot fails, FS70 when the program fails its checks (R472). -/
def lgpLoad (lgp : ImgCheck) (s : State) : State :=
  match lgp with
  | .absent => s
  | .failed => raiseFault 70 0 (raiseFault 88 0 s)
  | .ok => match (slotProgram s (2 + s.fw.actLgp)).filter (programOk s) with
    | some p => startProgram p s
    | none => raiseFault 70 0 s

/-! ### The end of the load (R74, R80, R84) -/

/-- The module waits in CONFIGURE (R80). -/
def waitForConfig (s : State) : State := modMd (fun m => { m with waitCfg := true }) (evtRaise evConfig s)

/-- Where start-up goes: SAFE_HOLD in a reset storm, ARMED with a program of the TICK code in force, else it waits. -/
def endLoad (loaded : Bool) (s : State) : State :=
  if !loaded then waitForConfig s
  else if s.flt.stormHold then enterMode .m7 3 s
  else if programFits s then enterMode .m4 0 s
  else waitForConfig (if (s.fsrc 70).present then s else raiseFault 70 0 s)

/-- CONFIG_LOAD_COMPLETE: CFG first, then the program against it (R472, R473). Without a valid CFG slot CFG_VER reads 0 (R80, R486). -/
def execConfigLoadComplete (lgp : ImgCheck) (s0 : State) : Outcome :=
  .next (
    let s := loadStep s0
    if s.md.mode = .m3 ∧ s.md.loading = true ∧ loadEnded s = true then
      let ok := !s.md.loadBad
      let s1 := endSource (if ok then imageInForce s else { dropImage s with fw := { s.fw with cfgVer := 0 } })
      endLoad ok (lgpLoad lgp (configureCells s1))
    else s)

end Sys2Proof.Machine
end

