-- ==== Sys2Proof/Machine/Transport.lean ====
section
/-! DEFINITION. Packets on the paths beside the host port: the service port, management datagrams, group datagrams and
culvert service frames, and what a worker does with a coordinated action (R325 to R329, R349 to R353, R461, R462). -/

namespace Sys2Proof.Machine

open Sys2Proof

/-! ### The service port (R461, R462, R469) -/

/-- The service port takes frames: SVC_EN_N is low and the firmware or the recovery loader runs. -/
def svcPortUp (s : State) : Bool := s.fw.svcOn && (s.md.fwUp || s.md.recovery)

/-- A reply of LEN_ERR that is not cached (R462). -/
def svcLenErr (alive tag : Byte) (s : State) : State := answerUncached ⟨.service, alive, tag⟩ stLenErr s

/-- SERVICE_FRAME: a whole frame's packet is checked and executed. -/
def execServiceFrame (ws : List Word) (s : State) : Outcome :=
  if !svcPortUp s then .next s
  else if !pktFits ws then .next (svcLenErr (pktCtx .service ws).alive (pktCtx .service ws).tag s)
  else if runsFactory .service ws s then .refused .factoryOpcodeNotDescribed
  else .next (runPacket .service ws s)

/-- SERVICE_FRAME_GAP: the frame is discarded and answered LEN_ERR with alive counter and tag 0 (R462). -/
def execServiceFrameGap (s : State) : Outcome := .next (if svcPortUp s then svcLenErr 0 0 s else s)

/-! ### Management datagrams (R325, R328, R329) -/

/-- A datagram fails its tag or its sequence: dropped, counted, FS63 (R328). -/
def authDrop (s : State) : State :=
  raiseFault 63 0 { s with net := { s.net with cAuth := satAdd 16 s.net.cAuth 1 } }

/-- A datagram is accepted: its sequence, time and count are kept (R328). -/
def takeDatagram (id seq : Nat) (s : State) : State :=
  { s with net := { s.net with sessions := s.net.sessions.map fun x =>
      if x.id = id then { x with seq := seq, lastAt := s.clk, count := x.count + 1 } else x } }

/-- A session that has carried 2^32 datagrams closes (R328). -/
def closeFull (id : Nat) (s : State) : State :=
  if s.net.sessions.any fun x => x.id == id && decide (2 ^ 32 ≤ x.count) then closeSession id s else s

/-- The packet of an accepted datagram; a length that disagrees is answered LEN_ERR, uncached (R376). -/
def datagramPacket (id : Nat) (ws : List Word) (s : State) : State :=
  if pktFits ws then runPacket (.udp id) ws s else answerUncached (pktCtx (.udp id) ws) stLenErr s

/-- A datagram of an open session (R328); the sequence is higher than every one accepted before, from 0 on. -/
def sessionDatagram (x : Session) (seq : Nat) (tagOk : Bool) (ws : List Word) (s : State) : State :=
  if !tagOk || (decide (0 < x.count) && decide (seq ≤ x.seq)) then authDrop s
  else closeFull x.id (datagramPacket x.id ws (takeDatagram x.id seq s))

/-- UDP_DATA_DATAGRAM; one of no open session is a frame under RATE_LIM, dropped without a reply (R328, R330). -/
def execUdpDataDatagram (session : BitVec 32) (seq : BitVec 64) (tagOk : Bool) (ws : List Word) (s : State) : Outcome :=
  .next (if !mgmtUp s then s
    else match s.net.sessions.find? fun x => x.id == session.toNat && !sessionOver s.clk x with
      | none => rateLimit id s.wakeCore
      | some x => sessionDatagram x seq.toNat tagOk ws s.wakeCore)

/-! ### Group datagrams (R348 to R353) -/

/-- The status an IMG_ACTIVATE would end with, checked without executing it (R353). -/
def imgActivateStatus (s : State) (ws : List Word) : Nat :=
  let ty := field (par ws 1) 0 2
  let i := 2 * ty + field (par ws 1) 8 1
  if !imgModes s .group [3, 7, 9] ty then stWrongMode
  else if reservedBad (par ws 1) 0x103 || ws.length != 5 then stBadParam
  else if opRuns s [0x92, 0x93] then stBusy
  else if !slotVerified (slotOf s i) then stDenied
  else if (slotDigest s i).take 4 ≠ parFrom ws 2 then stFault
  else stOk

/-- The status a coordinated command would return; OK where it would be accepted (R353). -/
def prepareStatus (s : State) (p : List Word) : Nat :=
  if !(pktFits p && pktCrcOk p) then stCheckFail
  else if pktOpcode p = 0x02 then (let v := setModeStatus s (pktParams p); if v = stAccepted then stOk else v)
  else if pktOpcode p = 0x93 then imgActivateStatus s (pktParams p)
  else stBadParam

/-- The worker answers DENIED, on the path it came by, to a message it may not obey, and FS75 is raised (R349, Table 14-4). -/
def workerDenied (via : Option (Fin 8)) (ws : List Word) (s : State) : State :=
  raiseFault 75 0 (sendUp via s (message stDenied (pktCtx .group ws).alive (pktCtx .group ws).tag []))

/-- The packet a message from the manager carries. -/
def bodyPacket : GroupBody → List Word
  | .packet ws | .prepare ws | .commit ws _ => ws
  | .reply _ | .prepared _ | .summary _ => []

/-- Opcodes that are never forwarded (R351). -/
def neverForwarded (op : Nat) : Bool := [0x90, 0x91, 0x95, 0x61].contains op || isFactory op

/-- What a worker does with a message of its manager (R349, R353). -/
def obeyManager (b : GroupBody) (s : State) : State :=
  match b with
  | .packet ws =>
    if neverForwarded (pktOpcode ws) then answerUncached (pktCtx .group ws) stDenied s
    else if pktFits ws then runPacket .group ws s
    else answerUncached (pktCtx .group ws) stLenErr s
  | .prepare ws =>
    let st := prepareStatus s ws
    let s1 := { s with grp := { s.grp with coord := if st = stOk then some ⟨ws, none⟩ else none } }
    deliver .group false (message st (pktCtx .group ws).alive (pktCtx .group ws).tag [BitVec.ofNat 32 s.tq]) s1
  | .commit ws t =>
    match s.grp.coord with
    | some k => if k.packet = ws then { s with grp := { s.grp with coord := some ⟨ws, some t⟩ } } else s
    | none => s
  | .reply _ | .prepared _ | .summary _ => s

/-- The message is for a worker to obey. -/
def forWorker : GroupBody → Bool
  | .packet _ | .prepare _ | .commit _ _ => true
  | .reply _ | .prepared _ | .summary _ => false

/-- A message of the manager at a worker: flag and serial first, then the sequence (R349). The answers go back the way it
came (R350). -/
def workerTakes (via : Option (Fin 8)) (g : GroupMsg) (s : State) : State :=
  if s.grp.managed = false ∨ g.serial ≠ s.grp.mgr then workerDenied via (bodyPacket g.body) s
  else if g.seq < s.grp.rxSeq then raiseFault 75 0 (authDrop s)
  else flushGroup (obeyManager g.body { s with grp := { s.grp with rxSeq := g.seq + 1, via := via } })

/-- Status and payload of a worker's reply (Table 15-6). -/
def replyStatus (ws : List Word) : Nat := field (ws.headD 0) 24 8
def replyPayload (ws : List Word) : List Word := (ws.drop 1).take (field (ws.headD 0) 0 8)

/-- The manager caches a worker's reply (R351). -/
def cacheReply (n : Nat) (ws : List Word) (s : State) : State := modWorker n (fun w => { w with cached := ws }) s

/-- What the manager does with a message of one of its workers (R351 to R354). -/
def managerTakes (w : Worker) (g : GroupMsg) (s : State) : State :=
  if g.seq < w.rxSeq then raiseFault 75 0 (authDrop s)
  else
    let s1 := modWorker w.num (fun w => { w with rxSeq := g.seq + 1 }) s
    match g.body with
    | .reply ws => workerAnswers w.num (replyStatus ws) (replyPayload ws) (cacheReply w.num ws s1)
    | .prepared st => workerAnswers w.num st [] s1
    | .summary ws => takeSummary w.num ws s1
    | .packet _ | .prepare _ | .commit _ _ => s1

/-- A group datagram that came by the station network or from an index of the ring: a tag failure drops it (R349). -/
def groupDatagram (via : Option (Fin 8)) (g : GroupMsg) (s : State) : State :=
  if !g.tagOk then raiseFault 75 0 (authDrop s)
  else if forWorker g.body then workerTakes via g s
  else match s.grp.workers.find? fun w => w.serial == g.serial with
    | some w => managerTakes w g s
    | none => raiseFault 75 0 (authDrop s)

/-- GROUP_DATAGRAM_RECEIVED: from the station network, where management takes packets, within the rate limit (R325, R330, R349). -/
def execGroupDatagramReceived (g : GroupMsg) (s : State) : Outcome := .next (mgmtFrame (groupDatagram none g) s)

/-- A coordinated command is carried out; a mode change takes effect at this commit (R353). -/
def coordAct (p : List Word) (s : State) : State :=
  let s1 := runOpcode (pktOpcode p) (pktCtx .group p) (pktParams p) { s with grp := { s.grp with coord := none } }
  modeCommit (discardOutputs (commitMode s1) s1)

/-- COORD_ACTIVATION: the first sluice commit at or after T_ACT. -/
def execCoordActivation (s : State) : Outcome :=
  .next (match s.grp.coord with
    | some ⟨p, some t⟩ => if t ≤ s.now then coordAct p s else s
    | some ⟨_, none⟩ | none => s)

/-! ### Culvert service frames (R350) -/

/-- A frame not addressed to this module goes on by the other port; one that finds 8 queued is dropped (R350). -/
def forwardService (fromB : Bool) (f : SvcFrame) (s : State) : State :=
  match enqueue fromB (casIdx s) f s.cas with
  | some c => { s with cas := c }
  | none => s

/-- CAS_SERVICE_FRAME: dropped and counted when its CRC-32C fails, delivered, or forwarded. -/
def execCasServiceFrame (fromB : Bool) (f : SvcFrame) (crcOk : Bool) (g : GroupMsg) (s : State) : Outcome :=
  .next (if s.cas.state ≠ 2 then s
    else if !crcOk then modCas (fun c => { c with errs := satAdd 16 c.errs 1 }) s
    else if f.dst.val = casIdx s then groupDatagram (some f.src) g s.wakeCore
    else forwardService fromB f s)

end Sys2Proof.Machine
end

