-- ==== Sys2Proof/Machine/Dispatch.lean ====
section
/-! DEFINITION. exec: one arm per command, each one direct call of that command's meaning. -/

namespace Sys2Proof.Machine

open Sys2Proof

def exec (i : Instr) (s : State) : Host.Outcome State Fault Refusal :=
  match i with
  | .vsysValid mv => Sys2Proof.Machine.execVsysValid mv s
  | .vsysPowerFail vbatMv => Sys2Proof.Machine.execVsysPowerFail vbatMv s
  | .powerFailComplete inTime => Sys2Proof.Machine.execPowerFailComplete inTime s
  | .holdupCharged => Sys2Proof.Machine.execHoldupCharged s
  | .presNLow => Sys2Proof.Machine.execPresNLow s
  | .presNRelease => Sys2Proof.Machine.execPresNRelease s
  | .bootBegin casM casId cfw => Sys2Proof.Machine.execBootBegin casM casId cfw s
  | .firmwareStart caseT coreT vbatMv cmcOk mramOk => Sys2Proof.Machine.execFirmwareStart caseT coreT vbatMv cmcOk mramOk s
  | .startupLanesUp => Sys2Proof.Machine.execStartupLanesUp s
  | .startupSelfcalComplete mig cfg => Sys2Proof.Machine.execStartupSelfcalComplete mig cfg s
  | .configLoadComplete lgp => Sys2Proof.Machine.execConfigLoadComplete lgp s
  | .armedTicksElapsed => Sys2Proof.Machine.execArmedTicksElapsed s
  | .moduleReset r => Sys2Proof.Machine.execModuleReset r s
  | .thermalTrip => Sys2Proof.Machine.execThermalTrip s
  | .thermalTripRestart => Sys2Proof.Machine.execThermalTripRestart s
  | .vioRangeChange mv => Sys2Proof.Machine.execVioRangeChange mv s
  | .vbatBrownout => Sys2Proof.Machine.execVbatBrownout s
  | .vbatCheck mv => Sys2Proof.Machine.execVbatCheck mv s
  | .vsysSample mv => Sys2Proof.Machine.execVsysSample mv s
  | .powerAverageUpdate x => Sys2Proof.Machine.execPowerAverageUpdate x s
  | .temperatureThreshold caseT coreT => Sys2Proof.Machine.execTemperatureThreshold caseT coreT s
  | .powerStateEnter horizonNs => Sys2Proof.Machine.execPowerStateEnter horizonNs s
  | .powerStateWake => Sys2Proof.Machine.execPowerStateWake s
  | .cellPowerStateEnter ch horizonNs => Sys2Proof.Machine.execCellPowerStateEnter ch horizonNs s
  | .removalRequest => Sys2Proof.Machine.execRemovalRequest s
  | .mramFlushComplete => Sys2Proof.Machine.execMramFlushComplete s
  | .removalCancel => Sys2Proof.Machine.execRemovalCancel s
  | .tamperSample isOpen => Sys2Proof.Machine.execTamperSample isOpen s
  | .rtcDiscipline => Sys2Proof.Machine.execRtcDiscipline s
  | .tickMarkerLaunch lateNs => Sys2Proof.Machine.execTickMarkerLaunch lateNs s
  | .sluiceCommit x => Sys2Proof.Machine.execSluiceCommit x s
  | .functionStart ch => Sys2Proof.Machine.execFunctionStart ch s
  | .rateChange => Sys2Proof.Machine.execRateChange s
  | .localImageComplete inTime => Sys2Proof.Machine.execLocalImageComplete inTime s
  | .firstEvalComplete => Sys2Proof.Machine.execFirstEvalComplete s
  | .replayPassComplete => Sys2Proof.Machine.execReplayPassComplete s
  | .commitCutoff x => Sys2Proof.Machine.execCommitCutoff x s
  | .recordClose => Sys2Proof.Machine.execRecordClose s
  | .gooseRetransmit pub => Sys2Proof.Machine.execGooseRetransmit pub s
  | .ptpSyncReceived port offsetNs freq => Sys2Proof.Machine.execPtpSyncReceived port offsetNs freq s
  | .ptpSourceTimeout => Sys2Proof.Machine.execPtpSourceTimeout s
  | .holdoverUpdate => Sys2Proof.Machine.execHoldoverUpdate s
  | .stepApply => Sys2Proof.Machine.execStepApply s
  | .slewStart => Sys2Proof.Machine.execSlewStart s
  | .slewEnd => Sys2Proof.Machine.execSlewEnd s
  | .ptpAnnounceReceived port a => Sys2Proof.Machine.execPtpAnnounceReceived port a s
  | .ptpMasterTransmit => Sys2Proof.Machine.execPtpMasterTransmit s
  | .ptpPdelayMessage port m => Sys2Proof.Machine.execPtpPdelayMessage port m s
  | .leapSecondApply => Sys2Proof.Machine.execLeapSecondApply s
  | .syncInEdge rising highNs lowNs errNs freq => Sys2Proof.Machine.execSyncInEdge rising highNs lowNs errNs freq s
  | .ppsMissing => Sys2Proof.Machine.execPpsMissing s
  | .laneCommaDetected ch => Sys2Proof.Machine.execLaneCommaDetected ch s
  | .laneTrainTimeout ch => Sys2Proof.Machine.execLaneTrainTimeout ch s
  | .laneSymbolLoss ch => Sys2Proof.Machine.execLaneSymbolLoss ch s
  | .laneAck ch toCell => Sys2Proof.Machine.execLaneAck ch toCell s
  | .laneNak ch toCell => Sys2Proof.Machine.execLaneNak ch toCell s
  | .laneAnswerTimeout ch toCell => Sys2Proof.Machine.execLaneAnswerTimeout ch toCell s
  | .resultReceived ch ok => Sys2Proof.Machine.execResultReceived ch ok s
  | .outFrameReceived ch r => Sys2Proof.Machine.execOutFrameReceived ch r s
  | .cfgwReceived ch r => Sys2Proof.Machine.execCfgwReceived ch r s
  | .cfgrReceived ch r => Sys2Proof.Machine.execCfgrReceived ch r s
  | .applyReceived ch r => Sys2Proof.Machine.execApplyReceived ch r s
  | .holdoverReceived ch r => Sys2Proof.Machine.execHoldoverReceived ch r s
  | .ucodeReceived ch r last crc => Sys2Proof.Machine.execUcodeReceived ch r last crc s
  | .cfgaReceived ch r => Sys2Proof.Machine.execCfgaReceived ch r s
  | .configWriteDeadline ch => Sys2Proof.Machine.execConfigWriteDeadline ch s
  | .configWriteLaneTimeout ch => Sys2Proof.Machine.execConfigWriteLaneTimeout ch s
  | .helloReceived ch ok => Sys2Proof.Machine.execHelloReceived ch ok s
  | .helloRepeat ch => Sys2Proof.Machine.execHelloRepeat ch s
  | .eventFrameReceived ch ok ev => Sys2Proof.Machine.execEventFrameReceived ch ok ev s
  | .statusReceived ch dieT swT p20mv mw ok => Sys2Proof.Machine.execStatusReceived ch dieT swT p20mv mw ok s
  | .statusSend ch => Sys2Proof.Machine.execStatusSend ch s
  | .cellPowerUp ch fld => Sys2Proof.Machine.execCellPowerUp ch fld s
  | .cellSupplyLoss ch => Sys2Proof.Machine.execCellSupplyLoss ch s
  | .cellReset ch why => Sys2Proof.Machine.execCellReset ch why s
  | .wdLaneExpire ch => Sys2Proof.Machine.execWdLaneExpire ch s
  | .wdSeqExpire ch => Sys2Proof.Machine.execWdSeqExpire ch s
  | .holdoverExpire ch => Sys2Proof.Machine.execHoldoverExpire ch s
  | .cellSelfcalComplete ch fs => Sys2Proof.Machine.execCellSelfcalComplete ch fs s
  | .diRawEdge ch rising ageNs => Sys2Proof.Machine.execDiRawEdge ch rising ageNs s
  | .debounceExpire ch => Sys2Proof.Machine.execDebounceExpire ch s
  | .chatterQuietExpire ch => Sys2Proof.Machine.execChatterQuietExpire ch s
  | .wireBreakTimeout ch absent => Sys2Proof.Machine.execWireBreakTimeout ch absent s
  | .sensorShortDetect ch absent => Sys2Proof.Machine.execSensorShortDetect ch absent s
  | .sensorSupplyRetry ch supOn => Sys2Proof.Machine.execSensorSupplyRetry ch supOn s
  | .diOverrangeTimer ch out => Sys2Proof.Machine.execDiOverrangeTimer ch out s
  | .eventQueueSpace ch => Sys2Proof.Machine.execEventQueueSpace ch s
  | .inputTestEnd ch lo hi rawAfter => Sys2Proof.Machine.execInputTestEnd ch lo hi rawAfter s
  | .doLimitTimeout ch => Sys2Proof.Machine.execDoLimitTimeout ch s
  | .inrushWindowClose ch iPkMa => Sys2Proof.Machine.execInrushWindowClose ch iPkMa s
  | .switchThermalShutdown ch => Sys2Proof.Machine.execSwitchThermalShutdown ch s
  | .thermalLatchRelease ch => Sys2Proof.Machine.execThermalLatchRelease ch s
  | .retryDelayExpire ch => Sys2Proof.Machine.execRetryDelayExpire ch s
  | .overvoltDetect ch absent => Sys2Proof.Machine.execOvervoltDetect ch absent s
  | .clampWindowEnd ch => Sys2Proof.Machine.execClampWindowEnd ch s
  | .supplyDip ch pMv => Sys2Proof.Machine.execSupplyDip ch pMv s
  | .supplyReturn ch pMv => Sys2Proof.Machine.execSupplyReturn ch pMv s
  | .dipMemExpire ch => Sys2Proof.Machine.execDipMemExpire ch s
  | .backfeedDetect ch => Sys2Proof.Machine.execBackfeedDetect ch s
  | .doDiagTimer ch d absent => Sys2Proof.Machine.execDoDiagTimer ch d absent s
  | .xsdProxyUpdate ch iMa => Sys2Proof.Machine.execXsdProxyUpdate ch iMa s
  | .tcsPulseStart ch => Sys2Proof.Machine.execTcsPulseStart ch s
  | .tcsPulseEnd ch r => Sys2Proof.Machine.execTcsPulseEnd ch r s
  | .shuntDisconnect ch => Sys2Proof.Machine.execShuntDisconnect ch s
  | .shuntReconnect ch clear => Sys2Proof.Machine.execShuntReconnect ch clear s
  | .aiOverrangeTimer ch out => Sys2Proof.Machine.execAiOverrangeTimer ch out s
  | .refbConversion ch ratio => Sys2Proof.Machine.execRefbConversion ch ratio s
  | .replicaCycleEnd ch lo hi zero => Sys2Proof.Machine.execReplicaCycleEnd ch lo hi zero s
  | .injTrigger ch => Sys2Proof.Machine.execInjTrigger ch s
  | .injEntryResult ch raw => Sys2Proof.Machine.execInjEntryResult ch raw s
  | .injFreezeTimeout ch => Sys2Proof.Machine.execInjFreezeTimeout ch s
  | .aoThermalLimit ch => Sys2Proof.Machine.execAoThermalLimit ch s
  | .aoThermalRelease ch => Sys2Proof.Machine.execAoThermalRelease ch s
  | .complianceTimer ch beyond => Sys2Proof.Machine.execComplianceTimer ch beyond s
  | .aoaOpenDetect ch absent => Sys2Proof.Machine.execAoaOpenDetect ch absent s
  | .aoaExtVoltage ch back => Sys2Proof.Machine.execAoaExtVoltage ch back s
  | .aoaLowSupply ch low => Sys2Proof.Machine.execAoaLowSupply ch low s
  | .aopStepDown ch measNa => Sys2Proof.Machine.execAopStepDown ch measNa s
  | .aopLoopPowerUp ch => Sys2Proof.Machine.execAopLoopPowerUp ch s
  | .hartQuietElapsed ch => Sys2Proof.Machine.execHartQuietElapsed ch s
  | .hartTxEnd ch => Sys2Proof.Machine.execHartTxEnd ch s
  | .hartReplyTimeout ch => Sys2Proof.Machine.execHartReplyTimeout ch s
  | .hartFrameReceived ch bytes ageNs parityOk laneOk => Sys2Proof.Machine.execHartFrameReceived ch bytes ageNs parityOk laneOk s
  | .hsrFrameForward f => Sys2Proof.Machine.execHsrFrameForward f s
  | .dupEntryExpire key => Sys2Proof.Machine.execDupEntryExpire key s
  | .gooseFrameReceived f => Sys2Proof.Machine.execGooseFrameReceived f s
  | .mirrorFrameReceived f => Sys2Proof.Machine.execMirrorFrameReceived f s
  | .subFreshnessExpire k => Sys2Proof.Machine.execSubFreshnessExpire k s
  | .localFrameReceived port fcsOk session => Sys2Proof.Machine.execLocalFrameReceived port fcsOk session s
  | .portLinkDown port => Sys2Proof.Machine.execPortLinkDown port s
  | .portLinkUp port fullDuplex1G anComplete => Sys2Proof.Machine.execPortLinkUp port fullDuplex1G anComplete s
  | .portsRestarted => Sys2Proof.Machine.execPortsRestarted s
  | .redundancySupervisionSend => Sys2Proof.Machine.execRedundancySupervisionSend s
  | .supervisionMissing port => Sys2Proof.Machine.execSupervisionMissing port s
  | .udpHandshakeMsg1 part => Sys2Proof.Machine.execUdpHandshakeMsg1 part s
  | .udpHandshakeMsg3 part sigOk => Sys2Proof.Machine.execUdpHandshakeMsg3 part sigOk s
  | .handshakeTimeout => Sys2Proof.Machine.execHandshakeTimeout s
  | .udpDataDatagram session seq tagOk ws => Sys2Proof.Machine.execUdpDataDatagram session seq tagOk ws s
  | .sessionExpire session => Sys2Proof.Machine.execSessionExpire session s
  | .arpIcmpRequest port icmp => Sys2Proof.Machine.execArpIcmpRequest port icmp s
  | .casTrainingComplete r => Sys2Proof.Machine.execCasTrainingComplete r s
  | .casTickSymbol num fromIdx => Sys2Proof.Machine.execCasTickSymbol num fromIdx s
  | .casFlywheelTick => Sys2Proof.Machine.execCasFlywheelTick s
  | .casReclaimHandover => Sys2Proof.Machine.execCasReclaimHandover s
  | .casImageReceived fromB img crcOk => Sys2Proof.Machine.execCasImageReceived fromB img crcOk s
  | .casLinkBreak portB => Sys2Proof.Machine.execCasLinkBreak portB s
  | .casRingHealed => Sys2Proof.Machine.execCasRingHealed s
  | .casServiceFrame fromB f crcOk g => Sys2Proof.Machine.execCasServiceFrame fromB f crcOk g s
  | .groupDatagramReceived g => Sys2Proof.Machine.execGroupDatagramReceived g s
  | .groupWorkerTimeout worker => Sys2Proof.Machine.execGroupWorkerTimeout worker s
  | .coordActivation => Sys2Proof.Machine.execCoordActivation s
  | .staggerBatchLimit => Sys2Proof.Machine.execStaggerBatchLimit s
  | .workerSummarySend => Sys2Proof.Machine.execWorkerSummarySend s
  | .workerSummaryMissing worker => Sys2Proof.Machine.execWorkerSummaryMissing worker s
  | .hpFrameNop f => Sys2Proof.Machine.execHpFrameNop f s
  | .hpFrameRegRead f => Sys2Proof.Machine.execHpFrameRegRead f s
  | .hpFrameRegWrite f => Sys2Proof.Machine.execHpFrameRegWrite f s
  | .hpFramePkt f => Sys2Proof.Machine.execHpFramePkt f s
  | .hpFrameRsp f => Sys2Proof.Machine.execHpFrameRsp f s
  | .hrdyStretchLimit f => Sys2Proof.Machine.execHrdyStretchLimit f s
  | .rsPairLoRead addr => Sys2Proof.Machine.execRsPairLoRead addr s
  | .injValRead ch => Sys2Proof.Machine.execInjValRead ch s
  | .injStatRead ch => Sys2Proof.Machine.execInjStatRead ch s
  | .tiLock => Sys2Proof.Machine.execTiLock s
  | .tiUnlock => Sys2Proof.Machine.execTiUnlock s
  | .evtPendClear idx val => Sys2Proof.Machine.execEvtPendClear idx val s
  | .evtSysClear val => Sys2Proof.Machine.execEvtSysClear val s
  | .cellCauseClear ch val => Sys2Proof.Machine.execCellCauseClear ch val s
  | .errAck val => Sys2Proof.Machine.execErrAck val s
  | .hpCtlClr => Sys2Proof.Machine.execHpCtlClr s
  | .secCtlClearTamper val => Sys2Proof.Machine.execSecCtlClearTamper val s
  | .cuIn8 u val => Sys2Proof.Machine.execCuIn8 u val s
  | .cuIn16 u val => Sys2Proof.Machine.execCuIn16 u val s
  | .cuIn32 u val => Sys2Proof.Machine.execCuIn32 u val s
  | .cuRestart u val => Sys2Proof.Machine.execCuRestart u val s
  | .cuCheck u val => Sys2Proof.Machine.execCuCheck u val s
  | .cuAliveFold u byte => Sys2Proof.Machine.execCuAliveFold u byte s
  | .cuAliveSetExpect u byte => Sys2Proof.Machine.execCuAliveSetExpect u byte s
  | .cuValWrite u val => Sys2Proof.Machine.execCuValWrite u val s
  | .cuStatClear u val => Sys2Proof.Machine.execCuStatClear u val s
  | .registerWrite addr val => Sys2Proof.Machine.execRegisterWrite addr val s
  | .serviceFrame ws => Sys2Proof.Machine.execServiceFrame ws s
  | .serviceFrameGap => Sys2Proof.Machine.execServiceFrameGap s
  | .svcEnNHigh => Sys2Proof.Machine.execSvcEnNHigh s
  | .factoryKeyPresented => Sys2Proof.Machine.execFactoryKeyPresented s
  | .partialRecordDiscard src opcode => Sys2Proof.Machine.execPartialRecordDiscard src opcode s
  | .lockstepMismatch => Sys2Proof.Machine.execLockstepMismatch s
  | .processorWatchdogExpire => Sys2Proof.Machine.execProcessorWatchdogExpire s
  | .memoryEccError m addr double => Sys2Proof.Machine.execMemoryEccError m addr double s
  | .memoryScrubPass m corrected => Sys2Proof.Machine.execMemoryScrubPass m corrected s
  | .crossingTimeout row lost otherReset => Sys2Proof.Machine.execCrossingTimeout row lost otherReset s
  | .crossingProbe row answered => Sys2Proof.Machine.execCrossingProbe row answered s
  | .crossingPulseSaturate row => Sys2Proof.Machine.execCrossingPulseSaturate row s
  | .settleWindowClose b => Sys2Proof.Machine.execSettleWindowClose b s
  | .errHoldExpire fs => Sys2Proof.Machine.execErrHoldExpire fs s
  | .errDynToggle => Sys2Proof.Machine.execErrDynToggle s
  | .lifeCounterSave => Sys2Proof.Machine.execLifeCounterSave s
  | .lifeCellCopy => Sys2Proof.Machine.execLifeCellCopy s
  | .selfcalComplete => Sys2Proof.Machine.execSelfcalComplete s
  | .calStoreWriteComplete ch ok => Sys2Proof.Machine.execCalStoreWriteComplete ch ok s
  | .aoTrimTimeout ch => Sys2Proof.Machine.execAoTrimTimeout ch s
  | .lpStageComplete flashOk => Sys2Proof.Machine.execLpStageComplete flashOk s
  | .imgVerifyComplete v => Sys2Proof.Machine.execImgVerifyComplete v s
  | .attestComplete => Sys2Proof.Machine.execAttestComplete s
  | .getInfo c ws => Sys2Proof.Machine.execGetInfo c ws s
  | .setMode c ws => Sys2Proof.Machine.execSetMode c ws s
  | .getStatus c ws => Sys2Proof.Machine.execGetStatus c ws s
  | .abort c ws => Sys2Proof.Machine.execAbort c ws s
  | .reset c ws => Sys2Proof.Machine.execReset c ws s
  | .quiesce c ws => Sys2Proof.Machine.execQuiesce c ws s
  | .setTick c ws => Sys2Proof.Machine.execSetTick c ws s
  | .sysConfig c ws => Sys2Proof.Machine.execSysConfig c ws s
  | .chConfig c ws => Sys2Proof.Machine.execChConfig c ws s
  | .chReadConfig c ws => Sys2Proof.Machine.execChReadConfig c ws s
  | .chSetFailsafe c ws => Sys2Proof.Machine.execChSetFailsafe c ws s
  | .chForce c ws => Sys2Proof.Machine.execChForce c ws s
  | .chClearLatch c ws => Sys2Proof.Machine.execChClearLatch c ws s
  | .inputTest c ws => Sys2Proof.Machine.execInputTest c ws s
  | .injSeqConfig c ws => Sys2Proof.Machine.execInjSeqConfig c ws s
  | .hartTx c ws => Sys2Proof.Machine.execHartTx c ws s
  | .hartRx c ws => Sys2Proof.Machine.execHartRx c ws s
  | .selfcal c ws => Sys2Proof.Machine.execSelfcal c ws s
  | .calWrite c ws => Sys2Proof.Machine.execCalWrite c ws s
  | .calExport c ws => Sys2Proof.Machine.execCalExport c ws s
  | .aoTrim c ws => Sys2Proof.Machine.execAoTrim c ws s
  | .calRestore c ws sigOk => Sys2Proof.Machine.execCalRestore c ws sigOk s
  | .lpStage c ws => Sys2Proof.Machine.execLpStage c ws s
  | .lpActivate c ws => Sys2Proof.Machine.execLpActivate c ws s
  | .lpStats c ws => Sys2Proof.Machine.execLpStats c ws s
  | .lpReadVar c ws => Sys2Proof.Machine.execLpReadVar c ws s
  | .netConfig c ws => Sys2Proof.Machine.execNetConfig c ws s
  | .ptpConfig c ws => Sys2Proof.Machine.execPtpConfig c ws s
  | .frameDef c ws => Sys2Proof.Machine.execFrameDef c ws s
  | .netStats c ws => Sys2Proof.Machine.execNetStats c ws s
  | .casConfig c ws => Sys2Proof.Machine.execCasConfig c ws s
  | .groupConfig c ws => Sys2Proof.Machine.execGroupConfig c ws s
  | .groupForward c ws => Sys2Proof.Machine.execGroupForward c ws s
  | .recConfig c ws => Sys2Proof.Machine.execRecConfig c ws s
  | .recTrigger c ws => Sys2Proof.Machine.execRecTrigger c ws s
  | .recRead c ws => Sys2Proof.Machine.execRecRead c ws s
  | .soeRead c ws => Sys2Proof.Machine.execSoeRead c ws s
  | .lifeRead c ws => Sys2Proof.Machine.execLifeRead c ws s
  | .clockSet c ws => Sys2Proof.Machine.execClockSet c ws s
  | .fltConfig c ws => Sys2Proof.Machine.execFltConfig c ws s
  | .fltRead c ws => Sys2Proof.Machine.execFltRead c ws s
  | .fltClear c ws => Sys2Proof.Machine.execFltClear c ws s
  | .imgBegin c ws => Sys2Proof.Machine.execImgBegin c ws s
  | .imgBlock c ws => Sys2Proof.Machine.execImgBlock c ws s
  | .imgVerify c ws => Sys2Proof.Machine.execImgVerify c ws s
  | .imgActivate c ws => Sys2Proof.Machine.execImgActivate c ws s
  | .attest c ws => Sys2Proof.Machine.execAttest c ws s
  | .ownerEnrol c ws sigOk => Sys2Proof.Machine.execOwnerEnrol c ws sigOk s
  | .factoryCommand c op => Sys2Proof.Machine.execFactoryCommand c op s
  | .oscillatorMonitorFail good => Sys2Proof.Machine.execOscillatorMonitorFail good s
  | .couplerDriverSupplyFault back => Sys2Proof.Machine.execCouplerDriverSupplyFault back s
  | .holdupStoreFailure => Sys2Proof.Machine.execHoldupStoreFailure s
  | .announceReceiptTimeout port => Sys2Proof.Machine.execAnnounceReceiptTimeout port s
  | .svcEnNLow => Sys2Proof.Machine.execSvcEnNLow s
  | .hpFrameMalformed f => Sys2Proof.Machine.execHpFrameMalformed f s
  | .seHealthTestFail trng => Sys2Proof.Machine.execSeHealthTestFail trng s
  | .wetPulseEnd ch ignoreOnly => Sys2Proof.Machine.execWetPulseEnd ch ignoreOnly s

end Sys2Proof.Machine
end

