-- ==== Sys2Proof/WellFormed.lean ====
section
/-! DEFINITION. The operands a command can carry: the checks that a term of Instr must meet to stand for something the
block can be given. Operands that do not meet them have no counterpart outside; exec is total on them all the same. -/

namespace Sys2Proof

/-- A module reset that the module or the power gives: CAUSE 2 to 8 of Table 4-8; FS names a source exactly where the
cause is a fault, and reads 0xFF elsewhere (R82). -/
def rstReqWf (r : RstReq) : Bool :=
  decide (2 ≤ r.cause) && decide (r.cause ≤ 8) &&
    (if 3 ≤ r.cause && r.cause ≤ 5 then decide (r.fs < 96) else r.fs == 0xFF)

/-- The attributes of an Announce message are the bytes and the word of a PTP data set (R306). -/
def announceWf (a : Announce) : Bool :=
  decide (a.domain < 256) && decide (a.priority1 < 256) && decide (a.clockClass < 256) && decide (a.accuracy < 256) &&
    decide (a.variance < 65536) && decide (a.priority2 < 256) && decide (a.gmId < 2 ^ 64) && decide (a.steps < 65536)

/-- A packet has at most 250 parameter words (R364). -/
def wordsWf (ws : List Word) : Bool := decide (ws.length ≤ 250)

/-- A lane frame carries eight payload bytes (Table 6-3). -/
def laneRxWf (r : LaneRx) : Bool := decide (r.payload.length = 8)

/-- The checks of one command, constructor by constructor. -/
def Instr.wf (i : Instr) : Bool :=
  match i with
  | .vsysValid mv => decide (17000 ≤ mv)
  | .vsysPowerFail _ | .powerFailComplete _ | .holdupCharged | .presNLow | .presNRelease | .bootBegin _ _ _
  | .firmwareStart _ _ _ _ _ | .startupLanesUp | .startupSelfcalComplete _ _ | .configLoadComplete _
  | .armedTicksElapsed => true
  | .moduleReset r => rstReqWf r
  | .thermalTrip | .thermalTripRestart | .vioRangeChange _ | .vbatBrownout | .vbatCheck _ | .vsysSample _ => true
  | .powerAverageUpdate x =>
    decide (x.vsysMin ≤ x.vsysMv ∧ x.vsysMv ≤ x.vsysMax) && decide (x.vsysMv < 65536) && decide (x.vioMv < 65536)
      && decide (x.cplMw < 65536) && decide (x.inMw < 65536)
  | .temperatureThreshold _ _ | .powerStateEnter _ | .powerStateWake | .cellPowerStateEnter _ _
  | .removalRequest | .mramFlushComplete | .removalCancel | .tamperSample _ | .rtcDiscipline
  | .tickMarkerLaunch _ => true
  | .sluiceCommit x => decide (x.samples.length ≤ 32)
  | .functionStart _ | .rateChange | .localImageComplete _ | .firstEvalComplete | .replayPassComplete
  | .commitCutoff _ | .recordClose | .gooseRetransmit _ | .ptpSyncReceived _ _ _ | .ptpSourceTimeout
  | .holdoverUpdate | .stepApply | .slewStart | .slewEnd => true
  | .ptpAnnounceReceived _ a => announceWf a
  | .ptpMasterTransmit | .ptpPdelayMessage _ _ | .leapSecondApply | .syncInEdge _ _ _ _ _ | .ppsMissing
  | .laneCommaDetected _ | .laneTrainTimeout _ | .laneSymbolLoss _ | .laneAck _ _ | .laneNak _ _
  | .laneAnswerTimeout _ _ | .resultReceived _ _ => true
  | .cfgwReceived _ r => laneRxWf r
  | .cfgrReceived _ r => laneRxWf r
  | .applyReceived _ r => laneRxWf r
  | .holdoverReceived _ r => laneRxWf r
  | .ucodeReceived _ r _ crc => laneRxWf r && decide (crc < 2 ^ 32)
  | .cfgaReceived _ r => laneRxWf r
  | .outFrameReceived _ r => laneRxWf r
  | .configWriteDeadline _ | .configWriteLaneTimeout _ | .helloReceived _ _
  | .helloRepeat _ | .eventFrameReceived _ _ _ | .statusReceived _ _ _ _ _ _ | .statusSend _ | .cellPowerUp _ _
  | .cellSupplyLoss _ => true
  | .cellReset _ why => decide (why.toNat ≤ 4)
  | .wdLaneExpire _ | .wdSeqExpire _ | .holdoverExpire _ => true
  | .cellSelfcalComplete _ fs => fs.all fun p => decide (p.gain < 2 ^ 32)
  | .diRawEdge _ _ _ | .debounceExpire _ | .chatterQuietExpire _ | .wireBreakTimeout _ _
  | .sensorShortDetect _ _ | .sensorSupplyRetry _ _ | .diOverrangeTimer _ _ | .eventQueueSpace _
  | .inputTestEnd _ _ _ _ | .doLimitTimeout _ | .inrushWindowClose _ _ | .switchThermalShutdown _
  | .thermalLatchRelease _ | .retryDelayExpire _ | .overvoltDetect _ _ | .clampWindowEnd _ | .supplyDip _ _
  | .supplyReturn _ _ | .dipMemExpire _ | .backfeedDetect _ | .doDiagTimer _ _ _ | .xsdProxyUpdate _ _
  | .tcsPulseStart _ | .tcsPulseEnd _ _ | .shuntDisconnect _ | .shuntReconnect _ _ | .aiOverrangeTimer _ _
  | .refbConversion _ _ | .replicaCycleEnd _ _ _ _ | .injTrigger _ | .injEntryResult _ _ | .injFreezeTimeout _
  | .aoThermalLimit _ | .aoThermalRelease _ | .complianceTimer _ _ | .aoaOpenDetect _ _ | .aoaExtVoltage _ _
  | .aoaLowSupply _ _ | .aopStepDown _ _ | .aopLoopPowerUp _ | .hartQuietElapsed _ | .hartTxEnd _
  | .hartReplyTimeout _ | .hartFrameReceived _ _ _ _ _ | .hsrFrameForward _ | .dupEntryExpire _ => true
  | .gooseFrameReceived f => f.vlan.all (fun v => decide (v ≤ 4095)) && decide (f.types.length = f.vals.length)
  | .mirrorFrameReceived f => f.vlan.all fun v => decide (v ≤ 4095)
  | .subFreshnessExpire _ | .localFrameReceived _ _ _ | .portLinkDown _ | .portLinkUp _ _ _ | .portsRestarted
  | .redundancySupervisionSend | .supervisionMissing _ => true
  | .udpHandshakeMsg1 part => decide (part.idx < part.count)
  | .udpHandshakeMsg3 part _ => decide (part.idx < part.count)
  | .handshakeTimeout | .udpDataDatagram _ _ _ _ | .sessionExpire _ | .arpIcmpRequest _ _ => true
  | .casTrainingComplete r => decide (r.peers.length ≤ 7) && r.peers.all fun p => decide (p.code ≤ 7)
  | .casTickSymbol _ _ | .casFlywheelTick | .casReclaimHandover => true
  | .casImageReceived _ img _ => decide (img.words.length ≤ 128)
  | .casLinkBreak _ | .casRingHealed | .casServiceFrame _ _ _ _ | .groupDatagramReceived _
  | .groupWorkerTimeout _ | .coordActivation | .staggerBatchLimit | .workerSummarySend
  | .workerSummaryMissing _ => true
  | .hpFrameNop f => decide (f.words.length * 32 ≤ f.bits)
  | .hpFrameRegRead f => decide (f.words.length * 32 ≤ f.bits)
  | .hpFrameRegWrite f => decide (f.words.length * 32 ≤ f.bits)
  | .hpFramePkt f => decide (f.words.length * 32 ≤ f.bits)
  | .hpFrameRsp f => decide (f.words.length * 32 ≤ f.bits)
  | .hrdyStretchLimit f => decide (f.words.length * 32 ≤ f.bits)
  | .rsPairLoRead _ | .injValRead _ | .injStatRead _ | .tiLock | .tiUnlock | .evtPendClear _ _ | .evtSysClear _
  | .cellCauseClear _ _ | .errAck _ | .hpCtlClr | .secCtlClearTamper _ | .cuIn8 _ _ | .cuIn16 _ _ | .cuIn32 _ _
  | .cuRestart _ _ | .cuCheck _ _ | .cuAliveFold _ _ | .cuAliveSetExpect _ _ | .cuValWrite _ _
  | .cuStatClear _ _ | .registerWrite _ _ | .serviceFrame _ | .serviceFrameGap | .svcEnNHigh
  | .factoryKeyPresented | .partialRecordDiscard _ _ | .lockstepMismatch | .processorWatchdogExpire
  | .memoryEccError _ _ _ | .memoryScrubPass _ _ | .crossingTimeout _ _ _ | .crossingProbe _ _
  | .crossingPulseSaturate _ | .settleWindowClose _ | .errHoldExpire _ | .errDynToggle | .lifeCounterSave
  | .lifeCellCopy | .selfcalComplete | .calStoreWriteComplete _ _ | .aoTrimTimeout _ | .lpStageComplete _
  | .imgVerifyComplete _ | .attestComplete => true
  | .getInfo _ ws | .setMode _ ws | .getStatus _ ws | .abort _ ws | .reset _ ws | .quiesce _ ws | .setTick _ ws
  | .sysConfig _ ws | .chConfig _ ws | .chReadConfig _ ws | .chSetFailsafe _ ws | .chForce _ ws
  | .chClearLatch _ ws | .inputTest _ ws | .injSeqConfig _ ws | .hartTx _ ws | .hartRx _ ws | .selfcal _ ws
  | .calWrite _ ws | .calExport _ ws | .aoTrim _ ws | .calRestore _ ws _ | .lpStage _ ws | .lpActivate _ ws
  | .lpStats _ ws | .lpReadVar _ ws | .netConfig _ ws | .ptpConfig _ ws | .frameDef _ ws | .netStats _ ws
  | .casConfig _ ws | .groupConfig _ ws | .groupForward _ ws | .recConfig _ ws | .recTrigger _ ws
  | .recRead _ ws | .soeRead _ ws | .lifeRead _ ws | .clockSet _ ws | .fltConfig _ ws | .fltRead _ ws
  | .fltClear _ ws | .imgBegin _ ws | .imgBlock _ ws | .imgVerify _ ws | .imgActivate _ ws | .attest _ ws
  | .ownerEnrol _ ws _ => wordsWf ws
  | .factoryCommand _ _ | .oscillatorMonitorFail _ | .couplerDriverSupplyFault _ | .holdupStoreFailure
  | .announceReceiptTimeout _ | .svcEnNLow => true
  | .hpFrameMalformed f => decide (f.words.length * 32 ≤ f.bits)
  | .seHealthTestFail _ | .wetPulseEnd _ _ => true

end Sys2Proof
end

