-- ==== Sys2Proof/Safety.lean ====
section
/-! DEFINITION. What the statements speak of beside the machine itself: the invariant of a state, and the packet that a packet
command carries, with the modes of its row. -/

namespace Sys2Proof.Machine

open Sys2Proof

/-! ### The invariant -/

/-- A source whose clear condition reads "Event only", and FS95, is not present (R412, Table 18-1). -/
def sourcesOk (s : State) : Prop := ∀ n : Fin 96, (eventOnly n = true ∨ n.val = 95) → (s.fsrc n).present = false

/-- The masks of FS92 and FS93 hold ERR and CHIP (R419). -/
def masksOk (s : State) : Prop :=
  ∀ n : Fin 96, (n.val = 92 ∨ n.val = 93) → (s.fsrc n).maskN &&& 0x18 = 0x18 ∧ (s.fsrc n).maskS &&& 0x18 = 0x18

/-- PWR_CTL holds values of its ranges (Table 3-13). -/
def pwrOk (s : State) : Prop := s.pwr.limit ≤ 4 ∧ 60 ≤ s.pwr.thWarn ∧ s.pwr.thWarn ≤ 100

/-- The copies of the engine's data memory, and what the first frame of a program starts from, are in their canonical form. -/
def memOk (s : State) : Prop :=
  memWf s.eng.memC = true ∧ memWf s.eng.memV = true ∧ memWf s.eng.memW = true ∧ ∀ x, s.eng.start = some x → memWf x.1 = true

/-- What every step keeps. -/
structure Inv (s : State) : Prop where
  sources : sourcesOk s
  masks : masksOk s
  pwr : pwrOk s
  mem : memOk s

/-! ### Packet commands -/

/-- Source, alive counter and tag of a packet command of Tables 17-2 to 17-8. -/
def packetCtx : Instr → Option Ctx
  | .getInfo c _ | .setMode c _ | .getStatus c _ | .abort c _ | .reset c _ | .quiesce c _ | .setTick c _ | .sysConfig c _
  | .chConfig c _ | .chReadConfig c _ | .chSetFailsafe c _ | .chForce c _ | .chClearLatch c _ | .inputTest c _
  | .injSeqConfig c _ | .hartTx c _ | .hartRx c _ | .selfcal c _ | .calWrite c _ | .calExport c _ | .aoTrim c _
  | .calRestore c _ _ | .lpStage c _ | .lpActivate c _ | .lpStats c _ | .lpReadVar c _ | .netConfig c _ | .ptpConfig c _
  | .frameDef c _ | .netStats c _ | .casConfig c _ | .groupConfig c _ | .groupForward c _ | .recConfig c _ | .recTrigger c _
  | .recRead c _ | .soeRead c _ | .lifeRead c _ | .clockSet c _ | .fltConfig c _ | .fltRead c _ | .fltClear c _
  | .imgBegin c _ | .imgBlock c _ | .imgVerify c _ | .imgActivate c _ | .attest c _ | .ownerEnrol c _ _ => some c
  | _ => none

/-- The modes of a packet command's row (Tables 17-2 to 17-8); of a row with several entries, all of them. -/
def packetModes : Instr → List Nat
  | .getInfo _ _ | .getStatus _ _ | .abort _ _ | .reset _ _ | .fltRead _ _ => [1, 2, 3, 4, 5, 6, 7, 8, 9, 10, 11]
  | .lpStats _ _ => [1, 2, 3, 4, 5, 6, 7, 8, 9, 10]
  | .quiesce _ _ => [2, 3, 4, 5, 6, 7, 8, 9, 10]
  | .setMode _ _ | .selfcal _ _ | .lpStage _ _ | .groupForward _ _ | .imgVerify _ _ => [3, 4, 5, 6, 7, 9, 10]
  | .chConfig _ _ | .chSetFailsafe _ _ | .chClearLatch _ _ | .inputTest _ _ => [3, 4, 5, 6, 7, 10]
  | .recTrigger _ _ => [4, 5, 6, 7, 10]
  | .lpActivate _ _ => [3, 4, 5, 6, 7, 10]
  | .hartTx _ _ | .hartRx _ _ => [4, 5, 6, 7, 9, 10]
  | .setTick _ _ | .sysConfig _ _ | .calWrite _ _ | .calRestore _ _ _ | .netConfig _ _ | .ptpConfig _ _ | .frameDef _ _
  | .groupConfig _ _ | .recConfig _ _ | .fltConfig _ _ => [3]
  | .chForce _ _ => [10]
  | .aoTrim _ _ => [3, 10]
  | .imgBegin _ _ | .imgBlock _ _ | .ownerEnrol _ _ _ => [9]
  | .imgActivate _ _ => [3, 7, 9]
  | _ => [3, 4, 5, 6, 7, 8, 9, 10]

/-- The commands that the recovery loader names (R469). -/
def recoveryCommand : Instr → Bool
  | .imgBegin _ _ | .imgBlock _ _ | .imgVerify _ _ | .imgActivate _ _ => true
  | _ => false

end Sys2Proof.Machine
end

