-- ==== Sys2Proof/Certificates/Slice0/Obligations.lean ====
section
/-! DEFINITION. The statements for the provers. Each equation names the operations of the machine that carry a command out, so it
says both what the command changes and that nothing else changes. -/

open Sys2Proof Sys2Proof.Machine

/-! ### Binary inputs (chapter 7) -/

/-- R154: a raw edge of a DI cell that runs no test. An edge back to STATE abandons the candidate; the first edge away from STATE
opens one with the time of that edge; while one is open it keeps its time; with the debounce of its direction at 0 it is
accepted at once. The cell wakes; the wetting pulse (R151), the event frame (R159) and the end of OPEN (R153) follow. A level
that is already the raw input, and an edge during a test or at a cell that is not a running DI, change nothing. R154: when the
debounce time of an open candidate ends, STATE takes the raw value with the candidate's time, and no candidate is open; without
a candidate nothing changes. Only the cell and, when STATE becomes 1, its OPEN condition change. (Choices of the model it rests
on: logs 116 and 124.) -/
def Obligations.DiEdges : Prop :=
  (∀ (s : State) (ch : Ch) (rising : Bool) (age : Nat),
      isDi s ch = true → (s.cell ch).di.test = false → (s.cell ch).di.raw ≠ rising →
      let c := s.cell ch
      let d := { c.di with raw := rising }
      let dropped := { c with di := { d with cand := none, candOpen := false, candLate := false, candTest := false } }
      let opened := { c with di := { d with cand := edgeTime s c age, candOpen := true, candLate := edgeLate s c age, candTest := false } }
      let done (x : Cell) : Host.Outcome State Fault Refusal :=
        .next (diOpenByState ch (s.modCell ch fun _ => cellLaunch s.clk (diWet s.clk { x with pstate := 0 })))
      (rising = c.di.st → exec (.diRawEdge ch rising age) s = done dropped) ∧
      (rising ≠ c.di.st → c.di.candOpen = false → diDebNs opened ≠ 0 → exec (.diRawEdge ch rising age) s = done opened) ∧
      (rising ≠ c.di.st → c.di.candOpen = false → diDebNs opened = 0 →
        exec (.diRawEdge ch rising age) s = done (diAccept s.clk opened)) ∧
      (rising ≠ c.di.st → c.di.candOpen = true → diDebNs { c with di := d } ≠ 0 →
        exec (.diRawEdge ch rising age) s = done { c with di := d }) ∧
      (rising ≠ c.di.st → c.di.candOpen = true → diDebNs { c with di := d } = 0 →
        exec (.diRawEdge ch rising age) s = done (diAccept s.clk { c with di := d }))) ∧
  (∀ (s : State) (ch : Ch) (rising : Bool) (age : Nat),
      isDi s ch = false ∨ (s.cell ch).di.test = true ∨ (s.cell ch).di.raw = rising →
      exec (.diRawEdge ch rising age) s = .next s) ∧
  (∀ (s : State) (ch : Ch), isDi s ch = true → (s.cell ch).di.candOpen = true →
      ∃ t, exec (.debounceExpire ch) s = .next t ∧ (t.cell ch).di.st = (s.cell ch).di.raw ∧
        (t.cell ch).di.lastEdge = (s.cell ch).di.cand ∧ (t.cell ch).di.candOpen = false ∧
        (t.cell ch).di.edge = true ∧ (∀ k, k ≠ ch → t.cell k = s.cell k) ∧
        ((s.cell ch).di.raw = false → t = s.modCell ch fun c => cellLaunch s.clk (diAccept s.clk { c with pstate := 0 }))) ∧
  (∀ (s : State) (ch : Ch), isDi s ch = false ∨ (s.cell ch).di.candOpen = false → exec (.debounceExpire ch) s = .next s)

/-- R151 to R153, R156, R159, R199, Table 7-7: the timers of a DI cell, and of the supply of an AII cell. The end of chatter
suppression, space in the event queue, the end of a wetting pulse, the sensor supply's retry, and the conditions OPEN,
SENSOR_SHORT and OVERRANGE. SENSOR_SHORT does not set with the supply off, nor in a wetting pulse of DI and 0.5 ms after it.
Each changes its cell alone, or starts or ends its one condition; at a cell that is not a running DI the timers of DI change
nothing. (Choices of the model it rests on: logs 36, 124 and 146.) -/
def Obligations.DiTimers : Prop :=
  ∀ (s : State) (ch : Ch),
    (isDi s ch = true →
      exec (.chatterQuietExpire ch) s = .next (s.modCell ch fun c => cellLaunch s.clk (diChatterEnd s { c with pstate := 0 })) ∧
      exec (.eventQueueSpace ch) s = .next (s.modCell ch fun c => cellLaunch s.clk { c with di := diLostSummary c.di }) ∧
      exec (.wetPulseEnd ch true) s = .next (s.modCell ch fun c => { c with di := { c.di with wetIgnore := false } }) ∧
      exec (.wetPulseEnd ch false) s = .next (s.modCell ch fun c => { c with di := { c.di with wetUntil := none } }) ∧
      (∀ out, exec (.diOverrangeTimer ch out) s = .next (condSet ch cbOverrange out s)) ∧
      exec (.wireBreakTimeout ch true) s = .next (condOff ch cbOpen s) ∧
      exec (.wireBreakTimeout ch false) s =
        .next (if cpar (s.cell ch) 0x00070108 0 = 1 ∧ (s.cell ch).di.st = false then condOn ch cbOpen s else s)) ∧
    (isDi s ch = false → exec (.chatterQuietExpire ch) s = .next s ∧ exec (.eventQueueSpace ch) s = .next s ∧
      ∀ b, exec (.wetPulseEnd ch b) s = .next s ∧ exec (.diOverrangeTimer ch b) s = .next s ∧
        exec (.wireBreakTimeout ch b) s = .next s) ∧
    ((s.cell ch).running = true →
      exec (.sensorShortDetect ch true) s = .next (condOff ch cbSensorShort s) ∧
      (supplyOn (s.cell ch) = true →
        (((s.cell ch).func = .di → (s.cell ch).di.wetIgnore = false) →
          exec (.sensorShortDetect ch false) s = .next (condOn ch cbSensorShort s)) ∧
        ((s.cell ch).func = .di → (s.cell ch).di.wetIgnore = true → exec (.sensorShortDetect ch false) s = .next s) ∧
        ∀ on, exec (.sensorSupplyRetry ch on) s = .next (s.modCell ch fun c => { c with di := { c.di with supOff := !on } })) ∧
      (supplyOn (s.cell ch) = false → exec (.sensorShortDetect ch false) s = .next s ∧
        ∀ on, exec (.sensorSupplyRetry ch on) s = .next s)) ∧
    ((s.cell ch).running = false → ∀ b, exec (.sensorShortDetect ch b) s = .next s ∧ exec (.sensorSupplyRetry ch b) s = .next s)

/-! ### Switch outputs (chapter 8) -/

/-- R169 to R172, R176 to R179, R185, R187, R195: what the timers and the supply of a switch output do: the inrush window closes
after a largest current, with LIMIT and the inrush event of the turn-on settled; the retry delay passes; the clamp of any cell
ends; the thermal latch releases, in XSD only with the proxy cool; the interlock and the supply of a DO cell follow P, and the
proxy of an XSD cell moves, tripping or releasing at the limits of Table 8-2. Nothing outside the cell and the named
condition changes. (Choices of the model it rests on: logs 36 and 61.) -/
def Obligations.SwitchTimers : Prop :=
  (∀ (s : State) (ch : Ch), exec (.clampWindowEnd ch) s = .next (s.modCell ch fun c => { c with sw := { c.sw with clamp := false } })) ∧
  ∀ (s : State) (ch : Ch), isSwCell s ch = true →
    (∀ pk, (s.cell ch).sw.inrush = true → exec (.inrushWindowClose ch pk) s = .next (s.modCell ch (inrushClose pk))) ∧
    (∀ pk, (s.cell ch).sw.inrush = false → exec (.inrushWindowClose ch pk) s = .next s) ∧
    exec (.retryDelayExpire ch) s = .next (s.modCell ch fun c => { c with sw := { c.sw with retryOk := true } }) ∧
    (junctionCool (s.cell ch) = true → exec (.thermalLatchRelease ch) s = .next (swThermalOn ch s)) ∧
    (junctionCool (s.cell ch) = false → exec (.thermalLatchRelease ch) s = .next s) ∧
    ((s.cell ch).func = .dout →
      (∀ absent, exec (.overvoltDetect ch absent) s =
        .next (condSet ch cbOvervolt (!absent) (s.modCell ch fun c => { c with sw := { c.sw with ov := !absent } }))) ∧
      ∀ p, exec (.supplyDip ch p) s = .next (swSupply ch p s) ∧ exec (.supplyReturn ch p) s = .next (swSupply ch p s)) ∧
    ((s.cell ch).func = .xsd →
      (∀ i, let t := (proxyUpdate i (s.cell ch)).sw.tPx
        let s1 := s.modCell ch (proxyUpdate i)
        (175 * 64 ≤ t → exec (.xsdProxyUpdate ch i) s = .next (swThermalOff ch s1)) ∧
        (140 * 64 ≤ t → t < 175 * 64 → exec (.xsdProxyUpdate ch i) s = .next s1) ∧
        (t < 140 * 64 → exec (.xsdProxyUpdate ch i) s = .next (if (s.cell ch).sw.thl then swThermalOn ch s1 else s1))) ∧
      ∀ b p, exec (.overvoltDetect ch b) s = .next s ∧ exec (.supplyDip ch p) s = .next s ∧ exec (.supplyReturn ch p) s = .next s)

/-- R171, R172, R173, R179, R182, R191: a switch that is on turns off at once when its current limit has regulated for LIM_TIME
outside the inrush window, on its thermal shutdown, and on reverse current, with the latch and the condition of each; off, the
same causes end a supervision pulse without a result. A thermal shutdown of XSD needs a hot proxy. A dip longer than DIP_MEM is
SUPPLY_LOSS. (Choices of the model it rests on: logs 35 and 36.) -/
def Obligations.SwitchProtection : Prop :=
  ∀ (s : State) (ch : Ch), isSwCell s ch = true →
    ((s.cell ch).sw.on = true →
      ((s.cell ch).sw.inrush = false → ∃ t, exec (.doLimitTimeout ch) s = .next t ∧ (t.cell ch).sw.on = false ∧
        t = swProtectiveOff ch (if hasCond (s.cell ch) cbOvercurrent then s else condPulse ch cbOvercurrent s)) ∧
      ((s.cell ch).sw.thl = false → junctionHot (s.cell ch) = true →
        ∃ t, exec (.switchThermalShutdown ch) s = .next t ∧ (t.cell ch).sw.on = false ∧
          t = swProtectiveOff ch (condOn ch cbThermal
            (s.modCell ch fun c => lifeAdd 4 1 { c with sw := { c.sw with thl := true } }))) ∧
      ∃ t, exec (.backfeedDetect ch) s = .next t ∧ (t.cell ch).sw.on = false ∧
        t = condOn ch cbBackfeed (swOffConds ch (s.modCell ch fun c =>
          { swProtect s c with sw := { (swProtect s c).sw with platch := true } }))) ∧
    ((s.cell ch).sw.on = false →
      exec (.backfeedDetect ch) s = .next (s.modCell ch tcsAbandon) ∧
      exec (.doLimitTimeout ch) s = .next (if (s.cell ch).sw.tcsRun then s.modCell ch tcsAbandon else s)) ∧
    ((s.cell ch).sw.thl = true ∨ junctionHot (s.cell ch) = false → exec (.switchThermalShutdown ch) s = .next s) ∧
    ((s.cell ch).func = .dout → (s.cell ch).sw.band = 0 →
      exec (.dipMemExpire ch) s = .next (condOn ch cbSupplyLoss (s.modCell ch fun c =>
        { c with sw := { c.sw with needOff := c.sw.needOff || (cpar c 0x00080110 0 == 1 && c.sw.cmd) } }))) ∧
    ((s.cell ch).func = .xsd ∨ (s.cell ch).sw.band ≠ 0 → exec (.dipMemExpire ch) s = .next s)

/-- R181, Table 8-6, R188 to R190: the timed diagnoses of a switch output end as their rows say; GATE and SHORT_GND act through
OVERCURRENT. A supervision pulse starts when R188 permits it, and only then; its end counts or clears TCS_FAIL, and without a
pulse its end does nothing. (Choices of the model it rests on: log 36.) -/
def Obligations.SwitchDiagnosisAndSupervision : Prop :=
  ∀ (s : State) (ch : Ch), isSwCell s ch = true →
    (∀ d, exec (.doDiagTimer ch d true) s = .next (swDiagClear ch d s)) ∧
    (∀ d, exec (.doDiagTimer ch d false) s = .next (swDiagSet ch d s)) ∧
    (tcsMayStart s ch = true → exec (.tcsPulseStart ch) s =
      .next (s.modCell ch fun c => { c with sw := { c.sw with tcsRun := true, tcsFrom := s.clk } })) ∧
    (tcsMayStart s ch = false → exec (.tcsPulseStart ch) s = .next s) ∧
    ((s.cell ch).sw.tcsRun = false → ∀ r, exec (.tcsPulseEnd ch r) s = .next s) ∧
    ((s.cell ch).sw.tcsRun = true → ∀ r,
      (tcsPass r = true → exec (.tcsPulseEnd ch r) s = .next (condOff ch cbTcsFail (s.modCell ch fun c =>
        { c with sw := { c.sw with tcsRun := false, tcsOk := true, tcsFails := 0 } }))) ∧
      (tcsPass r = false →
        let s1 := s.modCell ch fun c =>
          { c with sw := { c.sw with tcsRun := false, tcsOk := false, tcsFails := satAdd 4 c.sw.tcsFails 1 } }
        exec (.tcsPulseEnd ch r) s =
          .next (if cpar (s.cell ch) 0x00080119 2 ≤ satAdd 4 (s.cell ch).sw.tcsFails 1 then condOn ch cbTcsFail s1 else s1)))

/-! ### Analogue inputs (chapter 9) -/

/-- R198, R200, R204, R209: the checks of an analogue input. OVERRANGE follows its timer where the result lies as far out, or within,
as R200 asks; one failing replica cycle alone leaves SUSPECT as it was, a second in a row sets it, and TEST_FAIL follows; the
AII shunt opens with OVERCURRENT, closes at a marker with the filter restarted, and the condition ends only with the shunt
connected. (Choices of the model it rests on: log 36.) -/
def Obligations.AnalogueInputChecks : Prop :=
  ∀ (s : State) (ch : Ch), isAiCell s ch = true →
    exec (.aiOverrangeTimer ch true) s = .next (if aiFarOut (s.cell ch) then condOn ch cbOverrange s else s) ∧
    exec (.aiOverrangeTimer ch false) s = .next (if aiWithin (s.cell ch) then condOff ch cbOverrange s else s) ∧
    (∀ lo hi zero, (1000 < lo.natAbs ∨ 1000 < hi.natAbs ∨ 100 < zero.natAbs) →
      ∃ s1, exec (.replicaCycleEnd ch lo hi zero) s = .next (refreshTestFail ch s1) ∧
        (s1.cell ch).ai.repGood = 0 ∧ (s1.cell ch).ai.repBad = satAdd 2 (s.cell ch).ai.repBad 1 ∧
        (s1.cell ch).ai.suspect = ((s.cell ch).ai.suspect || decide (1 ≤ (s.cell ch).ai.repBad)) ∧
        ∀ k, k ≠ ch → s1.cell k = s.cell k) ∧
    (∀ lo hi zero, lo.natAbs ≤ 1000 → hi.natAbs ≤ 1000 → zero.natAbs ≤ 100 →
      ∃ s1, exec (.replicaCycleEnd ch lo hi zero) s = .next (refreshTestFail ch s1) ∧
        (s1.cell ch).ai.repBad = 0 ∧ (s1.cell ch).ai.repGood = satAdd 2 (s.cell ch).ai.repGood 1 ∧
        (s1.cell ch).ai.suspect = ((s.cell ch).ai.suspect && decide ((s.cell ch).ai.repGood = 0)) ∧
        ∀ k, k ≠ ch → s1.cell k = s.cell k) ∧
    ((s.cell ch).func = .aii →
      exec (.shuntDisconnect ch) s =
        .next (condOn ch cbOvercurrent (s.modCell ch fun c => { c with ai := { c.ai with shuntOpen := true } })) ∧
      ((s.cell ch).ai.shuntOpen = true → exec (.shuntReconnect ch false) s =
          .next (s.modCell ch fun c => aiRestart 0 { c with ai := { c.ai with shuntOpen := false } }) ∧
        exec (.shuntReconnect ch true) s = .next s) ∧
      ((s.cell ch).ai.shuntOpen = false → exec (.shuntReconnect ch true) s = .next (condOff ch cbOvercurrent s) ∧
        exec (.shuntReconnect ch false) s = .next s))

/-- R208, R225, R230: each reference conversion of an analogue input, and of a current output whose clock step keeps the check, enters
the deviation of the measured ratio (in 0.01 ppm) among the last 16; a mean beyond 30 ppm sets REF_WARN, one of at most 25 ppm
ends it; a mean beyond 200 ppm or one deviation beyond 1000 ppm sets REF_FAIL, and it ends when the mean is at most 150 ppm and
no deviation of the 16 is beyond 1000 ppm. (Choices of the model it rests on: logs 36 and 141.) -/
def Obligations.ReferenceCheck : Prop :=
  ∀ (s : State) (ch : Ch) (ratio : Int),
    (s.cell ch).running = true →
    (isAi (s.cell ch).func = true ∨ (s.cell ch).func = .aoa ∨ ((s.cell ch).func = .aop ∧ (s.cell ch).ao.clk < 4)) →
    ∃ s1, (s1.cell ch).ai.devs = (refDev (s.cell ch) ratio :: (s.cell ch).ai.devs).take 16 ∧ (∀ k, k ≠ ch → s1.cell k = s.cell k) ∧
      s1.srcs = s.srcs ∧ s1.evt = s.evt ∧
      let dev := refDev (s.cell ch) ratio
      let m := (refMean (s1.cell ch).ai).natAbs
      let s2 := if 3000 < m then condOn ch cbRefWarn s1 else if m ≤ 2500 then condOff ch cbRefWarn s1 else s1
      (20000 < m ∨ 100000 < dev.natAbs → exec (.refbConversion ch ratio) s = .next (condOn ch cbRefFail s2)) ∧
      (m ≤ 15000 → (∀ d ∈ (s1.cell ch).ai.devs, d.natAbs ≤ 100000) →
        exec (.refbConversion ch ratio) s = .next (condOff ch cbRefFail s2)) ∧
      (m ≤ 20000 → dev.natAbs ≤ 100000 → (15000 < m ∨ ∃ d ∈ (s1.cell ch).ai.devs, 100000 < d.natAbs) →
        exec (.refbConversion ch ratio) s = .next s2)

/-- R162, R204, R210: the end of an input test. A DI test connects Q again, a raw input that differs from STATE counting as an edge
with the TEST flag, compares the thresholds found with the settings and completes INPUT_TEST with them; an analogue test
restarts the filter and completes with its two levels. Without a running test nothing changes. (Choices of the model it rests
on: logs 44 and 114.) -/
def Obligations.InputTestEnds : Prop :=
  ∀ (s : State) (ch : Ch) (lo hi : Int) (rawAfter : Bool),
    ((s.cell ch).running = false ∨ (s.cell ch).di.test = false → exec (.inputTestEnd ch lo hi rawAfter) s = .next s) ∧
    ((s.cell ch).running = true → (s.cell ch).di.test = true →
      ((s.cell ch).func = .di →
        let pass := thresholdOk hi (cpar (s.cell ch) 0x00070102 110) && thresholdOk lo (cpar (s.cell ch) 0x00070103 90)
        exec (.inputTestEnd ch lo hi rawAfter) s =
          .next (testComplete ch pass [packWord [(0, 16, intBits 16 hi), (16, 16, intBits 16 lo)]] (testVerdict ch pass
            (diRawEdge ch rawAfter true 0
              (s.modCell ch fun c => { c with di := { c.di with test := false, raw := c.di.st } }))))) ∧
      ((s.cell ch).func ≠ .di →
        let pass := levelOk (s.cell ch).func lo 10 && levelOk (s.cell ch).func hi 90
        exec (.inputTestEnd ch lo hi rawAfter) s =
          .next (testComplete ch pass [intWord lo, intWord hi] (testVerdict ch pass
            (s.modCell ch fun c => aiRestart 1 { c with di := { c.di with test := false } })))))

/-- R212 to R217, R370: the injected sequence and its result pair. A trigger symbol that has reached a cell with INJ_EN = ON starts
or queues a sequence, without one nothing happens; an entry's result waits for its EVENT frame; reading INJ_VAL freezes the
pair; reading INJ_STAT, or the timeout, ends the freeze and loads the pending result, the timeout with TMO. Each changes the
injection state of its cell alone. R217: the pair across a freeze. A result that arrives during a freeze is not visible until
the freeze ends; then NEW is 1, and TMO is 1 exactly after the timeout; a second result that arrives during the freeze replaces
the first with OVR = 1; LOST reads the same throughout. (Choices of the model it rests on: log 43.) -/
def Obligations.InjectedSequence : Prop :=
  (∀ (s : State) (ch : Ch),
      exec (.injValRead ch) s = .next (s.modCell ch fun c => { c with inj := injValRead s.clk c.inj }) ∧
      exec (.injStatRead ch) s = .next (s.modCell ch fun c => { c with inj := injStatTaken c.inj }) ∧
      ((s.cell ch).inj.frozen.isSome = true →
        exec (.injFreezeTimeout ch) s = .next (s.modCell ch fun c => { c with inj := injUnfreeze true c.inj })) ∧
      ((s.cell ch).inj.frozen = none → exec (.injFreezeTimeout ch) s = .next s) ∧
      (isAiCell s ch = true → (s.cell ch).inj.en = true → (s.cell ch).lane.state = .up → 0 < (s.cell ch).lane.trigs →
        exec (.injTrigger ch) s = .next (s.modCell ch fun c =>
          { c with inj := injTrigger s.clk c.cal.busy c.inj, lane := { c.lane with trigs := c.lane.trigs - 1 } })) ∧
      (isAiCell s ch = false ∨ (s.cell ch).inj.en = false ∨ (s.cell ch).lane.state ≠ .up ∨ (s.cell ch).lane.trigs = 0 →
        exec (.injTrigger ch) s = .next s) ∧
      (isAiCell s ch = true → (s.cell ch).inj.running = true → ∀ raw,
        exec (.injEntryResult ch raw) s = .next (s.modCell ch (injEntry s.clk raw))) ∧
      (isAiCell s ch = true → (s.cell ch).inj.running = false → (injSettle s.clk (s.cell ch).inj).running = false → ∀ raw,
        exec (.injEntryResult ch raw) s = .next (s.modCell ch fun c => { c with inj := injSettle s.clk c.inj }))) ∧
  (∀ (j : InjSt) (clk : Nat) (r1 r2 : Word × Word), j.pend = none → j.frozen = none → j.ovr = false →
      let f := injArrive r1 (injValRead clk j)
      (f.val = j.val ∧ f.stat = j.stat) ∧
      (∀ n, injStatRead { f with lost := n } = injStatRead (injValRead clk j)) ∧
      ((injUnfreeze true f).val = r1.1 ∧ bitOf (injUnfreeze true f).stat 0 = true ∧ bitOf (injUnfreeze true f).stat 2 = true ∧
        (injUnfreeze true f).frozen = none) ∧
      ((injStatTaken f).val = r1.1 ∧ (injStatTaken f).stat = (r1.2 ||| 1)) ∧
      (injArrive r2 f).val = j.val ∧ (injArrive r2 f).stat = j.stat ∧ (injStatTaken (injArrive r2 f)).val = r2.1 ∧
      bitOf (injStatTaken (injArrive r2 f)).stat 1 = true)

/-! ### Current outputs and HART (chapter 10) -/

/-- R228, R229, R231, R233 to R235: the protections and diagnoses of a current output. The thermal limit lowers the applied
current to 3.6 mA or below at its own instant and leaves the target; EXT_VOLTAGE turns an on stage off; an AOP cell whose
measured current falls takes the clock step of the lower band at once. COMPLIANCE and OPEN follow their timers where the
measured current is as R233 and R234 ask. Conditions and a shed HART exchange follow. (Choices of the model it rests on: logs 36
and 117.) -/
def Obligations.CurrentOutputProtection : Prop :=
  ∀ (s : State) (ch : Ch), isAoCell s ch = true →
    ((s.cell ch).ao.thlim = false → exec (.aoThermalLimit ch) s = .next (hartShed ch (aoOpenByCurrent ch
      ((condOn ch cbThermal (s.modCell ch fun c => { c with ao := { c.ao with thlim := true }, pstate := 0 })).modCell ch fun c =>
        driveDac (aopClock { c with ao := { c.ao with
          applied := min c.ao.applied 3600000, moved := c.ao.moved || decide (3600000 < c.ao.applied) } }))))) ∧
    ((s.cell ch).ao.thlim = true → exec (.aoThermalLimit ch) s = .next s) ∧
    exec (.aoThermalRelease ch) s =
      .next (condOff ch cbThermal (s.modCell ch fun c => { c with ao := { c.ao with thlim := false } })) ∧
    (∀ b, (s.cell ch).ao.deficit = b → exec (.complianceTimer ch b) s = .next (condSet ch cbCompliance b s)) ∧
    (∀ b, (s.cell ch).ao.deficit ≠ b → exec (.complianceTimer ch b) s = .next s) ∧
    ((s.cell ch).func = .aoa →
      ((s.cell ch).ao.applied ≤ 2 * (s.cell ch).ao.iMeas → exec (.aoaOpenDetect ch true) s = .next (condOff ch cbOpen s)) ∧
      (2 * (s.cell ch).ao.iMeas < (s.cell ch).ao.applied → exec (.aoaOpenDetect ch true) s = .next s) ∧
      (1000000 ≤ (s.cell ch).ao.applied → (s.cell ch).ao.iMeas < 200000 → (s.cell ch).ao.sat = true →
        exec (.aoaOpenDetect ch false) s = .next (condOn ch cbOpen s)) ∧
      ((s.cell ch).ao.applied < 1000000 ∨ 200000 ≤ (s.cell ch).ao.iMeas ∨ (s.cell ch).ao.sat = false →
        exec (.aoaOpenDetect ch false) s = .next s) ∧
      exec (.aoaExtVoltage ch true) s =
        .next (s.modCell ch fun c => { c with ao := { c.ao with extRel := hasCond c cbExtVoltage } }) ∧
      exec (.aoaExtVoltage ch false) s = .next (condOn ch cbExtVoltage (s.modCell ch fun c => driveDac { c with
        ao := { c.ao with extOff := c.ao.extOff || decide (0 < c.ao.applied), extRel := false } })) ∧
      ((s.cell ch).src = 1 → ∀ low, exec (.aoaLowSupply ch low) s = .next (condSet ch cbSupplyLow low s)) ∧
      ((s.cell ch).src ≠ 1 → ∀ low, exec (.aoaLowSupply ch low) s = .next s)) ∧
    ((s.cell ch).func = .aop → ∀ m : Nat, exec (.aopStepDown ch m) s = .next (hartShed ch (s.modCell ch fun c =>
      { c with ao := { c.ao with iMeas := m, clk := max c.ao.clk (clkBand m), stepUp := none } })))

/-- R238 to R241: a HART exchange. It transmits when the line is quiet, or ends with NO_CURRENT; then it waits; the wait ends
with TIMEOUT or with a reply, stored and completed with OK, or with HART_RXERR; a burst frame is stored with BURST = ON; any
other frame, and any received while reception is off, is dropped. (Choices of the model it rests on: log 45.) -/
def Obligations.HartExchange : Prop :=
  ∀ (s : State) (ch : Ch),
    (hartAt s ch .waitQuiet = true →
      (hartNoCurrent (s.cell ch) = true → exec (.hartQuietElapsed ch) s = .next (hartEnd ch stFault rcHartNoCur s)) ∧
      (hartNoCurrent (s.cell ch) = false →
        exec (.hartQuietElapsed ch) s = .next (hartShed ch (hartPhase ch .transmitting s)))) ∧
    (hartAt s ch .transmitting = true → exec (.hartTxEnd ch) s = .next (hartShed ch (hartPhase ch .waitReply s))) ∧
    (hartAt s ch .waitReply = true → exec (.hartReplyTimeout ch) s = .next (hartEnd ch stTimeout 0 s)) ∧
    (∀ bytes age pOk lOk,
      let c := s.cell ch
      let good := pOk && hartFrameOk bytes && lOk
      (hartReceives c = true → hartType bytes = 6 → hartAt s ch .waitReply = true →
        exec (.hartFrameReceived ch bytes age pOk lOk) s = .next (hartReply ch ⟨false, s.now - age, bytes.dropLast⟩ good s)) ∧
      (hartReceives c = true → hartType bytes = 1 → good = true → cpar c 0x000A010D 0 = 1 →
        exec (.hartFrameReceived ch bytes age pOk lOk) s = .next (s.modCell ch fun c =>
          { c with hart := hartStore ⟨true, s.now - age, bytes.dropLast⟩ c.hart })) ∧
      (hartReceives c = false ∨ ¬ (hartType bytes = 6 ∧ hartAt s ch .waitReply = true) ∧
          ¬ (hartType bytes = 1 ∧ good = true ∧ cpar c 0x000A010D 0 = 1) →
        exec (.hartFrameReceived ch bytes age pOk lOk) s = .next s))

/-! ### Cells: power, resets, watchdog (chapter 6) -/

/-- R41, R49 to R52, R133, R136, R232: a cell powers up from the source its configuration gives it: its coupler, once the couplers
run, its field supply or its loop; it resets by itself with the cause of Table 6-13; the loss of a field supply or of the loop
leaves the cell it powers without power, and a cell on INT as it was; its power state follows the horizon (Table 6-2). R137,
R143: when the lane stage of a running cell expires, or its HOLD_TIME does, WD becomes EXPIRED with WD_LANE; an output cell goes
to its safe state. An OUT frame that passes its check waits for its marker; any other is discarded (R124, R128). (Choices of the
model it rests on: logs 37, 38, 116, 123, 138 and 140.) -/
def Obligations.CellPowerAndWatchdog : Prop :=
  (∀ (s : State) (ch : Ch),
      (sourceAllowed (s.cell ch) 1 = true → exec (.cellPowerUp ch true) s = .next (powerUpCell ch 1 s)) ∧
      (sourceAllowed (s.cell ch) 0 = true → s.pwr.couplers = true → exec (.cellPowerUp ch false) s = .next (powerUpCell ch 0 s)) ∧
      (sourceAllowed (s.cell ch) 0 = false ∨ s.pwr.couplers = false → exec (.cellPowerUp ch false) s = .next s) ∧
      (sourceAllowed (s.cell ch) 1 = false → exec (.cellPowerUp ch true) s = .next s) ∧
      (sourceAllowed (s.cell ch) 2 = true → exec (.aopLoopPowerUp ch) s = .next (powerUpCell ch 2 s)) ∧
      (sourceAllowed (s.cell ch) 2 = false → exec (.aopLoopPowerUp ch) s = .next s) ∧
      ((s.cell ch).powered = true →
        (∀ why, ∃ t, exec (.cellReset ch why) s = .next t ∧ (t.cell ch).running = false ∧ (t.cell ch).sw.on = false ∧
          (t.cell ch).committed = false ∧ (t.cell ch).wd = .normal ∧ (t.cell ch).rstFlag = true ∧
          (t.cell ch).whyNext = why.toNat ∧ (t.cell ch).func = .off) ∧
        (∃ t, exec (.wdSeqExpire ch) s = .next t ∧ (t.cell ch).running = false ∧ (t.cell ch).whyNext = 2 ∧
          (t.cell ch).rstFlag = true) ∧
        ((s.cell ch).src ≠ 0 → ∃ t, exec (.cellSupplyLoss ch) s = .next t ∧ (t.cell ch).powered = false ∧
          (t.cell ch).whyNext = 3 ∧ (t.cell ch).committed = false)) ∧
      ((s.cell ch).src = 0 → exec (.cellSupplyLoss ch) s = .next s) ∧
      ((s.cell ch).running = true → ∀ h, exec (.cellPowerStateEnter ch h) s = .next (s.modCell ch fun c =>
        { c with pstate := if h < 1000 then 1 else if h < 20000 then 2 else 3 }))) ∧
  (∀ (s : State) (ch : Ch), (s.cell ch).running = true →
      ((s.cell ch).wd = .normal → exec (.wdLaneExpire ch) s = .next (wdExpire ch s)) ∧
      ((s.cell ch).wd = .holdover → exec (.holdoverExpire ch) s = .next (wdExpire ch s)) ∧
      ((s.cell ch).wd ≠ .normal → exec (.wdLaneExpire ch) s = .next s) ∧
      ((s.cell ch).wd ≠ .holdover → exec (.holdoverExpire ch) s = .next s) ∧
      (isOut (s.cell ch).func = false →
        wdExpire ch s = condOn ch cbWdLane (s.modCell ch fun c => { c with wd := .expired, pstate := 0 })) ∧
      (∀ r o, rxFrame r = some (.out o) → (s.cell ch).lane.state = .up →
        exec (.outFrameReceived ch r) s = .next (s.modCell ch fun c => { c with out := some o, pstate := 0 })) ∧
      (∀ r, rxFrame r = none → exec (.outFrameReceived ch r) s = .next (s.modCell ch fun c => c)))

/-- R144, R247 to R249, R255, R260: STATUS frames start on a lane that is UP, or wait their turn, and fill CELL_TEMP and CELL_SUPPLY;
self-calibration of a cell ends with SELF_OK or CAL_FAIL; SELFCAL completes once no named cell is left; a written calibration
entry becomes current or the previous one stays with STORE; an abandoned trim completes with TIMEOUT. (Choices of the model it
rests on: logs 41 and 128.) -/
def Obligations.CellStatusAndCalibration : Prop :=
  ∀ (s : State) (ch : Ch),
    ((s.cell ch).running = true → (s.cell ch).lane.state = .up →
      exec (.statusSend ch) s =
        .next (s.modCell ch fun c => { c with lane := startUp ⟨.status, 0, 1, s.clk⟩ c.lane })) ∧
    ((s.cell ch).lane.state = .up → (∀ x, (s.cell ch).lane.up = some x → frameType x.frame = frameType .status) →
      ∀ d w p m, exec (.statusReceived ch d w p m true) s = .next (s.modCell ch fun c => endUp s.clk { c with
        dieT := d, swT := w, pV := p * 20
        temp := packWord [(0, 16, intBits 16 d), (16, 16, intBits 16 w)]
        supply := packWord [(0, 16, intBits 16 p), (16, 16, m)] })) ∧
    (∀ d w p m, exec (.statusReceived ch d w p m false) s = .next s) ∧
    (∀ fs, exec (.cellSelfcalComplete ch fs) s = .next (rejoinLoaded ch (cellSelfcalDone ch fs s))) ∧
    (∀ o, (s.ops.find? fun x => x.ref.opcode == 0x30 && x.left == 0) = some o →
      (o.bad = 0 → exec .selfcalComplete s = .next (finishOp o.ref stOk 0 [] s)) ∧
      (o.bad ≠ 0 → exec .selfcalComplete s = .next (finishOp o.ref stFault (selfcalReason o) [o.bad] s))) ∧
    (∀ p, (s.cell ch).cal.pendW = some p →
      exec (.calStoreWriteComplete ch false) s =
        .next (finishOp p.ref stFault rcStore [] (condOn ch cbStore (s.modCell ch (endCalWrite s.clk)))) ∧
      let s1 := s.modCell ch fun c => endCalWrite s.clk { c with cal := { c.cal with
        entries := c.cal.entries.set p.entry (writtenEntry p c.cal.entries[p.entry]) } }
      exec (.calStoreWriteComplete ch true) s = .next (finishOp p.ref stOk 0 [] (condSet ch cbStore (!setOk (s1.cell ch)) s1)) ∧
        (s1.cell ch).cal.entries[p.entry] = writtenEntry p (s.cell ch).cal.entries[p.entry] ∧
        (s1.cell ch).cal.pendW = none) ∧
    ((s.cell ch).cal.pendW = none → ∀ ok, exec (.calStoreWriteComplete ch ok) s = .next s) ∧
    (∀ t, (s.cell ch).cal.trim = some t → t.writing = false → exec (.aoTrimTimeout ch) s =
      .next (finishOp t.ref stTimeout 0 [] (s.modCell ch fun c => { c with cal := { c.cal with trim := none } })))

/-! ### Coupler lanes (chapter 6) -/

/-- R60, R123, R125 to R127: a DOWN lane of a powered cell that shows commas trains; without alignment it is DOWN again; a lane
that shows no valid symbol is lost; a cell on a lane that is not UP repeats HELLO. Lane events wake the core. In every other
state of the lane these commands leave it as it is. -/
def Obligations.LaneStates : Prop :=
  ∀ (s : State) (ch : Ch),
    ((s.cell ch).powered = true → (s.cell ch).lane.state = .down →
      exec (.laneCommaDetected ch) s = .next (modLane ch (fun l => { l with state := .train, trainAt := s.clk }) s.wakeCore)) ∧
    ((s.cell ch).powered = false ∨ (s.cell ch).lane.state ≠ .down → exec (.laneCommaDetected ch) s = .next s) ∧
    ((s.cell ch).lane.state = .train →
      exec (.laneTrainTimeout ch) s = .next (modLane ch (fun l => { l with state := .down }) s.wakeCore)) ∧
    ((s.cell ch).lane.state ≠ .train → exec (.laneTrainTimeout ch) s = .next s) ∧
    ((s.cell ch).lane.state ≠ .down → ∃ t, exec (.laneSymbolLoss ch) s = .next t ∧ (t.cell ch).lane.state = .down ∧
      (t.cell ch).lane.tx = none ∧ (t.cell ch).valid = false) ∧
    ((s.cell ch).lane.state = .down → exec (.laneSymbolLoss ch) s = .next s.wakeCore) ∧
    ((s.cell ch).powered = true → (s.cell ch).lane.state ≠ .up →
      exec (.helloRepeat ch) s = .next (modLane ch (fun l => { l with up := some ⟨.hello, 0, 1, s.clk⟩ }) s)) ∧
    ((s.cell ch).powered = false ∨ (s.cell ch).lane.state = .up → exec (.helloRepeat ch) s = .next s)

/-- R81, R123, R133, R134: a HELLO that passes its check brings the lane of a powered cell UP; with the reset flag the cell
starts anew at the core (R133), without it a pending frame is launched again. A cell that runs the current microcode goes on
to rejoin and sends what waits; one without microcode is sent it; one with older microcode resets for it. A HELLO that fails
its check, on a lane that is DOWN, or repeated on a lane that is UP changes nothing. (Choices of the model it rests on: logs
76, 77 and 138.) -/
def Obligations.HelloBringsLaneUp : Prop :=
  ∀ (s : State) (ch : Ch),
    (∀ ok, ok = false ∨ (s.cell ch).powered = false ∨ (s.cell ch).lane.state = .down ∨
        ((s.cell ch).lane.state = .up ∧ (s.cell ch).rstFlag = false) → exec (.helloReceived ch ok) s = .next s) ∧
    ((s.cell ch).powered = true → (s.cell ch).lane.state = .train ∨ ((s.cell ch).lane.state = .up ∧ (s.cell ch).rstFlag = true) →
      let s1 := modLane ch (fun l => { l with state := .up, up := none, upWait := [], tx := none, txHeld := none, fails := 0 }) s.wakeCore
      let s2 := if (s.cell ch).rstFlag then helloReset ch s1 else helloResume ch s1
      let s3 := dieBack ch (reportConds ch (causeOff ch cbLane s2))
      (microcodeOld s3 ch = true → exec (.helloReceived ch true) s = .next (refreshLoss (reloadCell ch s3))) ∧
      (microcodeOld s3 ch = false → (s3.cell ch).running = true →
        exec (.helloReceived ch true) s = .next (refreshLoss ((rejoinLate ch s3).modCell ch (cellLaunch s.clk)))) ∧
      ((s3.cell ch).running = false →
        exec (.helloReceived ch true) s = .next (refreshLoss (s3.modCell ch (startUcode s.clk)))))

/-- R125, R131, Table 6-6: without ACK a frame is sent again, its SEQ unchanged, while attempts remain, and RETRY counts it; the
last attempt fails the frame. NAK and the answer timeout differ in the reason alone, and both hold in each direction. R125, R126,
R130 to R132: ACK ends a frame to the core, and the next one starts; an acknowledged HOLDOVER completes its write, an
acknowledged microcode block brings the next, CFGW, CFGR and APPLY await CFGA. A write whose answer stays out for 50 µs fails
with LANE_TIMEOUT, and the writes of a lane that does not return within 100 ms with LANE_DOWN. A CFGA with the SEQ, address and
data of the frame that awaits it confirms it, or reports that the cell store could not be written; any other is discarded.
(Choices of the model it rests on: logs 46, 138 and 139.) -/
def Obligations.LaneFramesAndAnswers : Prop :=
  (∀ (s : State) (ch : Ch) (toCell : Bool) (t : TxFrame),
      (if toCell then (s.cell ch).lane.tx else (s.cell ch).lane.up) = some t →
      (t.tries < attempts t.frame →
        let s' := modLane ch (fun l => if toCell
          then { l with retry := satAdd 8 l.retry 1, tx := some { t with tries := t.tries + 1 } }
          else { l with retry := satAdd 8 l.retry 1, up := some { t with tries := t.tries + 1 } }) s
        exec (.laneNak ch toCell) s = .next s' ∧ exec (.laneAnswerTimeout ch toCell) s = .next s') ∧
      (attempts t.frame ≤ t.tries →
        let fails := if toCell then txFails ch t.frame else upFails ch t.frame
        exec (.laneNak ch toCell) s = .next (fails rcLaneCrc s) ∧
        exec (.laneAnswerTimeout ch toCell) s = .next (fails rcLaneTimeout s))) ∧
  (∀ (s : State) (ch : Ch) (toCell : Bool),
      (if toCell then (s.cell ch).lane.tx else (s.cell ch).lane.up) = none →
      exec (.laneNak ch toCell) s = .next s ∧ exec (.laneAnswerTimeout ch toCell) s = .next s) ∧
  (∀ (s : State) (ch : Ch),
      exec (.laneAck ch false) s = .next (s.modCell ch (endUp s.clk)) ∧
      (∀ n q k a, (s.cell ch).lane.tx = some ⟨.holdover n, q, k, a⟩ →
        exec (.laneAck ch true) s = .next (confirmFrame ch s)) ∧
      (∀ n q k a, (s.cell ch).lane.tx = some ⟨.ucode n, q, k, a⟩ →
        exec (.laneAck ch true) s = .next (s.modCell ch (ucodeNext s.clk n))) ∧
      (∀ o q k a, (s.cell ch).lane.tx = some ⟨.out o, q, k, a⟩ →
        exec (.laneAck ch true) s = .next (s.modCell ch (freeTx s.clk))) ∧
      (∀ x, (s.cell ch).lane.tx = some x → (∃ a d, x.frame = .cfgw a d) ∨ (∃ a, x.frame = .cfgr a) ∨ (∃ n, x.frame = .apply n) →
        exec (.laneAck ch true) s = .next s) ∧
      ((s.cell ch).lane.tx = none → exec (.laneAck ch true) s = .next s) ∧
      ((s.cell ch).lane.write.isSome = true → (awaited (s.cell ch).lane).isSome = true → (s.cell ch).lane.state = .up →
        exec (.configWriteDeadline ch) s = .next (failWrite ch rcLaneTimeout (frameFailed ch rcLaneTimeout s))) ∧
      ((s.cell ch).lane.write = none ∨ awaited (s.cell ch).lane = none ∨ (s.cell ch).lane.state ≠ .up →
        exec (.configWriteDeadline ch) s = .next s) ∧
      ((s.cell ch).lane.state ≠ .up → exec (.configWriteLaneTimeout ch) s = .next (failWrites ch rcLaneDown s)) ∧
      ((s.cell ch).lane.state = .up → exec (.configWriteLaneTimeout ch) s = .next s) ∧
      (∀ r a d stored t w, rxFrame r = some (.cfga a d stored) → awaited (s.cell ch).lane = some t →
        (s.cell ch).lane.write = some w → (s.cell ch).lane.state = .up →
        let s1 := s.modCell ch fun c => if c.lane.up.any fun u => frameType u.frame == 0xA then endUp s.clk c else c
        (t.seq = rxSeq r → answersFrame a d t.frame = true →
          exec (.cfgaReceived ch r) s = .next (if stored then confirmFrame ch s1 else writeStoreFails ch w s1)) ∧
        (t.seq ≠ rxSeq r ∨ answersFrame a d t.frame = false → exec (.cfgaReceived ch r) s = .next s)) ∧
      (∀ r, rxFrame r = none → exec (.cfgaReceived ch r) s = .next s))

/-- R124, Tables 6-4 and 6-5: what a sender lays out as the HDR, the eight PAYLOAD bytes and the CRC-16 of a frame, the receiver
reads back as that frame, with its SEQ; a frame whose check value or symbol coding fails, whose length is not Table 6-4's or
whose TYPE is reserved is discarded, and every frame that is taken has fields in range. (The payload layout within Table 6-5
is the model's: logs 46 and 138.) -/
def Obligations.LaneFrameEncoding : Prop :=
  (∀ (f : LaneFrame) (seq : Nat), laneFields f → rxFrame (laneWire f seq) = some f ∧ rxSeq (laneWire f seq) = seq % 16) ∧
  (∀ (r : LaneRx) (f : LaneFrame), rxFrame r = some f →
      laneFields f ∧ r.coded = true ∧ r.payload.length = 8 ∧ crc16 (r.hdr :: r.payload) = r.crc ∧ frameType f = r.hdr.toNat / 16) ∧
  (∀ (r : LaneRx), r.hdr.toNat / 16 ∈ [0x0, 0x7, 0xD, 0xE, 0xF] → rxFrame r = none)

/-- R130, R131, R83: the cell end of a configuration write. A frame whose SEQ is new writes its shadow register, is read, or
makes the shadow registers ready for the next marker; a frame with the SEQ executed last is only answered again (R131); each is
answered with CFGA. A HOLDOVER that passes keeps an output cell's state for its time, once (R143). A microcode block counts, and
the last one starts the sequencer when its CRC is that of the current image. A frame that fails its check changes nothing.
(Choices of the model it rests on: logs 16, 46 and 138.) -/
def Obligations.CellConfigurationFrames : Prop :=
  ∀ (s : State) (ch : Ch) (r : LaneRx),
    (hears (s.cell ch) = true →
      (∀ a d, rxFrame r = some (.cfgw a d) → exec (.cfgwReceived ch r) s = .next (s.modCell ch fun c =>
        sendCfga s.clk (rxSeq r) a d (if c.lane.seqRx = some (rxSeq r) then c else { c with
          shadow := some ⟨assocSet a d ((c.shadow.map Shadow.regs).getD []), false⟩
          lane := { c.lane with seqRx := some (rxSeq r) }, pstate := 0 }))) ∧
      (∀ a, rxFrame r = some (.cfgr a) → exec (.cfgrReceived ch r) s = .next (s.modCell ch fun c =>
        sendCfga s.clk (rxSeq r) a (cellReg c a) (if c.lane.seqRx = some (rxSeq r) then c else { c with
          lane := { c.lane with seqRx := some (rxSeq r) }, pstate := 0 }))) ∧
      (∀ n, rxFrame r = some (.apply n) → exec (.applyReceived ch r) s = .next (s.modCell ch fun c =>
        sendCfga s.clk (rxSeq r) n 0 (if c.lane.seqRx = some (rxSeq r) then c else { applyShadow c with
          lane := { (applyShadow c).lane with seqRx := some (rxSeq r) }, pstate := 0 }))) ∧
      (∀ secs, rxFrame r = some (.holdover secs) →
        ((s.cell ch).lane.seqRx ≠ some (rxSeq r) →
          exec (.holdoverReceived ch r) s = .next ((enterHold ch secs s).modCell ch (onceBySeq (rxSeq r) id))) ∧
        ((s.cell ch).lane.seqRx = some (rxSeq r) → exec (.holdoverReceived ch r) s = .next s))) ∧
    (rxFrame r = none ∨ hears (s.cell ch) = false → exec (.holdoverReceived ch r) s = .next s ∧
      exec (.cfgwReceived ch r) s = .next (s.modCell ch id) ∧ exec (.cfgrReceived ch r) s = .next (s.modCell ch id) ∧
      exec (.applyReceived ch r) s = .next (s.modCell ch id)) ∧
    ((s.cell ch).powered = true → (s.cell ch).running = false → (s.cell ch).lane.state = .up →
      ∀ n last crc, rxFrame r = some (.ucode n) →
      let s1 := s.modCell ch fun c => { c with
        ucodeBlocks := c.ucodeBlocks + 1, lane := { c.lane with seqRx := some (rxSeq r) }, pstate := 0 }
      ((s.cell ch).lane.seqRx = some (rxSeq r) → exec (.ucodeReceived ch r last crc) s = .next s) ∧
      ((s.cell ch).lane.seqRx ≠ some (rxSeq r) →
        exec (.ucodeReceived ch r false crc) s = .next s1 ∧
        (crc = s.fw.cmcCrc → exec (.ucodeReceived ch r true crc) s = .next (condOff ch cbUcode (s1.modCell ch fun c =>
          let c := { c with ucodeBlocks := 0, ucode := crc, running := true }
          if !c.joined && decide (1 < modeNum s.md.mode) then selfcalBegin c else c))) ∧
        (crc ≠ s.fw.cmcCrc → exec (.ucodeReceived ch r true crc) s =
          .next (condOn ch cbUcode (s1.modCell ch fun c => { c with ucodeBlocks := 0 }))))) ∧
    ((s.cell ch).powered = false ∨ (s.cell ch).running = true ∨ (s.cell ch).lane.state ≠ .up ∨ rxFrame r = none →
      ∀ last crc, exec (.ucodeReceived ch r last crc) s = .next s)

/-- R127, R144, R145, R159, R215: a RESULT that passes enters the registers of its cell; one that fails both attempts leaves the
last verified value, stale; an EVENT frame delivers the oldest queue entry, the oldest injected result or a condition, and the
cell starts its next frame; on a lane that is not UP, or while a frame of another type awaits its answer, nothing is received.
(Choices of the model it rests on: logs 36 and 106.) -/
def Obligations.LaneResultsAndEvents : Prop :=
  ∀ (s : State) (ch : Ch),
    ((s.cell ch).lane.state = .up →
      (∀ r, (s.cell ch).res = some r →
        exec (.resultReceived ch true) s = .next (s.modCell ch (takeResult s.clk r)) ∧
        exec (.resultReceived ch false) s = .next (resultStale ch rcLaneCrc s)) ∧
      ((∀ x, (s.cell ch).lane.up = some x → frameType x.frame = 0x9) → ∀ ok,
        let w := s.wakeCore
        exec (.eventFrameReceived ch ok .edge) s = .next ((takeEdge ch ok w).modCell ch (endUp s.clk)) ∧
        exec (.eventFrameReceived ch ok .inj) s = .next ((takeInj ch ok w).modCell ch (endUp s.clk)) ∧
        exec (.eventFrameReceived ch true .hart) s = .next (w.modCell ch (endUp s.clk)) ∧
        exec (.eventFrameReceived ch false .hart) s = .next ((frameFailed ch rcLaneCrc w).modCell ch (endUp s.clk)) ∧
        ∀ b, (hasCond (s.cell ch) b = true →
            exec (.eventFrameReceived ch true (.cause b)) s = .next ((causeOn ch b w).modCell ch (endUp s.clk))) ∧
          (hasCond (s.cell ch) b = false →
            exec (.eventFrameReceived ch true (.cause b)) s = .next (w.modCell ch (endUp s.clk))) ∧
          exec (.eventFrameReceived ch false (.cause b)) s = .next ((frameFailed ch rcLaneCrc w).modCell ch (endUp s.clk)))) ∧
    ((s.cell ch).res = none ∨ (s.cell ch).lane.state ≠ .up → ∀ ok, exec (.resultReceived ch ok) s = .next s) ∧
    ((s.cell ch).lane.state ≠ .up ∨ (∃ x, (s.cell ch).lane.up = some x ∧ frameType x.frame ≠ 0x9) →
      ∀ ok ev, exec (.eventFrameReceived ch ok ev) s = .next s)

/-- R145: a write of 1 to a CELL_CAUSE bit clears it only when its condition is absent; bits written 0 and bits whose condition
is present stay, and nothing else changes. (Choices of the model it rests on: log 35.) -/
def Obligations.CellCauseWriteOneClears : Prop :=
  ∀ (s : State) (ch : Ch) (val : Word), ∃ t, exec (.cellCauseClear ch val) s = .next t ∧
    (∀ b : Fin 26, (t.cell ch).cause.getLsbD b.val =
      ((s.cell ch).cause.getLsbD b.val && !(bitOf val b.val && !(s.cell ch).causeNow.getLsbD b.val))) ∧
    t = s.modCell ch fun c => { c with cause := (t.cell ch).cause }

/-! ### Power, presence, resets and start-up (chapters 3 and 4) -/

/-- R45, R63, R66, R67, R82: supplies and presence. VSYS at the model's threshold or more starts BOOT with a power-on reset, unless
a power-fail sequence still runs; below it nothing happens. Loss of VSYS or of PRES_N while the module runs starts the
sequence, after QACK the hold; a module that waits starts its wait with PRES_N; a held module boots when PRES_N goes low. The
hold-up store is usable once it is charged. (Choices of the model it rests on: logs 80, 121 and 136: 17.0 V is the model's
choice within the range R45 leaves.) -/
def Obligations.SupplyAndPresence : Prop :=
  ∀ (s : State),
    (s.pwr.vsysValid = false → ∀ mv, 17000 ≤ mv →
      (s.pwr.failing = false → exec (.vsysValid mv) s = .next (powerOnReset 0 (vsysBack s))) ∧
      (s.pwr.failing = true → exec (.vsysValid mv) s = .next (vsysBack s))) ∧
    (∀ mv, s.pwr.vsysValid = true ∨ mv < 17000 → exec (.vsysValid mv) s = .next s) ∧
    (s.pwr.vsysValid = true → ∀ mv,
      let s1 := freeRtc (modPwr (noteVbat mv) s)
      (s.pwr.failing = false → isHeld s = false → s.pwr.qack = false → exec (.vsysPowerFail mv) s = .next (startPowerFail 2 s1)) ∧
      (s.pwr.failing = false → isHeld s = false → s.pwr.qack = true → exec (.vsysPowerFail mv) s = .next (holdAfterQack s1)) ∧
      (s.pwr.failing = true ∨ isHeld s = true → exec (.vsysPowerFail mv) s = .next s1)) ∧
    (s.pwr.vsysValid = false → ∀ mv, exec (.vsysPowerFail mv) s = .next s) ∧
    exec .holdupCharged s = .next { s with pwr := { s.pwr with holdupOk := s.pwr.vsysValid } } ∧
    exec .holdupStoreFailure s = .next { s with pwr := { s.pwr with holdupOk := false } } ∧
    (s.pwr.presLow = false →
      (s.pwr.vsysValid = true → isHeld s = true → s.pwr.failing = false →
        exec .presNLow s = .next (powerOnReset 1 (presDown s))) ∧
      (isHeld s = false → awaitsPresence s = true → exec .presNLow s = .next { s with
        pwr := { s.pwr with presLow := true, presSince := some s.clk }, md := { s.md with cause := 1 } }) ∧
      (isHeld s = false → awaitsPresence s = false → exec .presNLow s = .next (presDown s).wakeCore)) ∧
    (s.pwr.presLow = true → exec .presNLow s = .next s) ∧
    (s.pwr.presLow = false → exec .presNRelease s = .next s) ∧
    (s.pwr.presLow = true →
      let s1 := { s with pwr := { s.pwr with presLow := false, presSince := none, pstate := 0, wakeAt := none } }
      (awaitsPresence s = true → exec .presNRelease s = .next s1) ∧
      (awaitsPresence s = false → s.pwr.failing = false → isHeld s = false →
        exec .presNRelease s = .next (if s.pwr.qack then holdAfterQack s1 else startPowerFail 1 s1)) ∧
      (awaitsPresence s = false → s.pwr.failing = true ∨ isHeld s = true → exec .presNRelease s = .next s1))

/-- R66, R67, Table 2-5: the end of the power-fail sequence. The completion marker is written when the flush ends in time or the
hold-up store is charged, and then the life counters are saved; the module holds itself in reset with its host port closed, in
DORMANT while VBAT is present, and the SOE log and the fault histories stay. Where VSYS and PRES_N are back it boots at once.
Without a running sequence nothing happens. (Choices of the model it rests on: logs 72 and 83.) -/
def Obligations.PowerFailEnds : Prop :=
  ∀ (s : State) (inTime : Bool),
    (s.pwr.failing = false → exec (.powerFailComplete inTime) s = .next s) ∧
    (s.pwr.failing = true →
      let s1 := if inTime || s.pwr.holdupOk then modPwr (fun p => { p with marker := true }) (lifeSave s) else s
      ((s.pwr.vsysValid = false ∨ s.pwr.presLow = false) →
        ∃ t, exec (.powerFailComplete inTime) s = .next t ∧ t = holdReset s1 ∧ t.pwr.heldReset = true ∧ t.pwr.failing = false ∧
          t.pwr.marker = (inTime || s.pwr.holdupOk || s.pwr.marker) ∧ t.md.fwUp = false ∧ t.hp = {} ∧
          t.md.mode = (if s.pwr.vbatPresent then Mode.m0 else Mode.m1) ∧ t.life.saved = s1.life.saved ∧
          t.soe.mlog = s.soe.mlog ∧ ∀ n : Fin 96, (t.fsrc n).hist = (s.fsrc n).hist) ∧
      (s.pwr.vsysValid = true → s.pwr.presLow = true →
        exec (.powerFailComplete inTime) s = .next (powerOnReset (if s.pwr.failByPres then 1 else 0) (holdReset s1))))

/-- R46, R47, R57, R68, R69, Table 3-10: while the firmware runs with VSYS valid, each monitor stores what it measured and its
source follows: FS42 with VIO, FS43 with VBAT, FS41 with VSYS and the input power, FS40 with the lowest and highest VSYS of
1 ms, FS47 with the coupler power, FS44 and FS45 with the temperatures. Otherwise the monitors change nothing. Without VSYS a
brown-out of VBAT sets its latch. (Choices of the model it rests on: logs 28 and 78.) -/
def Obligations.SupplyMonitors : Prop :=
  ∀ (s : State),
    (s.pwr.vsysValid = false → exec .vbatBrownout s = .next { s with pwr := { s.pwr with brown := true } }) ∧
    (s.pwr.vsysValid = true → exec .vbatBrownout s = .next s) ∧
    (∀ mv, let ok := decide (1620 ≤ mv ∧ mv ≤ 3600)
      let s1 := { s with pwr := { s.pwr with vioOk := ok } }
      (coreOn s = true → s.pwr.vsysValid = true → exec (.vioRangeChange mv) s = .next (levelFault 42 (!ok) ok s1)) ∧
      (coreOn s = false ∨ s.pwr.vsysValid = false → exec (.vioRangeChange mv) s = .next s1)) ∧
    (monitors s = true →
      (∀ mv, exec (.vbatCheck mv) s = .next (levelFault 43 (decide (mv < 2000)) (decide (2100 ≤ mv)) { s with
        pwr := { s.pwr with vbatMv := mv, vbatOk := decide (2000 ≤ mv), vbatPresent := decide (0 < mv) } })) ∧
      (∀ mv, exec (.vsysSample mv) s = .next (levelFault 41 (decide (37000 < mv))
        (!decide (36500 < mv) && decide (s.pwr.inMw ≤ 40000)) { s with pwr := { s.pwr with vHigh := decide (36500 < mv) } })) ∧
      (∀ x, exec (.powerAverageUpdate x) s =
        let s1 := { s with pwr := { s.pwr with vsysMv := x.vsysMv, vioMv := x.vioMv, cplMw := x.cplMw, inMw := x.inMw } }
        let s2 := levelFault 40 (decide (x.vsysMax < 18000)) (decide (18200 ≤ x.vsysMin)) s1
        let s3 := if 1620 ≤ x.vioMv ∧ x.vioMv ≤ 3600 then s2
          else levelFault 42 true false { s2 with pwr := { s2.pwr with vioOk := false } }
        let s4 := levelFault 41 (decide (40000 < x.inMw)) (!s3.pwr.vHigh && decide (s3.pwr.inMw ≤ 40000)) s3
        .next (levelFault 47 (decide (26000 < x.cplMw)) (decide (x.cplMw ≤ 26000)) s4)) ∧
      (∀ ct kt, exec (.temperatureThreshold ct kt) s = .next (temperatures ct kt s))) ∧
    (monitors s = false → (∀ mv, exec (.vbatCheck mv) s = .next s ∧ exec (.vsysSample mv) s = .next s) ∧
      (∀ x, exec (.powerAverageUpdate x) s = .next s) ∧ ∀ ct kt, exec (.temperatureThreshold ct kt) s = .next s)

/-- R58 to R60, Table 3-6: with the core running, POWER_STATE_ENTER takes the deepest power state that the horizon, the mode and
PWR_CTL.LIMIT permit and starts its exit early enough; POWER_STATE_WAKE returns to ACTIVE. A horizon below 2 µs never leads
below IDLE, and HIBERNATE (state 4) is entered in CONFIGURE, SAFE_HOLD and SERVICE alone. R64, R65, R404: planned removal.
QREQ_N low in a mode of Table 4-2 decides the removal with the policy of SYS_CONFIG; the flush saves the life counters and
lets QACK go high once the commit at T_{k+2} has passed; QREQ_N high calls it off. Elsewhere only the pin is noted, and both
edges wake the core. (Choices of the model it rests on: logs 79 and 80.) -/
def Obligations.PowerStatesAndRemoval : Prop :=
  (∀ (s : State) (h : Nat), exec .powerStateWake s = .next { s with pwr := { s.pwr with pstate := 0, wakeAt := none } } ∧
      (coreOn s = false → exec (.powerStateEnter h) s = .next s) ∧
      (coreOn s = true → ∃ st, exec (.powerStateEnter h) s = .next { s with pwr := { s.pwr with
            pstate := st, wakeAt := if st = 0 then none else some (s.clk + h - exitLead st) } } ∧
          st ≤ s.pwr.limit ∧ st = min (stateFor s.md.mode h) s.pwr.limit ∧ (h < 2000 → st ≤ 1) ∧ (h < 40000 → st ≤ 2) ∧
          (st = 4 → s.md.mode = .m3 ∨ s.md.mode = .m7 ∨ s.md.mode = .m9))) ∧
  (∀ (s : State),
      (removable s.md.mode = true → s.md.pend.contains .removal = false → exec .removalRequest s =
        .next (decideMode .removal { s with pwr := { s.pwr with
          pstate := 0, wakeAt := none, qreqLow := true, reqByCmd := false, polHold := sysSet s 2 == 1, reqAt := s.clk
          flushed := false, qackTime := 0 } })) ∧
      (removable s.md.mode = false ∨ s.md.pend.contains .removal = true → exec .removalRequest s =
        .next { s with pwr := { s.pwr with qreqLow := true, pstate := 0, wakeAt := none } }) ∧
      exec .mramFlushComplete s = .next (removalAck (modPwr (fun p => { p with flushed := true }) (lifeSave s))) ∧
      (s.pwr.qreqLow = true → exec .removalCancel s =
        .next (cancelRemoval { s with pwr := { s.pwr with qreqLow := false, pstate := 0, wakeAt := none } })) ∧
      (s.pwr.qreqLow = false → exec .removalCancel s = .next s))

/-- R36, R63, R78, R84, R116, R469, R471: the first two steps of start-up. BOOT begins once the presence wait has run: the straps
are read, keys are drawn and the boot ROM picks the slot. Then the firmware starts: the registers that boot loads, clock, slot,
exit and storm checks, VIO, microcode, life counters, couplers and host port on, temperatures measured, and the SYSTEM entry.
R74, R78, R80, R83, R84, R473, Table 4-2: the rest of start-up. When the lanes are up the module goes to SELFCAL and its cells
calibrate; when no cell still calibrates it goes to CONFIGURE and the load begins, each packet of the image carried out as a
sluice commit or the end of the load finds the one before it complete; the load ends in SAFE_HOLD after a reset storm, in ARMED with
a program of the TICK code in force, and otherwise in CONFIGURE; eight ticks of ARMED with START = RUN decide RUN, or DEGRADED
with a loss, for the next commit. (Choices of the model it rests on: logs 69, 70, 71, 73, 77, 133, 135 and 145.) -/
def Obligations.Startup : Prop :=
  (∀ (s : State),
      (bootReady s = true → ∀ casM casId cfw, exec (.bootBegin casM casId cfw) s = .next (chooseSlot cfw (drawKeys
        { s with pwr := { s.pwr with straps := casM.toNat * 8 + casId.toNat, presSince := none, softStart := false }
                 md := { s.md with bootRom := true } }))) ∧
      (bootReady s = false → ∀ casM casId cfw, exec (.bootBegin casM casId cfw) s = .next s) ∧
      (firmwareReady s = true → ∀ ct kt vb cmc mram,
        let s1 := stormCheck (exitCheck (slotCheck (startClock (bootRegs vb s))))
        exec (.firmwareStart ct kt vb cmc mram) s = .next (soeSystem (1 + 256) (temperatures ct kt
          (openPort (lifeBoot mram (cmcCheck cmc (vioCheck s1.pwr.vioOk s1))))))) ∧
      (firmwareReady s = false → ∀ ct kt vb cmc mram, exec (.firmwareStart ct kt vb cmc mram) s = .next s)) ∧
  (∀ (s : State),
      (s.md.mode = .m1 → s.md.fwUp = true → coreOn s = true → s.pwr.failing = false →
        exec .startupLanesUp s = .next ((enterMode .m2 0 s).mapCells fun _ c => startCal s c)) ∧
      (s.md.mode ≠ .m1 ∨ s.md.fwUp = false ∨ coreOn s = false ∨ s.pwr.failing = true → exec .startupLanesUp s = .next s) ∧
      (s.md.mode = .m2 → calDone s = true → ∀ cfg,
        exec (.startupSelfcalComplete .none cfg) s = .next (startLoad cfg (enterMode .m3 0 s)) ∧
        exec (.startupSelfcalComplete .migrated cfg) s = .next (startLoad cfg (migrate (enterMode .m3 0 s))) ∧
        exec (.startupSelfcalComplete .failed cfg) s = .next (migrationFails (enterMode .m3 0 s))) ∧
      (s.md.mode ≠ .m2 ∨ calDone s = false → ∀ mig cfg, exec (.startupSelfcalComplete mig cfg) s = .next s) ∧
      (s.md.mode = .m3 → s.md.loading = true → ∀ lgp,
        let t := loadStep s
        (t.md.mode = .m3 → t.md.loading = true → loadEnded t = true → t.md.loadBad = false →
          exec (.configLoadComplete lgp) s =
            .next (endLoad true (lgpLoad lgp (configureCells (endSource (imageInForce t)))))) ∧
        (t.md.mode = .m3 → t.md.loading = true → t.md.loadBad = true →
          exec (.configLoadComplete lgp) s = .next (waitForConfig (lgpLoad lgp (configureCells (endSource
            { dropImage t with fw := { t.fw with cfgVer := 0 } }))))) ∧
        (loadEnded t = false → exec (.configLoadComplete lgp) s = .next t)) ∧
      (s.md.mode ≠ .m3 ∨ s.md.loading = false → ∀ lgp, exec (.configLoadComplete lgp) s = .next s) ∧
      (s.md.mode = .m4 → s.md.armedStart = 0 → 8 ≤ s.md.armed → exec .armedTicksElapsed s = .next (decideMode .armedEnd s)) ∧
      (s.md.mode ≠ .m4 ∨ s.md.armedStart ≠ 0 ∨ s.md.armed < 8 → exec .armedTicksElapsed s = .next s))

/-- R82, R62: a module reset takes the reset that is due, or the one the command names; RESET_CAUSE shows its cause, the source
of a fault, and the mode it left; it is counted; the module is in BOOT with the host port closed. A thermal trip is a warm
reset with FS45 as its source, after which the core stands still until the junction is below 115 °C. Without a running core both
change nothing. (Choices of the model it rests on: log 81.) -/
def Obligations.ModuleResets : Prop :=
  ∀ (s : State),
    (coreOn s = true → s.pwr.vsysValid = true → s.pwr.failing = false →
      (∀ r, ∃ t, exec (.moduleReset r) s = .next t ∧ t.md.mode = .m1 ∧ t.md.fwUp = false ∧
        t.md.cause = (s.md.rstDue.getD r).cause ∧ t.md.causeCold = (s.md.rstDue.getD r).cold ∧
        t.md.lastMode = modeNum s.md.mode ∧ t.md.rstTotal = satAdd 16 s.md.rstTotal 1 ∧ t.md.warm = true ∧
        t.hp = {} ∧ t.ops = [] ∧ t.pending = s.pending) ∧
      (∃ t, exec .thermalTrip s = .next t ∧ t.pwr.tripped = true ∧ t.pwr.trip = some s.now ∧ t.md.cause = 5 ∧
        t.md.causeFs = 45 ∧ t.md.mode = .m1)) ∧
    (coreOn s = false ∨ s.pwr.vsysValid = false ∨ s.pwr.failing = true →
      exec .thermalTrip s = .next s ∧ ∀ r, exec (.moduleReset r) s = .next s) ∧
    (s.pwr.tripped = true → ∀ at0, s.pwr.trip = some at0 → exec .thermalTripRestart s =
      .next (tripEvent at0 { s with pwr := { s.pwr with tripped := false, trip := none } })) ∧
    (s.pwr.tripped = false → exec .thermalTripRestart s = .next s)

/-- R417: a module reset clears the present state, the severe state and the weir counters of every source, and keeps each
source's history; the reset that leaves FACTORY_TEST, where histories are saved, restores those saved (R435). This holds for
MODULE_RESET and for the power-on reset of VSYS_VALID. -/
def Obligations.ResetKeepsHistories : Prop :=
  ∀ (s : State),
    (coreOn s = true → s.pwr.vsysValid = true → s.pwr.failing = false →
      ∀ r, ∃ t, exec (.moduleReset r) s = .next t ∧ ∀ n : Fin 96,
        (t.fsrc n).present = false ∧ (t.fsrc n).severe = false ∧ (t.fsrc n).weir = [] ∧
        (s.flt.saved = [] → (t.fsrc n).hist = (s.fsrc n).hist) ∧
        (s.flt.saved ≠ [] → (t.fsrc n).hist = s.flt.saved.getD n.val {})) ∧
    (∀ mv, 17000 ≤ mv → s.pwr.vsysValid = false → s.pwr.failing = false →
      ∃ t, exec (.vsysValid mv) s = .next t ∧ ∀ n : Fin 96,
        (t.fsrc n).present = false ∧ (t.fsrc n).severe = false ∧ (t.fsrc n).weir = [] ∧
        (s.flt.saved = [] → (t.fsrc n).hist = (s.fsrc n).hist) ∧
        (s.flt.saved ≠ [] → (t.fsrc n).hist = s.flt.saved.getD n.val {}))

/-! ### Packets: system and channel commands (chapter 17, Tables 17-2 to 17-4) -/

/-- R372 step 6, Tables 17-2 to 17-9: a packet command in a mode that its row does not name answers WRONG_MODE, and nothing else
of it happens; under the recovery loader every command but the four it names does (R469). (Choices of the model it rests on:
log 101.) -/
def Obligations.WrongModeAnswers : Prop :=
  ∀ (s : State) (i : Instr) (c : Ctx), packetCtx i = some c → inModeList s (packetModes i) = false →
    (s.md.recovery = false ∨ recoveryCommand i = false) →
    exec i s = .next (answer c stWrongMode [] (acceptPacket c s))

/-- Table 17-2, R74, R75, R379, R403: the system commands in a mode that accepts them. GET_INFO and GET_STATUS answer their
payload; SET_MODE answers its verdict, and ACCEPTED decides the trigger; ABORT answers before its target completes; RESET
decides the reset and stays with one already due. Table 17-2, R64, R88, R92, R404: QUIESCE decides a removal, or calls it off
in QUIESCE; SYS_CONFIG takes its pairs whole or not at all; SET_TICK takes effect at the next second, or refuses. (Choices of
the model it rests on: logs 58, 68 and 85.) -/
def Obligations.SystemAndSettingCommands : Prop :=
  (∀ (s : State) (c : Ctx), s.md.recovery = false → s.md.mode ≠ .m0 →
      let p := acceptPacket c s
      exec (.getInfo c []) s = .next (answer c stOk (infoWords p) p) ∧
      exec (.getStatus c []) s = .next (answer c stOk (statusWords p) p) ∧
      (∀ ws, setModeStatus s ws ≠ stAccepted → exec (.setMode c ws) s = .next (answer c (setModeStatus s ws) [] p)) ∧
      (∀ ws t, modeTarget ws = some t → setModeStatus s ws = stAccepted →
        exec (.setMode c ws) s = .next (if opsFull s c then answer c stBusy [] p
          else decideMode (.set t (ctxRef c 0x02)) (startOp c (newOp c 0x02 0 (par ws 1)) p))) ∧
      (∀ w, reservedBad w 0x00FFFF00 = false →
        (∀ o, abortTarget c w s = some o → exec (.abort c [w]) s = .next (abortOp o (answer c stOk [] p))) ∧
        (abortTarget c w s = none → exec (.abort c [w]) s =
          .next (answer c (if abortDone c w s then stAlreadyDone else stBadParam) [] p))) ∧
      (∀ w, reservedBad w 1 = false → ∃ t, exec (.reset c [w]) s = .next t ∧
        t.md.rstDue = (s.md.rstDue <|> some ⟨if s.md.mode = .m11 then 8 else 2, bitOf w 0, 0xFF⟩) ∧
        { t with md := { t.md with rstDue := s.md.rstDue } } = answer c stOk [] p)) ∧
  (∀ (s : State) (c : Ctx) (w : Word), s.md.recovery = false →
      let p := acceptPacket c s
      (inModeList s [2, 3, 4, 5, 6, 7, 9, 10] = true → reservedBad w 3 = false → field w 0 2 ≠ 3 → opsFull s c = false →
        exec (.quiesce c [w]) s =
          .next (requestRemoval true (policyHold p (field w 0 2)) (startOp c (newOp c 0x06 0 w) p))) ∧
      (s.md.mode = .m8 → reservedBad w 3 = false → field w 0 2 = 3 → cancelAllowed s = true →
        exec (.quiesce c [w]) s = .next (cancelRemoval (answer c stOk [] p))) ∧
      (s.md.mode = .m3 → ∀ ws,
        (∀ cfg, pairsApply sysParams (fun _ => true) s.sys ws 0 = some cfg → exec (.sysConfig c ws) s =
          .next (answer c stOk [] (noteConfig c.src (endHolds (applyErrCtl { p with sys := cfg }))))) ∧
        (pairsApply sysParams (fun _ => true) s.sys ws 0 = none →
          exec (.sysConfig c ws) s = .next (answer c stBadParam [] p))))

/-- Table 17-3, R119, R405, R501: CH_CONFIG and CH_READ_CONFIG. A change that fits and that the load check admits starts a write
to a cell that is up; for a lost cell it is in force at acceptance and completes with DEFERRED; a change that the load check
refuses answers RESOURCE. CH_READ_CONFIG answers the configuration in force, one pair for each parameter. (Choices of the
model it rests on: logs 39, 58 and 59.) -/
def Obligations.ChannelConfiguration : Prop :=
  ∀ (s : State) (c : Ctx) (ws : List Word) (ch : Ch) (f : Func) (pars : List (Nat × Int)),
    let p := acceptPacket c s
    (inModeList s modesConfig = true → chOf (par ws 1) = some ch → funcOfNum (field (par ws 1) 8 4) = some f →
      (f = (s.cell ch).accFunc ∨ s.md.mode = .m3) → pairsFit ws 0x00000FFF = true →
      newConfig (s.cell ch).accFunc (s.cell ch).accPar f ws = some pars → chInUse s ch = false → opsFull s c = false →
      (loadOk (acceptConfig ch f pars s) = false → exec (.chConfig c ws) s = .next (answer c stResource [] p)) ∧
      (loadOk (acceptConfig ch f pars s) = true → cellUp s ch = false →
        exec (.chConfig c ws) s = .next (deferConfig c ch f pars (noteConfig c.src p))) ∧
      (loadOk (acceptConfig ch f pars s) = true → cellUp s ch = true →
        exec (.chConfig c ws) s = .next (startWrite ch
          { kind := .config f, since := 0, func := f, pars := pars, ref := some (ctxRef c 0x10), immediate := false
            frames := writeFrames (changedRegs (f == (s.cell ch).accFunc) f (s.cell ch).accPar pars
              ((pairsOf (ws.drop 1)).map Prod.fst)) }
          (startOp c (newOp c 0x10 (chBit ch) (par ws 1)) (acceptConfig ch f pars (noteConfig c.src p)))))) ∧
    (inModeList s modesAll = true → ∀ w, reservedBad w 0xFF = false → chOf w = some ch →
      let ps := configWords (s.cell ch).cfgFunc (s.cell ch).cfgPar
      exec (.chReadConfig c [w]) s = .next (answer c stOk
        (packWord [(0, 8, ch.val), (8, 4, funcNum (s.cell ch).cfgFunc), (16, 8, ps.length / 2)] :: ps) p))

/-- Table 17-3, R139, R165, R194, R221, R244, R395, R406: CH_SET_FAILSAFE starts the write of a record that fits the function;
CH_FORCE of a channel, or of all, takes effect at the next frame start and only in COMMISSION, a force on output channels
alone; CH_CLEAR_LATCH waits for the next marker. (Choices of the model it rests on: logs 40, 58 and 112.) -/
def Obligations.ChannelOperations : Prop :=
  (∀ (s : State) (c : Ctx) (ws : List Word) (l : List Ch), inModeList s [10] = true → chsOf (par ws 1) = some l →
    reservedBad (par ws 1) 0x3FF = false →
    let p := acceptPacket c s
    let op := field (par ws 1) 8 2
    let done (f : Cell → Cell) : Host.Outcome State Fault Refusal := .next (answer c stOk [] (l.foldl (fun x ch => x.modCell ch f) p))
    let bad : Host.Outcome State Fault Refusal := .next (answer c stBadParam [] p)
    (op = 0 → wordCount ws 1 0 2 = true →
      exec (.chForce c ws) s = done fun x => { x with forceNext := some none, simNext := some none }) ∧
    (op = 1 → wordCount ws 1 1 2 = true → (∀ ch ∈ l, isOut (s.cell ch).cfgFunc = true) →
      exec (.chForce c ws) s = done fun x => { x with forceNext := some (some (wordInt (par ws 2))) }) ∧
    (op = 1 → (∃ ch ∈ l, isOut (s.cell ch).cfgFunc = false) → exec (.chForce c ws) s = bad) ∧
    (op = 2 → wordCount ws 1 2 2 = true → reservedBad (par ws 3) 0xF = false →
      exec (.chForce c ws) s = done fun x => { x with simNext := some (some (par ws 2, (par ws 3).setWidth 4)) }) ∧
    (op = 3 → exec (.chForce c ws) s = bad)) ∧
  ∀ (s : State) (c : Ctx) (ws : List Word) (ch : Ch), chOf (par ws 1) = some ch →
    let p := acceptPacket c s
    (inModeList s modesConfig = true → reservedBad (par ws 1) 0x3FF = false →
      wordCount ws 1 (field (par ws 1) 8 2 == 2).toNat 1 = true → isOut (s.cell ch).accFunc = true →
      ∀ o v, failsafeOf (s.cell ch).accFunc (field (par ws 1) 8 2) (wordInt (par ws 2)) = some (o, v) →
        exec (.chSetFailsafe c ws) s = .next (longChannel c 0x12 ch (par ws 1) (startWrite ch
          { kind := .failsafe o v, frames := writeFrames [(regFsOpt, BitVec.ofNat 32 (fsOptNum o)), (regFsValue, intWord v)], since := 0
            func := (s.cell ch).accFunc, pars := [], ref := some (ctxRef c 0x12), immediate := false }) p)) ∧
    (inModeList s modesConfig = true → reservedBad (par ws 1) 0xFF = false → ws.length = 2 →
      reservedBad (par ws 2) (latchOptions (s.cell ch).cfgFunc) = false → exec (.chClearLatch c ws) s =
        .next (answer c stOk [] (p.modCell ch fun x => { x with clearReq := x.clearReq ||| (par ws 2).setWidth 4 })))

/-- Table 17-3, R162, R210, R211, R237, R241: INPUT_TEST on an input that is not calibrating starts the test; INJ_SEQ_CONFIG on
an analogue input whose lane is up writes the sequence, else it answers FAULT with LANE_DOWN; HART_TX starts its exchange, its
request brought to the cell in CFGW frames; HART_RX answers the oldest frame and
removes it, or empties the buffer. (Choices of the model it rests on: logs 40, 48 and 58.) -/
def Obligations.InputAndHartCommands : Prop :=
  ∀ (s : State) (c : Ctx) (ws : List Word) (ch : Ch), chOf (par ws 1) = some ch →
    let p := acceptPacket c s
    (inModeList s modesConfig = true → reservedBad (par ws 1) 0xFF = false → ws.length = 1 →
      ((s.cell ch).cfgFunc = .di ∨ isAi (s.cell ch).cfgFunc = true) →
      ((s.cell ch).cal.busy = true → exec (.inputTest c ws) s = .next (answer c stBusy [] p)) ∧
      ((s.cell ch).cal.busy = false →
        exec (.inputTest c ws) s = .next (longChannel c 0x15 ch 0 (fun x => x.modCell ch beginTest) p))) ∧
    (inModeList s modesAll = true → reservedBad (par ws 1) 0xFFF = false → reservedBad (par ws 2) 0x7777 = false →
      ws.length = 2 → isAi (s.cell ch).cfgFunc = true → field (par ws 1) 9 3 ≤ 3 → (∀ i < 4, field (par ws 2) (4 * i) 3 ≤ 5) →
      ((s.cell ch).lane.state = .up → exec (.injSeqConfig c ws) s = .next (startWrite ch
        { kind := .inj ⟨bitOf (par ws 1) 8, field (par ws 1) 9 3 + 1, #v[field (par ws 2) 0 3, field (par ws 2) 4 3,
            field (par ws 2) 8 3, field (par ws 2) 12 3]⟩
          frames := writeFrames [(regInj, par ws 1), (regInj + 1, par ws 2)], since := 0, func := .off, pars := []
          ref := some (ctxRef c 0x16), immediate := true } p)) ∧
      ((s.cell ch).lane.state ≠ .up → exec (.injSeqConfig c ws) s = .next (answerFault c 0x16 rcLaneDown p))) ∧
    (inModeList s [4, 5, 6, 7, 9, 10] = true → reservedBad (par ws 1) 0xFF01FF = false →
      (isAo (s.cell ch).cfgFunc = true ∨ (s.cell ch).cfgFunc = .aii) →
      valueIn (funcParams (s.cell ch).cfgFunc) (s.cell ch).cfgPar 0x000A0109 = 1 → ∀ n,
      n = (if bitOf (par ws 1) 8 then 5 else 1) + 1 + field (par ws 1) 16 8 → ws.length = 1 + (n + 3) / 4 →
      (∀ b ∈ ((ws.drop 1).flatMap wordBytes).drop n, b = 0) →
      exec (.hartTx c ws) s = .next (longChannel c 0x17 ch (par ws 1) (fun x => startWrite ch
        { kind := .hart, since := 0, func := .off, pars := [], ref := some (ctxRef c 0x17), immediate := false
          frames := writeFrames (hartRegs (hartRequest (bitOf (par ws 1) 8) (field (par ws 1) 16 8)
            (((ws.drop 1).flatMap wordBytes).take n))) }
        (x.modCell ch fun x => { x with hart := { x.hart with ex := some ⟨ctxRef c 0x17, .loading, []⟩ } })) p)) ∧
    (inModeList s [4, 5, 6, 7, 9, 10] = true → reservedBad (par ws 1) 0x1FF = false → ws.length = 1 →
      (bitOf (par ws 1) 8 = true → exec (.hartRx c ws) s =
        .next (answer c stOk [0] (p.modCell ch fun x => { x with hart := { x.hart with buf := [], lost := 0 } }))) ∧
      (bitOf (par ws 1) 8 = false → exec (.hartRx c ws) s = .next (answer c stOk (hartReplyWords (s.cell ch).hart)
        (p.modCell ch fun x => { x with hart := { x.hart with buf := x.hart.buf.drop 1 } }))))

/-- Table 17-4, R249, R255 to R260: the calibration commands. SELFCAL starts in the named cells, or answers BUSY while one of them is busy; CAL_WRITE refuses an entry
beyond its limits and a FACTORY entry without its override, and else starts the write; CAL_EXPORT answers a window of the
record; CAL_RESTORE collects a record in parts; each step of AO_TRIM acts on the trim that runs. (Choices of the model it
rests on: logs 40, 58 and 111.) -/
def Obligations.CalibrationCommands : Prop :=
  ∀ (s : State) (c : Ctx) (ws : List Word) (ch : Ch), s.md.recovery = false →
    let p := acceptPacket c s
    (inModeList s modesNo8 = true → (s.md.mode = .m3 ∨ ∀ k : Ch, bitOf (par ws 1) k.val = true → isAi (s.cell k).cfgFunc = true) →
      ws.length = 1 →
      ((∀ k : Ch, bitOf (par ws 1) k.val = true → selfcalBusy s k = false) → opsFull s c = false → exec (.selfcal c ws) s =
        .next (selfcalStart (par ws 1) (startOp c { newOp c 0x30 (par ws 1) (par ws 1) with left := par ws 1 } p))) ∧
      ((∃ k : Ch, bitOf (par ws 1) k.val = true ∧ selfcalBusy s k = true) ∨ opsFull s c = true →
        exec (.selfcal c ws) s = .next (answer c stBusy [] p))) ∧
    (s.md.mode = .m3 → reservedBad (par ws 1) 0x1FFFF = false → ws.length = 5 → chOf (par ws 1) = some ch →
      ∀ e, entryNum (field (par ws 1) 8 8) = some e → e ≠ 4 →
      (entryWithin e.val (wordInt (par ws 2)) (par ws 3).toNat = false →
        exec (.calWrite c ws) s = .next (answer c stBadParam [] p)) ∧
      (entryWithin e.val (wordInt (par ws 2)) (par ws 3).toNat = true → (s.cell ch).cal.busy = false → chInUse s ch = false →
        ((s.cell ch).cal.entries[e].user = false → bitOf (par ws 1) 16 = false →
          exec (.calWrite c ws) s = .next (answer c stDenied [] p)) ∧
        ((s.cell ch).cal.entries[e].user = true ∨ bitOf (par ws 1) 16 = true →
          exec (.calWrite c ws) s = .next (longChannel c 0x31 ch (par ws 1) (startEntryWrite ch
            ⟨e, true, some s.now, wordInt (par ws 2), (par ws 3).toNat, wordInt (par ws 4), wordInt (par ws 5), [],
              ctxRef c 0x31⟩ 0x31) p)))) ∧
    (inModeList s modesAll = true → reservedBad (par ws 1) 0xFFFF = false → ws.length = 3 → chOf (par ws 1) = some ch →
      ∀ e, entryNum (field (par ws 1) 8 8) = some e → 1 ≤ (par ws 3).toNat → (par ws 3).toNat ≤ 240 →
      (par ws 2).toNat < (exportRecord p ch e).length → exec (.calExport c ws) s = .next (answer c stOk
        (BitVec.ofNat 32 (exportRecord p ch e).length :: par ws 2 ::
          ((exportRecord p ch e).drop (par ws 2).toNat).take (par ws 3).toNat) p)) ∧
    (s.md.mode = .m3 → reservedBad (par ws 1) 0xFFFFFF = false → findPart s 0x34 = none → ∀ w r sig, ws = w :: r →
      r ≠ [] → r.length = field w 16 8 → r.length ≤ 2 → field w 0 16 = 0 →
      exec (.calRestore c ws sig) s = .next (answer c stOk [] { dropPart c.src 0x34 p with
        parts := ⟨c.src, 0x34, 0, r, s.clk⟩ :: (dropPart c.src 0x34 p).parts })) ∧
    (inModeList s [3, 10] = true → reservedBad (par ws 1) 0x103FF = false →
      wordCount ws 1 (trimReads ws).toNat 1 = true → chOf (par ws 1) = some ch →
      (field (par ws 1) 8 2 = 0 → exec (.aoTrim c ws) s = .next (trimStart c ch (bitOf (par ws 1) 16) p)) ∧
      (∀ t, (s.cell ch).cal.trim = some t → t.writing = false →
        (field (par ws 1) 8 2 = 1 → exec (.aoTrim c ws) s = .next (trimPoint1 c ch (wordInt (par ws 2)) t p)) ∧
        (field (par ws 1) 8 2 = 2 → exec (.aoTrim c ws) s = .next (trimPoint2 c ch (wordInt (par ws 2)) t p)) ∧
        (field (par ws 1) 8 2 = 3 → exec (.aoTrim c ws) s = .next (trimCancel c ch t p))))

/-! ### Station network (chapter 13) -/

/-- R293, R295, R330, R333: ports. NET_CONFIG that passes its checks restarts both ports and completes when they have; a link that goes
down for 50 ms makes its port lost with its source; a link that comes up clears it, and one that is not 1000 Mbit/s full duplex
counts as down on an SGMII port; a frame on a port that is up is counted, as are its failures, and one outside a session takes
from RATE_LIM. Ports that are not used, or not up, do nothing. R311, R312, R319, R333: definitions and statistics. FRAME_DEF with
DELETE removes a definition that no active program needs; a part that completes a record puts it in force when it passes its
checks and answers BAD_PARAM when it does not, a first part without the rest is kept; NET_STATS answers the counters as they
stand and clears them only with CLEAR; a retransmission of a publication that has sent its first frame is due at the next
commit, and no other. (Choices of the model it rests on: logs 94 and 95.) -/
def Obligations.NetworkPortsAndDefinitions : Prop :=
  (∀ (s : State),
      (∀ c ws cfg, inModeList s [3] = true → pairsApply netParams netOk s.net.cfg ws 0 = some cfg →
        opRuns s [0x50] = false → opsFull s c = false →
        let s1 := { acceptPacket c s with net := { s.net with cfg := cfg, applied := true } }
        (loadOk s1 = false → exec (.netConfig c ws) s = .next (answer c stResource [] (acceptPacket c s))) ∧
        (loadOk s1 = true → ∃ t, exec (.netConfig c ws) s = .next t ∧
          t = (let s2 := startOp c (newOp c 0x50 0 (par ws 1)) (noteBudget (noteConfig c.src s1))
               restartPorts { s2 with net := { s2.net with restart := some (ctxRef c 0x50) } }))) ∧
      exec .portsRestarted s =
        .next (finishOpt s.net.restart stOk 0 [] { s with net := { s.net with restarting := false, restart := none } }) ∧
      (∀ p, portUsed s p = true → exec (.portLinkDown p) s = .next (refreshLoss
        (let s1 := selectMaster (modPort p (fun q => { linkDown s.clk q with lost := true }) s)
         if (s.fsrc (linkFs p)).present then s1 else raiseFault (linkFs p) 0 s1))) ∧
      (∀ p fd an, portUsed s p = true → (portOf s.net p).sgmii = false ∨ fd = true →
        ∃ pre, exec (.portLinkUp p fd an) s = .next (refreshLoss (selectMaster
          (clearFault (linkFs p) (modPort p (fun q => { q with
            link := true, lost := false, anDone := an || !anOn s p, preempt := pre, changed := if q.link then q.changed else s.clk })
            s.drawFree)))) ∧ (netSet s 0x000D0207 ≠ 1 → pre = false)) ∧
      (∀ p an, portUsed s p = true → (portOf s.net p).sgmii = true →
        ((portOf s.net p).link = true →
          exec (.portLinkUp p false an) s = .next (selectMaster (modPort p (linkDown s.clk) s))) ∧
        ((portOf s.net p).link = false → exec (.portLinkUp p false an) s = .next s)) ∧
      (∀ p fd an, portUsed s p = false → exec (.portLinkUp p fd an) s = .next s ∧ exec (.portLinkDown p) s = .next s) ∧
      (∀ p, portUp s p = true →
        let s1 := countRx p s.wakeCore
        exec (.localFrameReceived p true true) s = .next (prpHeard p s1) ∧
        (∀ k, exec (.localFrameReceived p false k) s = .next (countFcs p s1)) ∧
        exec (.localFrameReceived p true false) s = .next (rateLimit id (prpHeard p s1))) ∧
      (∀ p ok k, portUp s p = false → exec (.localFrameReceived p ok k) s = .next s)) ∧
  (∀ (s : State) (c : Ctx) (w : Word),
      let p := acceptPacket c s
      (inModeList s [3] = true → reservedBad w 0x13F07 = false → field w 0 3 ≤ 4 → opRuns s [0x50] = false →
        field w 8 6 < kindCount (field w 0 3) →
        (bitOf w 16 = true → exec (.frameDef c [w]) s = .next (defineFrame c (field w 0 3) (field w 8 6) none p)) ∧
        (bitOf w 16 = false → findPart s 0x52 = none → ∀ w2 h r, reservedBad w2 0xFFFFFF = false → field w2 0 16 = 0 →
          (h :: r).length = field w2 16 8 → (h :: r).length ≤ 240 →
          let d : FrameDef := ⟨field w 0 3, h :: r⟩
          (field h 0 16 = (h :: r).length →
            (defOk (dropPart c.src 0x52 p) d (field w 8 6) = true → exec (.frameDef c (w :: w2 :: h :: r)) s =
              .next (defineFrame c (field w 0 3) (field w 8 6) (some d) (dropPart c.src 0x52 p))) ∧
            (defOk (dropPart c.src 0x52 p) d (field w 8 6) = false → exec (.frameDef c (w :: w2 :: h :: r)) s =
              .next (answer c stBadParam [] (dropPart c.src 0x52 p)))) ∧
          ((h :: r).length < field h 0 16 → exec (.frameDef c (w :: w2 :: h :: r)) s =
            .next (answer c stOk [] { dropPart c.src 0x52 p with
              parts := ⟨c.src, 0x52, 64 * field w 0 3 + field w 8 6, h :: r, s.clk⟩ :: (dropPart c.src 0x52 p).parts })))) ∧
      (inModeList s modesAll = true → reservedBad w 1 = false →
        let out := (List.range 19).map (fun i => netRead p (4 * i)) ++ portCounters s.net.a ++ portCounters s.net.b
        (bitOf w 0 = false → exec (.netStats c [w]) s = .next (answer c stOk out p)) ∧
        (bitOf w 0 = true → exec (.netStats c [w]) s = .next (answer c stOk out { p with net := { s.net with
          cFcs := 0, cStomp := 0, cDup := 0, cAuth := 0, cHs := 0, cRate := 0, early := 0
          a := clearPort s.net.a, b := clearPort s.net.b } }))) ∧
      (∀ i, (modePublishes s.md.mode = true → s.net.gpub[i].defn.isSome = true → s.net.gpub[i].first = false →
          exec (.gooseRetransmit i) s = .next { s with net := { s.net with
            gpub := s.net.gpub.set i { s.net.gpub[i] with due := true } } }) ∧
        (modePublishes s.md.mode = false ∨ s.net.gpub[i].defn = none ∨ s.net.gpub[i].first = true →
          exec (.gooseRetransmit i) s = .next s)))

/-- R296, R297, R304, R305, Table 13-10 FS58: redundancy. While HSR or PRP runs, supervision leaves both ports that are up with the next
supervision number; its absence on a port raises FS58 once; outside these modes, and while the ports restart, nothing is sent.
An entry of the duplicate table goes when it expires, and every other stays. R298, R300, R301, R304: in HSR a frame on a port
that is up is counted, and counted as failed when its check fails. A frame of the module's own source goes no further and shows
the ring alive; one the table holds as verified is discarded and counted; any other is entered, forwarded by the other port
where that is up unless it is for this module alone, and verified when its check passes or dropped from the table when not.
Outside HSR, and on a port that is not up, a ring frame does nothing. (Choices of the model it rests on: logs 53 and 92.) -/
def Obligations.RedundancyAndForwarding : Prop :=
  ∀ (s : State),
    (redundant s = true → s.net.restarting = false → exec .redundancySupervisionSend s = .next
      (sendOn bothPorts (.supervision s.net.supSeq) { s with net := { s.net with supSeq := (s.net.supSeq + 1) % 65536 } })) ∧
    (redundant s = false ∨ s.net.restarting = true → exec .redundancySupervisionSend s = .next s) ∧
    (∀ p, (redundant s = true →
        ((s.fsrc 58).present = true → exec (.supervisionMissing p) s = .next (modPort p (fun q => { q with supMiss := true }) s)) ∧
        ((s.fsrc 58).present = false →
          exec (.supervisionMissing p) s = .next (raiseFault 58 0 (modPort p (fun q => { q with supMiss := true }) s)))) ∧
      (redundant s = false → exec (.supervisionMissing p) s = .next s)) ∧
    (∀ key, ∃ t, exec (.dupEntryExpire key) s = .next t ∧ findDup t key = none ∧
      t = { s with net := { s.net with dups := s.net.dups.filter fun e => e.key != key.toNat } }) ∧
    (∀ f, netMode s = some 2 → portUp s f.port = true →
      let key : Option (BitVec 64) := some (BitVec.append f.src f.seq)
      let s1 := if f.fcsOk = true ∨ f.linkFail = true then countRx f.port s else countFcs f.port (countRx f.port s)
      (f.src.toNat = s.fw.mac →
        (f.fcsOk = true → exec (.hsrFrameForward f) s = .next (portHeard f.port s1)) ∧
        (f.fcsOk = false → exec (.hsrFrameForward f) s = .next s1)) ∧
      (f.src.toNat ≠ s.fw.mac → isDup s1 key f.port (fun e => e.fwd) = true →
        exec (.hsrFrameForward f) s = .next (countDup f.port (touchDup key s1))) ∧
      (f.src.toNat ≠ s.fw.mac → isDup s1 key f.port (fun e => e.fwd) = false →
        ∃ s2, (f.toUs = true ∨ portUp (enterDup key f.port s1) (otherPort f.port) = false → s2 = enterDup key f.port s1) ∧
          (f.toUs = false → portUp (enterDup key f.port s1) (otherPort f.port) = true →
            s2 = forwardCopy f (enterDup key f.port s1)) ∧
          (f.fcsOk = true →
            exec (.hsrFrameForward f) s = .next (verifyDup key f.port (fun e => { e with fwd := true }) s2)) ∧
          (f.fcsOk = false → exec (.hsrFrameForward f) s = .next (failDup key f.port s2)))) ∧
    (∀ f, netMode s ≠ some 2 ∨ portUp s f.port = false → exec (.hsrFrameForward f) s = .next s)

/-- R302 to R304, R314, R315, R323: subscriptions. On a port that is up, the words of a frame that is no duplicate are speculative
in every subscription they match; its check verifies or reverts them; a copy the table already holds as handled brings no
words. A subscription whose freshness limit has passed at T_k is no longer VALID and raises its source; one that is fresh stays
as it is. On a port that is not up nothing is received. (Choices of the model it rests on: log 91.) -/
def Obligations.Subscriptions : Prop :=
  ∀ (s : State),
    (∀ f : GooseFrame, portUp s f.port = true → f.phase = .words →
      (isDup s.wakeCore f.key f.port (fun e => e.loc) = false → exec (.gooseFrameReceived f) s =
        .next ((List.finRange 64).foldl (gooseWords f) (enterDup f.key f.port s.wakeCore))) ∧
      (isDup s.wakeCore f.key f.port (fun e => e.loc) = true → exec (.gooseFrameReceived f) s = .next s.wakeCore)) ∧
    (∀ (f : GooseFrame) ok, portUp s f.port = true → f.phase = .check ok →
      exec (.gooseFrameReceived f) s = .next (subHealth (gooseEnd f ok s.wakeCore))) ∧
    (∀ f : GooseFrame, portUp s f.port = false → exec (.gooseFrameReceived f) s = .next s) ∧
    (∀ f : MirrorFrame, portUp s f.port = true → f.phase = .words →
      (isDup s.wakeCore f.key f.port (fun e => e.loc) = false → exec (.mirrorFrameReceived f) s =
        .next ((List.finRange 16).foldl (mirrorWords f) (enterDup f.key f.port s.wakeCore))) ∧
      (isDup s.wakeCore f.key f.port (fun e => e.loc) = true → exec (.mirrorFrameReceived f) s = .next s.wakeCore)) ∧
    (∀ (f : MirrorFrame) ok, portUp s f.port = true → f.phase = .check ok →
      exec (.mirrorFrameReceived f) s = .next (subHealth (mirrorEnd f ok s.wakeCore))) ∧
    (∀ f : MirrorFrame, portUp s f.port = false → exec (.mirrorFrameReceived f) s = .next s) ∧
    (∀ k, ((subOf s k).valid = true → (subOf s k).limit < s.spring.tk → exec (.subFreshnessExpire k) s =
        .next (raiseFault (subFs k) 0 (modSub k (fun g => { g with valid := false }) s))) ∧
      ((subOf s k).valid = false ∨ s.spring.tk ≤ (subOf s k).limit → exec (.subFreshnessExpire k) s = .next s))

/-- R325 to R330, R478: management, on the ports it uses. ARP and ICMP are answered within the rate limit; message 1 from a client
starts a handshake at most 8 times a second, with an owner key and the tamper loop closed only, and is answered by the four
parts of message 2; a part of message 3 is kept, the last one opens the session when its signatures pass and fails the handshake when they do not; a
handshake times out; a session that is over closes with its alive state. Where management takes no frames the commands do
nothing. (Choices of the model it rests on: logs 32, 93 and 150.) -/
def Obligations.ManagementAccess : Prop :=
  ∀ (s : State),
    (∀ p icmp, (mgmtPort s p = true → exec (.arpIcmpRequest p icmp) s = .next
        (rateLimit (fun x => sendOn (portsFor x p) (if icmp then .icmp else .arp) x) (countRx p s.wakeCore))) ∧
      (mgmtPort s p = false → exec (.arpIcmpRequest p icmp) s = .next s)) ∧
    (∀ part ok, (mgmtUp s = false → exec (.udpHandshakeMsg1 part) s = .next s ∧ exec (.udpHandshakeMsg3 part ok) s = .next s) ∧
      (mgmtUp s = true → exec (.udpHandshakeMsg1 part) s = .next (rateLimit (takeMessage1 part) s.wakeCore) ∧
        exec (.udpHandshakeMsg3 part ok) s = .next (rateLimit (takeMessage3 part ok) s.wakeCore))) ∧
    (∀ part, let recent := s.net.hsTimes.filter fun t => decide (s.clk < t + 1000000000)
      let rest := { s with net := { s.net with hsTimes := recent } }
      (s.fw.owner.isSome = true → s.fw.loopOpen = false → part.idx = 0 → part.count = 1 → part.session = 0 → recent.length < 8 →
        ∃ id, takeMessage1 part s = (List.range 4).foldl (fun x n => sendOn (bothPorts.filter (mgmtPort x)) (.message2 id n) x)
          { s.drawFree with net := { s.net with hsTimes := s.clk :: recent, hs := some ⟨id, s.clk, []⟩ } }) ∧
      (s.fw.owner = none ∨ s.fw.loopOpen = true ∨ part.idx ≠ 0 ∨ part.count ≠ 1 ∨ part.session ≠ 0 ∨ 8 ≤ recent.length → takeMessage1 part s = rest)) ∧
    (∀ h part ok, s.net.hs = some h → part.session = h.session → part.count = 3 → part.idx < 3 → s.fw.owner ≠ none → s.fw.loopOpen = false →
      s.clk < h.since + 2000000000 → h.parts.contains part.idx = false →
      (h.parts.length < 2 → takeMessage3 part ok s = { s with net := { s.net with
        hs := some { h with parts := part.idx :: h.parts, since := if h.parts = [] then s.clk else h.since } } }) ∧
      (h.parts.length = 2 → takeMessage3 part true s = openSession h.session s ∧ takeMessage3 part false s = failHandshake s)) ∧
    ((s.net.hs.isSome = true → exec .handshakeTimeout s = .next (failHandshake s)) ∧
      (s.net.hs = none → exec .handshakeTimeout s = .next s)) ∧
    (∀ id, ((∃ x ∈ s.net.sessions, x.id = id.toNat ∧ sessionOver s.clk x = true) → ∃ t, exec (.sessionExpire id) s = .next t ∧
        (∀ x ∈ t.net.sessions, x.id ≠ id.toNat) ∧ (∀ a ∈ t.alives, a.1 ≠ .udp id.toNat) ∧ t.cells = s.cells ∧ t.hp = s.hp) ∧
      ((∀ x ∈ s.net.sessions, x.id = id.toNat → sessionOver s.clk x = false) → exec (.sessionExpire id) s = .next s))

/-! ### Culvert stacks and groups (chapter 14) -/

/-- R335, R341, R356: training of an enabled culvert. Reports that contradict each other put it in CONFLICT with FS73, which is
raised once; without a conflict it is UP, and the module with CAS_M low acts unless an acting master was heard. With the culvert
off training does nothing. R337 to R342, R347: mastership and breaks. With the culvert UP a follower takes the grid of a tick
symbol and forwards it; an acting module notes a second one; in training a symbol shows that a stack runs already. Without a
symbol the flywheel counts, FS72 is raised, and the backup, where there is one, takes over; at tick 0 a reclaim completes, and a
split master yields; a broken link is noted with FS72 and the loss, and the healed ring clears it. (Choices of the model it
rests on: logs 54 and 96.) -/
def Obligations.CulvertTrainingAndMastership : Prop :=
  (∀ (s : State) (r : CasTraining), (casOn s = false → exec (.casTrainingComplete r) s = .next s) ∧ (casOn s = true →
      let bad := casConflict (ownReport s :: r.peers) s.spring.code
      (bad = true → (s.fsrc 73).present = true → ∃ t, exec (.casTrainingComplete r) s = .next t ∧
        t.cas.state = 3 ∧ t.cas.role = 3 ∧ t = { s with cas := t.cas }) ∧
      (bad = true → (s.fsrc 73).present = false → ∃ s1, exec (.casTrainingComplete r) s = .next (raiseFault 73 0 s1) ∧
        s1.cas.state = 3 ∧ s1.cas.role = 3 ∧ s1 = { s with cas := s1.cas }) ∧
      (bad = false → ∃ s1, exec (.casTrainingComplete r) s = .next (clearFault 73 s1) ∧ s1.cas.state = 2 ∧
        s1.cas.role = (if casDefined s && !s.cas.doubleM then 1 else 0) ∧ s1.cas.brkA = false ∧ s1.cas.brkB = false ∧
        s1 = { s with cas := s1.cas }))) ∧
  (∀ (s : State),
      (∀ n i, (s.cas.state = 2 → s.cas.role ≠ 1 → exec (.casTickSymbol n i) s = .next (casWell { s with cas := { s.cas with
          role := 0, master := i.val, localT := false, symNum := some n, symOut := some n } })) ∧
        (s.cas.state = 2 → s.cas.role = 1 → exec (.casTickSymbol n i) s =
          .next { s with cas := { s.cas with doubleM := decide (casIdx s < i.val) } }) ∧
        (s.cas.state = 1 → exec (.casTickSymbol n i) s = .next { s with cas := { s.cas with doubleM := true, master := i.val } }) ∧
        (s.cas.state ≠ 1 → s.cas.state ≠ 2 → exec (.casTickSymbol n i) s = .next s)) ∧
      (s.cas.state = 2 → s.cas.role ≠ 1 →
        (casIdx s = 1 ∧ s.cas.noBkp = false → exec .casFlywheelTick s = .next (raiseFault 72 0 { s with cas := { s.cas with
          localT := true, symNum := none, fly := satAdd 16 s.cas.fly 1, role := 1, master := 1 } })) ∧
        (casIdx s ≠ 1 ∨ s.cas.noBkp = true → exec .casFlywheelTick s = .next (raiseFault 72 0 { s with cas := { s.cas with
          localT := true, symNum := none, fly := satAdd 16 s.cas.fly 1, role := if s.cas.localT then 2 else s.cas.role } }))) ∧
      (s.cas.state ≠ 2 ∨ s.cas.role = 1 → exec .casFlywheelTick s = .next s) ∧
      (∀ r, s.cas.reclaim = some r → exec .casReclaimHandover s = .next (finishOp r stOk 0 []
        { s with cas := { s.cas with reclaim := none, role := 1, master := casIdx s, localT := false } })) ∧
      (s.cas.reclaim = none →
        (s.cas.role = 1 → s.cas.doubleM = true ∨ casDefined s = false →
          exec .casReclaimHandover s = .next { s with cas := { s.cas with role := 0, doubleM := false } }) ∧
        (s.cas.role ≠ 1 ∨ (s.cas.doubleM = false ∧ casDefined s = true) → exec .casReclaimHandover s = .next s)) ∧
      (casOn s = true → ∀ b, exec (.casLinkBreak b) s = .next (refreshLoss (raiseFault 72 0 { s with cas := { s.cas with
        lost := true, brkA := s.cas.brkA || !b, brkB := s.cas.brkB || b } }))) ∧
      (casOn s = false → ∀ b, exec (.casLinkBreak b) s = .next s) ∧
      exec .casRingHealed s = .next (refreshLoss (casWell { s with cas := { s.cas with lost := false, brkA := false, brkB := false } })))

/-- R336, R342 to R345, R408, Table 14-4: CAS_CONFIG and tick images. A configuration whose map is well formed is applied, the map
with it where the packet gives one; one that is not, and one with a value out of range, answers BAD_PARAM; RECLAIM answers on its
own path. With the culvert UP an image is forwarded, its words are speculative until its CRC passes or fails, and a whole image
at another TICK code raises FS73 once; with the culvert not UP an image is dropped. (Choices of the model it rests on: log 55.) -/
def Obligations.CulvertConfigurationAndImages : Prop :=
  ∀ (s : State),
    (∀ c w, inModeList s modesAll = true → bitOf w 31 = true → reservedBad w 0x80000000 = false →
      exec (.casConfig c [w]) s = .next (reclaim c (acceptPacket c s))) ∧
    (∀ c ws, inModeList s [3] = true → bitOf (par ws 1) 31 = false →
      let isMap := fun (x : Nat × Word) => x.1 == 0x000E0104
      let pairs := pairsOf (ws.drop 1)
      (∀ l, pairsFit ws 0 = true → checkPairs casParams (pairs.filter fun x => !isMap x) = some l →
        (pairs.any isMap = false → mapOk s s.cas.map = true →
          exec (.casConfig c ws) s = .next (applyCas c (applyPairs s.cas.cfg l) none (acceptPacket c s))) ∧
        (pairs.any isMap = true → mapOk s ((pairs.filter isMap).map Prod.snd) = true → exec (.casConfig c ws) s =
          .next (applyCas c (applyPairs s.cas.cfg l) (some ((pairs.filter isMap).map Prod.snd)) (acceptPacket c s))) ∧
        (pairs.any isMap = true → mapOk s ((pairs.filter isMap).map Prod.snd) = false →
          exec (.casConfig c ws) s = .next (answer c stBadParam [] (acceptPacket c s)))) ∧
      (pairsFit ws 0 = false ∨ checkPairs casParams (pairs.filter fun x => !isMap x) = none →
        exec (.casConfig c ws) s = .next (answer c stBadParam [] (acceptPacket c s)))) ∧
    (∀ b img k, s.cas.state ≠ 2 → exec (.casImageReceived b img k) s = .next s) ∧
    (∀ b img k, s.cas.state = 2 → ∀ i : Fin 8, i.val = imgSender img →
      let s1 := modCas (forwardImage b i.val) s
      (img.phase = .words → exec (.casImageReceived b img k) s = .next (imageWords b img i s1)) ∧
      (∀ ok, img.phase = .check ok → (ok && k) = false →
        exec (.casImageReceived b img k) s = .next (imageEnd b img false i s1)) ∧
      (img.phase = .check true → k = true →
        (imgCode img = s.spring.code → exec (.casImageReceived b img k) s = .next (imageEnd b img true i s1)) ∧
        (imgCode img ≠ s.spring.code → (s.fsrc 73).present = false →
          exec (.casImageReceived b img k) s = .next (raiseFault 73 0 (imageEnd b img true i s1))) ∧
        (imgCode img ≠ s.spring.code → (s.fsrc 73).present = true →
          exec (.casImageReceived b img k) s = .next (imageEnd b img true i s1))))

/-- R348, R349, R351 to R354, R408, R409: groups. GROUP_CONFIG with KIND 0 takes the worker list, in ascending order, with KIND 1
the manager's serial and key, and with KIND 2 ends the group; GROUP_FORWARD whose checks pass starts its action, one opcode that
may not be forwarded is denied, and a second action is BUSY; a worker that stays silent counts as TIMEOUT, and one whose
summaries are missing raises FS74 once; the batch limit fails a staggered commit with its silent workers; a managed worker sends
its summary. (Choices of the model it rests on: logs 18 and 57.) -/
def Obligations.GroupActions : Prop :=
  ∀ (s : State),
    (∀ c ws, inModeList s [3] = true → reservedBad (par ws 1) 0x103 = false →
      (field (par ws 1) 0 2 = 0 → ∀ l, workersOf (ws.drop 1) = some l →
        let all := (if bitOf (par ws 1) 8 then s.grp.workers else []) ++ l
        noRepeat (all.map fun w => w.num) = true → exec (.groupConfig c ws) s = .next (answer c stOk [] (groupWell
          (noteConfig c.src { acceptPacket c s with grp := { s.grp with workers := all.foldr insertWorker [] } })))) ∧
      (field (par ws 1) 0 2 = 1 → ws.length = 11 → bitOf (par ws 1) 8 = false → exec (.groupConfig c ws) s =
        .next (answer c stOk [] (noteConfig c.src { acceptPacket c s with grp := { s.grp with
          managed := true, mgr := (par ws 3).toNat * 2 ^ 32 + (par ws 2).toNat, key := parFrom ws 4, rxSeq := 0, txSeq := 0 } }))) ∧
      (field (par ws 1) 0 2 = 2 → ws.length = 1 → bitOf (par ws 1) 8 = false → exec (.groupConfig c ws) s =
        .next (answer c stOk [] (noteConfig c.src { acceptPacket c s with
          grp := { s.grp with managed := false, key := [], coord := none } })))) ∧
    (∀ c a b w3 w4 packet, inModeList s modesNo8 = true →
      let op := field (packet.headD 0) 24 8
      let p := acceptPacket c s
      (([0x90, 0x91, 0x95, 0x61].contains op || decide (0xF0 ≤ op)) = true →
        exec (.groupForward c (a :: b :: w3 :: w4 :: packet)) s = .next (answer c stDenied [] p)) ∧
      (([0x90, 0x91, 0x95, 0x61].contains op || decide (0xF0 ≤ op)) = false →
        bitOf b 31 = false → reservedBad w3 3 = false → carriedOk packet = true → namedWorkers a b ≠ [] →
        (∀ n ∈ namedWorkers a b, (findWorker s n).isSome = true) →
        (bitOf w3 0 = true → (op = 0x02 ∨ op = 0x93) ∧ 50 ≤ w4.toNat ∧ w4.toNat ≤ 10000) →
        (bitOf w3 1 = true → op = 0x93 ∧ bitOf w3 0 = true) →
        (s.grp.act = none → opsFull s c = false → exec (.groupForward c (a :: b :: w3 :: w4 :: packet)) s =
          .next (startForward c (namedWorkers a b) (bitOf w3 0) (bitOf w3 1) w4.toNat packet p)) ∧
        (s.grp.act ≠ none → exec (.groupForward c (a :: b :: w3 :: w4 :: packet)) s = .next (answer c stBusy [] p)))) ∧
    (∀ n, exec (.groupWorkerTimeout n) s = .next (workerAnswers n.val stTimeout [] s)) ∧
    (∀ a, s.grp.act = some a → (a.step = .commit → exec .staggerBatchLimit s = .next (failAction a a.wait s)) ∧
      (a.step ≠ .commit → exec .staggerBatchLimit s = .next s)) ∧
    (s.grp.act = none → exec .staggerBatchLimit s = .next s) ∧
    (s.grp.managed = true → exec .workerSummarySend s =
      .next (sendUp s.grp.via (flushGroup s) (groupSummary s))) ∧
    (s.grp.managed = false → exec .workerSummarySend s = .next s) ∧
    (∀ n : Fin 63, ((findWorker s n.val).isSome = true →
        ((s.fsrc 74).present = true →
          exec (.workerSummaryMissing n) s = .next (modWorker n.val (fun w => { w with ok := false, missing := 3 }) s)) ∧
        ((s.fsrc 74).present = false → exec (.workerSummaryMissing n) s =
          .next (raiseFault 74 0 (modWorker n.val (fun w => { w with ok := false, missing := 3 }) s)))) ∧
      (findWorker s n.val = none → exec (.workerSummaryMissing n) s = .next s))

/-! ### Time (chapter 5) -/

/-- R97, R100, R101, R103 to R106: the spring. A source that falls silent in LOCKED leads to HOLDOVER, in ACQUIRING back to the state
it came from; the estimate follows its formula each second and leads to FREERUN beyond HOLD_ERR, with FS49; a decided step moves
module time by its amount, ends a slew and raises FS50, and with it the tick moves and its frame is stretched, but in a module
that follows a tick master; a decided slew starts at its tick and ends when nothing is left. (Choices of the model it rests
on: logs 87 and 129.) -/
def Obligations.SpringStates : Prop :=
  ∀ (s : State),
    (s.spring.state = .locked → exec .ptpSourceTimeout s = .next (enterHoldover s)) ∧
    (s.spring.state = .acquiring →
      (s.spring.acqFrom = .holdover → exec .ptpSourceTimeout s = .next (setSpring .holdover (modSpring noteHoldEst s))) ∧
      (s.spring.acqFrom ≠ .holdover → exec .ptpSourceTimeout s = .next (setSpring s.spring.acqFrom s))) ∧
    (s.spring.state = .unsync ∨ s.spring.state = .freerun ∨ s.spring.state = .holdover → exec .ptpSourceTimeout s = .next s) ∧
    (s.spring.state = .holdover →
      let s1 := modSpring (fun p => noteHoldEst { p with
        holdSecs := p.holdSecs + 1, holdDT := max p.holdDT (s.pwr.caseT - p.holdT0).natAbs }) s
      (holdErrNs s * 1000000 < holdEstMicro s1.spring →
        exec .holdoverUpdate s = .next (raiseFault 49 0 (setSpring .freerun s1))) ∧
      (holdEstMicro s1.spring ≤ holdErrNs s * 1000000 → exec .holdoverUpdate s = .next s1)) ∧
    (s.spring.state ≠ .holdover → exec .holdoverUpdate s = .next s) ∧
    (∀ d, s.spring.pendStep = some d → ∃ s1, exec .stepApply s = .next (raiseFault 50 0 s1) ∧
      s1.spring.mtNs = (s.spring.mtNs + d).toNat ∧ s1.spring.pendStep = none ∧ s1.spring.slewing = false ∧
      s1.spring.ptpMt = s.spring.ptpMt + d ∧ s1 = { s with spring := s1.spring } ∧
      (stackFollow s = false → s1.spring.tk = (s.spring.tk + d).toNat ∧ s1.spring.stretched = true ∧
        s1.spring.stretch = satAdd 16 s.spring.stretch 1) ∧
      (stackFollow s = true → s1.spring.tk = (s.spring.tk + (d + 500000000) / 1000000000 * 1000000000).toNat ∧
        s1.spring.stretched = s.spring.stretched ∧ s1.spring.stretch = s.spring.stretch)) ∧
    (s.spring.pendStep = none → exec .stepApply s = .next s) ∧
    (s.spring.pendSlew = true → exec .slewStart s = .next { s with spring := { s.spring with
      pendSlew := false, slewing := true, slewCnt := satAdd 16 s.spring.slewCnt 1
      slewLeft := slewPart (slewPpm s) s.spring.code s.spring.remain } }) ∧
    (s.spring.pendSlew = false → exec .slewStart s = .next s) ∧
    (s.spring.slewing = true → s.spring.remain = 0 →
      exec .slewEnd s = .next { s with spring := { s.spring with slewing := false, slewLeft := 0 } }) ∧
    (s.spring.slewing = false ∨ s.spring.remain ≠ 0 → exec .slewEnd s = .next s)

/-- R98, R106: one CLK_TB cycle of the powered module advances module time; without a slew and without a frequency correction it
advances exactly 8 ns, a slew takes at most SLEW_RATE from what its tick period has left, towards nothing left, and whatever the
correction time never runs back. Nothing but the clock and the spring changes; without VSYS the clock alone passes. (Choices of
the model it rests on: logs 31 and 120.) -/
def Obligations.ModuleTimeAdvances : Prop :=
  ∀ (s : State), s.pending = [] →
    (s.pwr.vsysValid = true → s.pwr.tripped = false →
      ∃ t, step s = .next t ∧ t.clk = s.clk + 8 ∧
        (s.spring.slewing = false → s.spring.freq = 0 → s.spring.frac < 1000000000 → t.spring.mtNs = s.spring.mtNs + 8) ∧
        (s.spring.slewing = true → 0 ≤ slewPpm s → t.spring.slewLeft.natAbs ≤ s.spring.slewLeft.natAbs ∧
          (s.spring.slewLeft - t.spring.slewLeft).natAbs ≤ (8000 * slewPpm s).natAbs) ∧
        s.spring.mtNs ≤ t.spring.mtNs ∧ t = { s with clk := s.clk + 8, spring := t.spring }) ∧
    (s.pwr.vsysValid = false ∨ s.pwr.tripped = true → step s = .next { s with clk := s.clk + 8 })

/-- R306, R307, R309, R310, R114: precision time on the network. A Sync on the slave port gives the offset, corrected by the port's
latency, and with SRC = PTP a measurement; an Announce of the module's domain is noted and the master selected again; its absence
removes it; a Pdelay request is answered on its port, an exchange updates the delay, corrected by the latencies; each second the
master ports send Sync and Announce and every PTP port its request. On a port PTP does not run on nothing changes. (Choices of
the model it rests on: logs 52, 87, 131 and 148.) -/
def Obligations.PrecisionTime : Prop :=
  ∀ (s : State) (p : NetPort),
    (∀ o f, (portOf s.net p).role = psSlave → ptpPort s p = true →
      let s1 := modSpring (fun x => { x with ptpAlive := true, ptpMt := o - latRx s p }) s.wakeCore
      (timeSrc s = 0 → exec (.ptpSyncReceived p o f) s = .next (measure (o - latRx s p) (noteFreq f s1))) ∧
      (timeSrc s ≠ 0 → exec (.ptpSyncReceived p o f) s = .next s1)) ∧
    (∀ o f, (portOf s.net p).role ≠ psSlave ∨ ptpPort s p = false → exec (.ptpSyncReceived p o f) s = .next s) ∧
    (∀ a, ptpPort s p = true → (a.domain : Int) = ptpSet s 0x000D0302 →
      ∃ s1, s1 = selectMaster { s with net := (match p with
          | .a => { s.net with annA := some a }
          | .b => { s.net with annB := some a }) } ∧
        exec (.ptpAnnounceReceived p a) s = .next (if (portOf s1.net p).role = psSlave then takeUtc a s1 else s1)) ∧
    (∀ a, ptpPort s p = false ∨ (a.domain : Int) ≠ ptpSet s 0x000D0302 → exec (.ptpAnnounceReceived p a) s = .next s) ∧
    (∃ s1, s1 = selectMaster { s with net := (match p with
          | .a => { s.net with annA := none }
          | .b => { s.net with annB := none }) } ∧
        exec (.announceReceiptTimeout p) s =
          .next (if (bestPort s1).isNone then { s1 with spring := { s1.spring with ptpAlive := false } } else s1)) ∧
    (ptpPort s p = true → exec (.ptpPdelayMessage p .request) s = .next (sendOn [p] .ptpPdelay s.wakeCore) ∧
      ∀ d, exec (.ptpPdelayMessage p (.response d)) s =
        .next (modPort p (fun q => { q with pdelay := (d - (latRx s p + latTx s p) / 2).toNat }) s.wakeCore)) ∧
    (ptpPort s p = false → ∀ m, exec (.ptpPdelayMessage p m) s = .next s) ∧
    (let ports := bothPorts.filter (ptpPort s)
     let masters := ports.filter fun q => (portOf s.net q).role == psMaster
     exec .ptpMasterTransmit s =
       .next (sendOn ports .ptpPdelay (sendOn masters (.ptpAnnounce (ownClass s)) (sendOn masters .ptpSync s))))

/-- R28, R108, R111, R112, R114, R117, R212: SYNC_IN, the calendar and the oscillator. A 1PPS pulse of 1 µs or more with 100 ns low is
used as the source or the monitor that SRC makes of it; the selected edge of a trigger pulse is stamped and sent to the cells;
narrower pulses, and every pulse without a role, are ignored; a missing 1PPS raises FS51 once; a leap second moves the UTC
offset by its sign; the RTC is disciplined each second with VSYS; a failing oscillator monitor raises FS53, and one that is good
again clears it where the correction allows. (Choices of the model it rests on: logs 87, 88 and 130.) -/
def Obligations.SyncInputAndCalendar : Prop :=
  ∀ (s : State),
    (∀ r h l e f, h < 100 ∨ l < 100 → exec (.syncInEdge r h l e f) s = .next s) ∧
    (∀ h l e f, 100 ≤ h → 100 ≤ l →
      (ptpSet s 0x00050D01 = 1 →
        (1000 ≤ h → timeSrc s = 1 → exec (.syncInEdge true h l e f) s = .next (ppsSource e f s)) ∧
        (1000 ≤ h → timeSrc s ≠ 1 → exec (.syncInEdge true h l e f) s = .next (ppsMonitor e s)) ∧
        (h < 1000 → exec (.syncInEdge true h l e f) s = .next s) ∧ exec (.syncInEdge false h l e f) s = .next s) ∧
      (ptpSet s 0x00050D01 = 2 → ∀ r,
        (r = (ptpSet s 0x00050D02 == 0) → exec (.syncInEdge r h l e f) s = .next (sendTriggers (stampEdge s))) ∧
        (r ≠ (ptpSet s 0x00050D02 == 0) → exec (.syncInEdge r h l e f) s = .next s)) ∧
      (ptpSet s 0x00050D01 ≠ 1 → ptpSet s 0x00050D01 ≠ 2 → ∀ r, exec (.syncInEdge r h l e f) s = .next s)) ∧
    (timeSrc s = 1 → (s.fsrc 51).present = false → exec .ppsMissing s = .next (raiseFault 51 0 s)) ∧
    (timeSrc s ≠ 1 ∨ (s.fsrc 51).present = true → exec .ppsMissing s = .next s) ∧
    exec .leapSecondApply s = .next { s with spring := { s.spring with
      utcOfs := s.spring.utcOfs + (if s.spring.leap61 then 1 else if s.spring.leap59 then -1 else 0)
      leap61 := false, leap59 := false
      leapAt := if s.spring.leap61 || s.spring.leap59 then some (s.now, s.spring.leap61) else s.spring.leapAt } } ∧
    (s.pwr.vsysValid = true → exec .rtcDiscipline s = .next (clockGoodSecond (modSpring (fun p =>
      countSecond { p with rtcNs := p.mtNs, rtcFrom := some s.clk }) s))) ∧
    (s.pwr.vsysValid = false → exec .rtcDiscipline s = .next s) ∧
    (let s1 := (modSpring (fun p => { p with oscBad := true }) s).modSrc 53 fun f => { f with clearCount := 0 }
     ((s.fsrc 53).present = false → exec (.oscillatorMonitorFail false) s = .next (raiseFault 53 0 s1)) ∧
     ((s.fsrc 53).present = true → exec (.oscillatorMonitorFail false) s = .next s1)) ∧
    (let s1 := modSpring (fun p => { p with oscBad := false }) s
     ((s.fsrc 53).present = true → s.spring.freq.natAbs ≤ 90000 →
        exec (.oscillatorMonitorFail true) s = .next (clearFault 53 s1)) ∧
     ((s.fsrc 53).present = false ∨ 90000 < s.spring.freq.natAbs → exec (.oscillatorMonitorFail true) s = .next s1))

/-- R92 to R94, R105, R107, R115, R204: the time commands. SET_TICK with a code of its own waits for a shared tick, and a change that
waited is given up; RATE_CHANGE puts it in force there, 20 µs after it was accepted, at a tick no step was applied at, and at no
other; PTP_CONFIG takes its pairs whole and selects the master again, or answers BAD_PARAM; CLOCK_SET sets module time by a step
in UNSYNC and FREERUN, with the UTC offset where it is given, and is DENIED in the other states; a time that is no time is
BAD_PARAM. (Choices of the model it rests on: logs 58, 110 and 132.) -/
def Obligations.TimeCommands : Prop :=
  ∀ (s : State) (c : Ctx),
    let p := acceptPacket c s
    (∀ w, inModeList s [3] = true → reservedBad w 7 = false →
      (opsFull s c = false → field w 0 3 ≠ s.spring.code → exec (.setTick c [w]) s =
        .next (let s1 := startOp c (newOp c 0x07 0 w) (noteConfig c.src p)
          finishOpt (s.spring.next.bind fun r => r.ref) stAborted 0 []
            { s1 with spring := { s.spring with next := some ⟨field w 0 3, s.now, some (ctxRef c 0x07)⟩ } })) ∧
      (opsFull s c = false → field w 0 3 = s.spring.code → exec (.setTick c [w]) s =
        .next (let s1 := startOp c (newOp c 0x07 0 w) (noteConfig c.src p)
          finishOpt (s.spring.next.bind fun r => r.ref) stAborted 0 [] { s1 with spring := { s.spring with next := none } })) ∧
      (opsFull s c = true → exec (.setTick c [w]) s = .next (answer c stBusy [] p))) ∧
    (∀ r, s.spring.next = some r →
      (s.spring.ticked = true → s.spring.stretched = false → onGrid r.code s.spring.tk = true →
        r.accepted + 20000 ≤ s.spring.tk → ∃ s2, exec .rateChange s = .next (s2.mapCells fun _ x => aiRestart 0 x) ∧
          s2 = finishOpt r.ref stOk 0 [] (deactivateFor r.code { s with spring := { s.spring with
            code := r.code, num := gridIndex (tickRate r.code) s.spring.tk, next := none } })) ∧
      (s.spring.ticked = false ∨ s.spring.stretched = true ∨ onGrid r.code s.spring.tk = false ∨
        s.spring.tk < r.accepted + 20000 → exec .rateChange s = .next s)) ∧
    (s.spring.next = none → exec .rateChange s = .next s) ∧
    (∀ ws, inModeList s [3] = true →
      (∀ cfg, pairsApply ptpParams ptpOk s.net.ptp ws 0 = some cfg → exec (.ptpConfig c ws) s =
        .next (answer c stOk [] (selectMaster (noteConfig c.src { p with net := { s.net with ptp := cfg } })))) ∧
      (pairsApply ptpParams ptpOk s.net.ptp ws 0 = none → exec (.ptpConfig c ws) s = .next (answer c stBadParam [] p))) ∧
    (∀ a b w, inModeList s modesAll = true →
      (∀ t, tsParse a b = some (some t) → reservedBad w 0x1FFFF = false →
        ((s.spring.state = .unsync ∨ s.spring.state = .freerun) →
          let sp := { s.spring with rtcNs := t, rtcFrom := some s.clk, pendStep := some ((t : Int) - s.now), pendSlew := false }
          (bitOf w 16 = false → exec (.clockSet c [a, b, w]) s = .next (answer c stOk [] { p with spring := sp })) ∧
          (bitOf w 16 = true → exec (.clockSet c [a, b, w]) s = .next (answer c stOk [] { p with spring := { sp with
            utcOfs := signedOf 16 (field w 0 16), utcValid := true } }))) ∧
        (s.spring.state ≠ .unsync → s.spring.state ≠ .freerun →
          exec (.clockSet c [a, b, w]) s = .next (answer c stDenied [] p))) ∧
      ((∀ t, tsParse a b ≠ some (some t)) → exec (.clockSet c [a, b, w]) s = .next (answer c stBadParam [] p)))

/-! ### The frame and the engine (chapters 1, 5, 12) -/

/-- R18, R22, R23, R90, R119, R120, R127, R269, R274, R314, R343: a frame starts. A marker that is late, or that overtakes the one
before, raises FS52; the sluice commit takes the next tick and advances the tick count before the mode, the cells and the counts
follow, and a configuration load goes on with it; at the image, results that have not come are missing, subscriptions are judged,
the engine takes its program of the frame, the image is built from the cells as they then stand, the first evaluation starts
where the engine runs, and the culvert image goes out; a function whose high-impedance ticks have passed starts. Without ticks
none of them does anything but that load. (Choices of the model it rests on: logs 89 and 113.) -/
def Obligations.FrameStart : Prop :=
  ∀ (s : State),
    (ticking s = false →
      (∀ n, exec (.tickMarkerLaunch n) s = .next s) ∧ (∀ x, exec (.sluiceCommit x) s = .next (loadStep s)) ∧
      (∀ b, exec (.localImageComplete b) s = .next s) ∧ ∀ x, exec (.commitCutoff x) s = .next s) ∧
    (ticking s = true →
      (∀ n, n ≤ 20 → s.spring.launched = false → exec (.tickMarkerLaunch n) s = .next (goodCount 52 1000 true
        { s with spring := { s.spring with launched := true, onTime := s.spring.onTime + 1 } })) ∧
      (∀ n, (20 < n ∨ s.spring.launched = true) → exec (.tickMarkerLaunch n) s = .next (goodCount 52 1000 false
        { s with spring := { s.spring with launched := true, onTime := 0 } })) ∧
      (∀ x, ∃ s1 s2 s3, exec (.sluiceCommit x) s =
          .next (loadStep (countCommit (subHealth (clearNew (refreshPeers s3))))) ∧
        s3 = allCh.foldl (tickCell (s2.spring.cnt % 256) x) s2 ∧ s2 = modeCommit (discardOutputs (commitMode s1) s1) ∧
        s1 = soeTick (settleSetTick (advanceTick s)) ∧ (advanceTick s).spring.tkTq = s.tq ∧
        (s.spring.ticked = true → stackFollow s = false → (advanceTick s).spring.tk = nextTick s ∧
          (advanceTick s).spring.cnt = s.spring.cnt + 1 ∧ (advanceTick s).spring.launched = false)) ∧
      (∀ b, let s1 := frameSwitch (releaseEngine (expireSubs (goodCount 32 1000 b (allCh.foldl missingResult s))))
        let s2 := { s1 with ti := { s1.ti with work := buildImage s1 } }
        (s1.eng.running = true → modeEngineRuns s1.md.mode = true →
          exec (.localImageComplete b) s = .next (sendCasImage (firstEval (imageOf s2) s2))) ∧
        (s1.eng.running = false ∨ modeEngineRuns s1.md.mode = false →
          exec (.localImageComplete b) s = .next (sendCasImage s2)))) ∧
    (∀ ch, ((s.cell ch).hiz = some 0 → (fsCrcOk (startFunction (s.cell ch)).fs = true → exec (.functionStart ch) s =
          .next (writeMarker ch (condOff ch cbFsStore (s.modCell ch startFunction)))) ∧
        (fsCrcOk (startFunction (s.cell ch)).fs = false →
          exec (.functionStart ch) s = .next (writeMarker ch (s.modCell ch startFunction)))) ∧
      ((s.cell ch).hiz ≠ some 0 → exec (.functionStart ch) s = .next s))

/-- R276, R279 to R283, R290, R291, R337, R440: the engine's frame. The first evaluation, and each pass over the dirty operations,
copies its result to V when no value in use is speculative, and applies what was recorded or held meanwhile; with nothing
recorded V is the last result. None of it happens at C_k or later. The commit makes C equal to V, closes the window and takes
the registers of the frame; the frame counts as a fallback frame when V is not the last result; without a result the frame
commits nothing; a frame in which the engine started after the image is no frame of its. (Choices of the model it rests on:
logs 103, 113 and 150.) -/
def Obligations.EngineAndCommit : Prop :=
  ∀ (s : State),
    (∀ p, s.eng.active = some p → s.eng.window = true → s.eng.firstDone = false → afterCutoff s = false →
      let e := copyV { s.eng with firstDone := true, curEnd := workEnd s }
      exec .firstEvalComplete s = .next { s with eng := applyHeld' p e } ∧
      (noneSpeculative s.eng = true → e.memV = s.eng.memW ∧ e.blkV = s.eng.blkW ∧ e.haveV = true ∧ e.vIsLast = true) ∧
      (noneSpeculative s.eng = false → e.memV = s.eng.memV ∧ e.haveV = s.eng.haveV ∧ e.vIsLast = false) ∧
      e.memC = s.eng.memC ∧ e.pass = s.eng.pass ∧ ((∀ r ∈ s.eng.rems, r.want = r.use) → applyHeld' p e = e)) ∧
    (∀ p, s.eng.active = some p → s.eng.window = true → s.eng.firstDone = true → s.eng.pass = true → afterCutoff s = false →
      let r := takeEval (runReplay p s.eng.dirty (evalState s.eng)) s.eng
      let e := copyV { r with dirty := [], pass := false, curPass := satAdd 8 s.eng.curPass 1, curEnd := workEnd s }
      exec .replayPassComplete s = .next { s with eng := applyHeld' p e } ∧
      e.memW = (runReplay p s.eng.dirty (evalState s.eng)).mem ∧ e.memC = s.eng.memC ∧ e.dirty = [] ∧ e.pass = false ∧
      (noneSpeculative s.eng = true → e.memV = e.memW ∧ e.haveV = true ∧ e.vIsLast = true) ∧
      (noneSpeculative s.eng = false → e.memV = s.eng.memV ∧ e.haveV = s.eng.haveV ∧ e.vIsLast = false) ∧
      ((∀ r ∈ s.eng.rems, r.want = r.use) → applyHeld' p e = e)) ∧
    (s.eng.active = none ∨ s.eng.window = false ∨ afterCutoff s = true →
      exec .firstEvalComplete s = .next s ∧ exec .replayPassComplete s = .next s) ∧
    (s.eng.firstDone = true → exec .firstEvalComplete s = .next s) ∧
    (s.eng.firstDone = false ∨ s.eng.pass = false → exec .replayPassComplete s = .next s) ∧
    (ticking s = true → ∀ x, ∃ s1,
      exec (.commitCutoff x) s = .next (sendTickSymbol (sendService (flushGroup (goodCount 37 1000 (!x.outMissed) s1)))) ∧
      (modeEngineRuns s.md.mode = false ∨ startedMidFrame s = true → s1 = stoppedFrame x s) ∧
      (modeEngineRuns s.md.mode = true → ∀ p, s.eng.active = some p → s.eng.running = true → s.eng.window = true →
        s.eng.haveV = true → s.eng.eccBad = false → s1 = commitFrame p x s) ∧
      (modeEngineRuns s.md.mode = true → startedMidFrame s = false → canCommit s = false → s1 = emptyFrame s)) ∧
    (∀ late, let e := closeWindowLe (commitV late s.eng)
      e.memC = s.eng.memV ∧ e.blkC = s.eng.blkV ∧ e.lastFb = !s.eng.vIsLast ∧ e.window = false ∧ e.haveV = false ∧
      e.lastPass = s.eng.curPass ∧ e.lastEnd = s.eng.curEnd ∧ e.lastAb = s.eng.pass ∧
      e.cFallback = satAdd 32 s.eng.cFallback (if s.eng.vIsLast then 0 else 1) ∧ e.cLate = satAdd 32 s.eng.cLate late ∧
      e.cRevert = satAdd 32 s.eng.cRevert s.eng.revNew ∧ e.revNew = 0)

/-! ### Logic programs, images, attestation (chapters 12 and 20) -/

/-- R272, R284, R285, R287, R288: LP_STAGE loads a verified slot and answers DENIED for another; the load ends with FLASH, with
RESOURCE and an empty bank, or with the program in the staging bank. LP_ACTIVATE without a staged program answers RESOURCE, and
so it does with one that no longer passes; with the engine stopped it activates at once, with it running it waits for a frame
start, and in the committing modes it needs ONLINE and the same binding. LP_STATS and LP_READ_VAR answer, and change at most
the counters. (Choices of the model it rests on: logs 30, 110 and 147.) -/
def Obligations.LogicPrograms : Prop :=
  ∀ (s : State) (c : Ctx) (w : Word),
    let p := acceptPacket c s
    (inModeList s modesNo8 = true → reservedBad w 1 = false →
      (opRuns s [0x40, 0x41] = true ∨ opsFull s c = true → exec (.lpStage c [w]) s = .next (answer c stBusy [] p)) ∧
      (opRuns s [0x40, 0x41] = false → opsFull s c = false →
        (slotVerified (slotOf s (2 + field w 0 1)) = false → exec (.lpStage c [w]) s = .next (answer c stDenied [] p)) ∧
        (slotVerified (slotOf s (2 + field w 0 1)) = true → exec (.lpStage c [w]) s =
          .next (startOp c (newOp c 0x40 0 w) { p with eng := { s.eng with staged := none } })))) ∧
    (∀ o, opByCode s 0x40 = some o →
      exec (.lpStageComplete false) s = .next (finishOp o.ref stFault rcFlash [] (raiseFault 82 0 s)) ∧
      exec (.lpStageComplete true) s = .next (match slotProgram s (2 + field o.arg 0 1) with
        | some q => if programOk s q then finishOp o.ref stOk 0 [] { s with eng := { s.eng with staged := some q } }
          else finishOp o.ref stResource 0 [] s
        | none => finishOp o.ref stResource 0 [] s)) ∧
    (opByCode s 0x40 = none → ∀ b, exec (.lpStageComplete b) s = .next s) ∧
    ((inModeList s [3, 4, 7] = true ∨ (inModeList s [5, 6, 10] = true ∧ bitOf w 0 = true)) → reservedBad w 1 = false →
      opRuns s [0x40, 0x41] = false → opsFull s c = false →
      (s.eng.staged = none → exec (.lpActivate c [w]) s = .next (answer c stResource [] p)) ∧
      (∀ q, s.eng.staged = some q →
        (onlineOk s (bitOf w 0) q = false → exec (.lpActivate c [w]) s = .next (answer c stWrongMode [] p)) ∧
        (onlineOk s (bitOf w 0) q = true → q.code ≠ s.spring.code ∨ recheckOk s q = false →
          exec (.lpActivate c [w]) s = .next (answer c stResource [] p)) ∧
        (onlineOk s (bitOf w 0) q = true → q.code = s.spring.code → recheckOk s q = true →
          (s.eng.running = false → exec (.lpActivate c [w]) s =
            .next (activateNow (ctxRef c 0x41) (bitOf w 0) (startOp c (newOp c 0x41 0 w) p))) ∧
          (s.eng.running = true → ∃ t, exec (.lpActivate c [w]) s = .next t ∧
            t.eng = { s.eng with actPend := some ⟨ctxRef c 0x41, bitOf w 0⟩ } ∧
            t = { startOp c (newOp c 0x41 0 w) p with eng := t.eng })))) ∧
    (inModeList s [1, 2, 3, 4, 5, 6, 7, 8, 9, 10] = true → reservedBad w 1 = false → exec (.lpStats c [w]) s =
      .next (answer c stOk (lpStatsWords s) (if bitOf w 0 then { p with eng := clearCounters s.eng } else p))) ∧
    (inModeList s modesAll = true → s.eng.active.isSome = true → reservedBad w 0x1FFF0003 = false → ∀ n,
      (∀ l, varValues s (field w 0 2) (field w 16 13) n.toNat = some l → exec (.lpReadVar c [w, n]) s =
        .next (answer c stOk (lo32 s.eng.frameCnt :: hi32 s.eng.frameCnt :: l) p)) ∧
      (varValues s (field w 0 2) (field w 16 13) n.toNat = none →
        exec (.lpReadVar c [w, n]) s = .next (answer c stBadParam [] p)))

/-- R464 to R467, R469, R411: images. IMG_BEGIN takes only the service port, refuses a length beyond the slot, erases the target and
opens the transfer; a block that arrives whole is written when its CRC is right and else answers FAULT BLOCK_CRC, and without a
transfer there is none; a verification ends with the first check that fails; an activation compares the digest before it writes
anything, and but for a logic image it is followed by a reset. R474, R479: OWNER_ENROL takes only the service port; parts of the
record are kept until it is whole. ATTEST with a nonce starts the report, with REREAD it answers a window of the last one; the
report ends the command with its length. (Choices of the model it rests on: logs 24, 32, 110 and 149.) -/
def Obligations.FirmwareImagesAndOwner : Prop :=
  (∀ (s : State) (c : Ctx) (ws : List Word),
      let p := acceptPacket c s
      let ty := field (par ws 1) 0 2
      (imgModes s c.src [9] ty = true → reservedBad (par ws 1) 3 = false → ws.length = 2 → (par ws 2).toNat % 4096 = 0 →
        (c.src ≠ .service → exec (.imgBegin c ws) s = .next (answer c stDenied [] p)) ∧
        (c.src = .service → ty = 0 → s.fw.trial = true → s.fw.bootCfw = s.fw.actCfw →
          exec (.imgBegin c ws) s = .next (answer c stDenied [] p)) ∧
        (c.src = .service → (ty ≠ 0 ∨ s.fw.trial = false ∨ s.fw.bootCfw ≠ s.fw.actCfw) →
          (slotBlocks ty < (par ws 2).toNat / 4096 → exec (.imgBegin c ws) s = .next (answer c stResource [] p)) ∧
          ((par ws 2).toNat / 4096 ≤ slotBlocks ty → ∃ s1, exec (.imgBegin c ws) s = .next (answer c stOk [] s1) ∧
            s1.fw.xfer = some ⟨ty, transferTarget s ty, (par ws 2).toNat / 4096, []⟩ ∧
            slotOf s1 (transferTarget s ty) = {} ∧ s1.cells = s.cells ∧ s1.eng = s.eng))) ∧
      (imgModes s c.src [9] ((s.fw.xfer.map fun x => x.ty).getD 0) = true →
        (c.src ≠ .service → exec (.imgBlock c ws) s = .next (answer c stDenied [] p)) ∧
        (c.src = .service → s.fw.xfer = none → exec (.imgBlock c ws) s = .next (answer c stBadParam [] p)) ∧
        (c.src = .service → ∀ x, s.fw.xfer = some x → (par ws 1).toNat < x.blocks → reservedBad (par ws 2) 0xFFFFFF = false →
          exec (.imgBlock c ws) s = .next (takePart c 0x91 (par ws 1).toNat (field (par ws 2) 0 16) (field (par ws 2) 16 8)
            (ws.drop 2) (fun _ => some 1024) (writeBlock c (par ws 1).toNat x) p))) ∧
      (imgModes s c.src modesNo8 ty = true → reservedBad (par ws 1) 0x103 = false → ws.length = 1 →
        opRuns s [0x92, 0x93] = false → opsFull s c = false →
        exec (.imgVerify c ws) s = .next (startOp c (newOp c 0x92 0 (par ws 1)) p)) ∧
      (∀ o, opByCode s 0x92 = some o → ∀ v, exec (.imgVerifyComplete v) s = .next (finishVerify o v s)) ∧
      (opByCode s 0x92 = none → ∀ v, exec (.imgVerifyComplete v) s = .next s) ∧
      (imgModes s c.src [3, 7, 9] ty = true → reservedBad (par ws 1) 0x103 = false → ws.length = 5 →
        opRuns s [0x92, 0x93] = false → opsFull s c = false →
        let slot := field (par ws 1) 8 1
        let s1 := startOp c (newOp c 0x93 0 (par ws 1)) p
        (slotVerified (slotOf s (2 * ty + slot)) = false → exec (.imgActivate c ws) s = .next (answer c stDenied [] p)) ∧
        (slotVerified (slotOf s (2 * ty + slot)) = true → (slotDigest s (2 * ty + slot)).take 4 ≠ ws.drop 1 →
          exec (.imgActivate c ws) s =
            .next (finishOp (ctxRef c 0x93) stFault rcDigest [] (noteUpdate stFault rcDigest ty slot s1))) ∧
        (slotVerified (slotOf s (2 * ty + slot)) = true → (slotDigest s (2 * ty + slot)).take 4 = ws.drop 1 →
          let s2 := finishOp (ctxRef c 0x93) stOk 0 [] (noteUpdate stOk 0 ty slot (activate ty slot s1))
          (ty = 1 → exec (.imgActivate c ws) s = .next s2) ∧
          (ty ≠ 1 → exec (.imgActivate c ws) s =
            .next { s2 with md := { s2.md with rstDue := s2.md.rstDue <|> some ⟨6, false, 0xFF⟩ } })))) ∧
  (∀ (s : State) (c : Ctx) (ws : List Word),
      let p := acceptPacket c s
      (inModeList s [9] = true → reservedBad (par ws 1) 0xFFFFFF = false → ∀ sig,
        (c.src ≠ .service → exec (.ownerEnrol c ws sig) s = .next (answer c stDenied [] p)) ∧
        (c.src = .service → exec (.ownerEnrol c ws sig) s = .next (takePart c 0x95 0 (field (par ws 1) 0 16)
          (field (par ws 1) 16 8) (ws.drop 1) (fun l => l.head?.map fun w => field w 0 16) (enrol c sig) p))) ∧
      (inModeList s modesAll = true → (s.fw.reportCtx.isSome = true → exec (.attest c ws) s = .next (answer c stBusy [] p)) ∧
        (s.fw.reportCtx.isSome = false → reservedBad (par ws 1) 1 = false →
          (bitOf (par ws 1) 0 = false → ws.length = 9 → opsFull s c = false → exec (.attest c ws) s =
            .next (startOp c (newOp c 0x94 0 0)
              { p with fw := { s.fw with reportCtx := some (ctxRef c 0x94), reportNonce := ws.drop 1 } })) ∧
          (∀ r, bitOf (par ws 1) 0 = true → ws.length = 3 → s.fw.report = some r → 1 ≤ (par ws 3).toNat →
            (par ws 3).toNat ≤ 240 → (par ws 2).toNat < r.length → exec (.attest c ws) s = .next (answer c stOk
              (BitVec.ofNat 32 r.length :: par ws 2 :: (r.drop (par ws 2).toNat).take (par ws 3).toNat) p)))) ∧
      (∀ r, s.fw.reportCtx = some r → ∃ s1, exec .attestComplete s =
          .next (finishOp r stOk 0 [BitVec.ofNat 32 (buildReport s s.fw.reportNonce).length] s1) ∧
        s1.fw = { s.fw with report := some (buildReport s s.fw.reportNonce), reportCtx := none, reportNonce := [] } ∧
        s1 = { s with fw := s1.fw, free := s.free + 1 }) ∧
      (s.fw.reportCtx = none → exec .attestComplete s = .next s))

/-! ### Records, events and life counters (chapter 19) -/

/-- R441 to R446: a REC_CONFIG that fits the load is in force at once, and one that changes the slots or lengths discards every
waveform; REC_TRIGGER sets its bit for the next commit; the record whose POST ticks are written closes and is held; REC_READ
of record 0 answers the summaries, of a held record its stream, of another BAD_PARAM. R451, R453 to R455: SOE_READ answers
entries of the log it names, oldest first, with the index of the first and the next one; LIFE_READ answers the counters of
the module or of one channel; the save writes every counter to MRAM, the copy gives each cell whose lane is up its own
counters. R11: a read of a memory that holds a bad word ends as it would without, or answers FAULT ECC with no data; a memory
that holds none gives the data. (Choices of the model it rests on: logs 19, 32, 66 and 137.) -/
def Obligations.RecordsAndLifeCounters : Prop :=
  (∀ (s : State) (c : Ctx) (ws : List Word),
      let p := acceptPacket c s
      (inModeList s [3] = true → ∀ cfg, pairsApply recParams recOk s.recs.cfg ws 0 = some cfg →
        let geom := fun (l : List (Nat × Int)) => [0x00130302, 0x00130303, 0x00130304].map fun i => valueIn recParams l i
        let s1 := noteConfig c.src { p with recs := { s.recs with cfg := cfg } }
        (loadOk s1 = false → exec (.recConfig c ws) s = .next (answer c stResource [] p)) ∧
        (loadOk s1 = true → geom cfg = geom s.recs.cfg → exec (.recConfig c ws) s = .next (answer c stOk [] (noteBudget s1))) ∧
        (loadOk s1 = true → geom cfg ≠ geom s.recs.cfg → ∃ t, exec (.recConfig c ws) s = .next (answer c stOk [] t) ∧
          t.recs.slots = Vector.replicate 16 [] ∧ t.recs.opened = none ∧ (∀ r ∈ t.recs.sums, r.held = false))) ∧
      (inModeList s [4, 5, 6, 7, 10] = true → ∀ w, ws = [w] → reservedBad w 0xF = false → exec (.recTrigger c ws) s =
        .next (answer c stOk [] { p with recs := { s.recs with
          trigReq := s.recs.trigReq ||| BitVec.ofNat 16 (2 ^ field w 0 4) } })) ∧
      (∀ r, s.recs.opened = some r → (s.recs.post = 0 → ∃ t, exec .recordClose s = .next t ∧ t.recs.opened = none ∧
          (∃ d, t.recs.sums.head? = some d ∧ d.held = true ∧ d.num = r.num ∧ d.mask = r.mask ∧ d.funcs = r.funcs ∧
            d.slot = s.recs.wslot) ∧ t = { s with recs := t.recs }) ∧
        (s.recs.post ≠ 0 → exec .recordClose s = .next s)) ∧
      (s.recs.opened = none → exec .recordClose s = .next s) ∧
      (inModeList s modesAll = true → reservedBad (par ws 1) 0xFFFF = false → ws.length = 3 → 1 ≤ (par ws 3).toNat →
        (par ws 3).toNat ≤ 240 →
        (field (par ws 1) 0 16 = 0 → exec (.recRead c ws) s = .next (memoryRead 1 c 0x72 (answerStream c
          (s.recs.sums.flatMap fun r => (summaryWords r).flatMap wordBytes) (par ws 2).toNat (par ws 3).toNat id) p)) ∧
        (field (par ws 1) 0 16 ≠ 0 → (∀ r ∈ s.recs.sums, r.held = true → r.num ≠ field (par ws 1) 0 16) →
          exec (.recRead c ws) s = .next (answer c stBadParam [] p)) ∧
        (∀ r, field (par ws 1) 0 16 ≠ 0 → (heldSums s).find? (fun x => x.num == field (par ws 1) 0 16) = some r →
          exec (.recRead c ws) s = .next (memoryRead 0 c 0x72 (answerStream c (exportStream p r) (par ws 2).toNat (par ws 3).toNat
            (noteRead r.num (par ws 2).toNat (par ws 3).toNat (exportStream p r).length)) p)))) ∧
  (∀ (s : State) (c : Ctx),
      let p := acceptPacket c s
      (inModeList s modesAll = true → ∀ w a n, reservedBad w 1 = false →
        let r := if bitOf w 0 then soeFrom s.soe.mlog (s.soe.midx % 2 ^ 32) a.toNat n.toNat
          else soeFrom s.soe.ring (s.soe.idx % 2 ^ 32) a.toNat n.toNat
        exec (.soeRead c [w, a, n]) s = .next (memoryRead (if bitOf w 0 then 1 else 0) c 0x73 (answer c stOk
          (BitVec.ofNat 32 r.1 :: BitVec.ofNat 32 (r.1 + r.2.length) :: r.2.flatMap soeWords)) p) ∧
        r.2.length ≤ n.toNat ∧ r.2.length ≤ 82) ∧
      (inModeList s modesAll = true → ∀ w : Word, reservedBad w 0xFF = false →
        (field w 0 8 = 0xFF → exec (.lifeRead c [w]) s = .next (memoryRead 1 c 0x74
          (fun s1 => answer c stOk (pairWords s1.life.ctrs.toList) s1) (lifeCount p))) ∧
        (∀ ch, chOf w = some ch → exec (.lifeRead c [w]) s = .next (memoryRead 1 c 0x74
          (fun s1 => answer c stOk (pairWords (s1.cell ch).life.toList) s1) (lifeCount p)))) ∧
      (∀ (m : Fin 3) (op : Nat) (f : State → State), (s.scrub[m].bad = [] → memoryRead m c op f s = f s) ∧
        (s.scrub[m].bad ≠ [] → memoryRead m c op f s = answerFault c op rcEcc s.drawFree ∨
          memoryRead m c op f s = f s.drawFree)) ∧
      (coreOn s = true → ∃ t, exec .lifeCounterSave s = .next t ∧ t.life.saved = t.life.ctrs ∧ t.life.savedAt = s.clk ∧
        (∀ ch, t.cell ch = { s.cell ch with lifeSaved := (s.cell ch).life }) ∧
        t = { s with life := t.life, cells := t.cells, free := s.free + 1 }) ∧
      (coreOn s = false → exec .lifeCounterSave s = .next s) ∧
      (∃ t, exec .lifeCellCopy s = .next t ∧ t = { s with cells := t.cells } ∧ ∀ ch, t.cell ch =
        (if (s.cell ch).lane.state = .up then { s.cell ch with lifeCopy := (s.cell ch).life } else s.cell ch)))

/-! ### The fault collector (chapter 18) -/

/-- Table 18-1, R11, R26, R431 to R433: what each detector does while the core runs; with the core off it does nothing. A single-bit
error of a scrubbed memory is counted and nothing else; an uncorrectable one marks its word and raises the source of its memory,
with the engine's frame lost; a word corrected in two passes raises its source; a handshake that times out stops its crossing,
or reinitialises it where the other side only reset, and what was lost is FS35, once in a stoppage; a probe that is answered restores it; an
accumulator that saturates raises FS34. R424, R426, R427: an error hold ends when its time has passed, its source is not present
and, with LATCH, it was acknowledged; else it stays. Every 500 µs the dynamic mode takes its setting, and the pair alternates
only while the watchdog is serviced and lockstep matches. (Choices of the model it rests on: logs 102, 103 and 137.) -/
def Obligations.FaultDetectorsAndHolds : Prop :=
  (∀ (s : State), coreOn s = true →
      exec .lockstepMismatch s = .next (raiseFault 92 0 { s with md := { s.md with lockBad := true } }) ∧
      exec .processorWatchdogExpire s = .next (raiseFault 93 0 { s with md := { s.md with wdogBad := true } }) ∧
      (∀ trng, exec (.seHealthTestFail trng) s = .next (raiseFault 91 0 s)) ∧
      (∀ a, let mark := fun (i : Fin 3) (t : State) => t.scrub[i].bad = a :: s.scrub[i].bad.filter (fun b => b != a) ∧
          t = { s with scrub := t.scrub }
        (∃ t, exec (.memoryEccError .dram a false) s = .next t ∧ t = { s with scrub := t.scrub } ∧ t.scrub[0].bad = s.scrub[0].bad) ∧
        (∃ t, exec (.memoryEccError .mram a false) s = .next t ∧ t = { s with scrub := t.scrub } ∧ t.scrub[1].bad = s.scrub[1].bad) ∧
        (∃ t, exec (.memoryEccError .sram a false) s = .next t ∧ t = { s with scrub := t.scrub } ∧ t.scrub[2].bad = s.scrub[2].bad) ∧
        (∃ t, exec (.memoryEccError .dram a true) s = .next (raiseFault 81 (a / 4 % 65536) t) ∧ mark 0 t) ∧
        (∃ t, exec (.memoryEccError .mram a true) s = .next (raiseFault 85 (a / 4 % 65536) t) ∧ mark 1 t) ∧
        (∃ t, exec (.memoryEccError .sram a true) s = .next (raiseFault 87 (a / 4 % 65536) t) ∧ mark 2 t) ∧
        (∀ d, exec (.memoryEccError .flash a d) s = .next (raiseFault 82 (a / 4 % 65536) s)) ∧
        exec (.memoryEccError .engine a true) s = .next (raiseFault 64 0 { s with eng := { s.eng with eccBad := true } }) ∧
        exec (.memoryEccError .engine a false) s =
          .next { s with eng := { s.eng with eccFix := s.eng.eccFix + 1 } }) ∧
      (∀ m l, ∃ t, exec (.memoryScrubPass m l) s = .next ((l.filter fun a => (s.scrub[scrubIdx m]).last.contains a).foldl
          (fun x a => raiseFault (scrubFs m) (a / 4 % 65536) x) t) ∧
        (t.scrub[scrubIdx m]).last = l ∧ (t.scrub[scrubIdx m]).single = (s.scrub[scrubIdx m]).single + l.length ∧
        t = { s with scrub := t.scrub }) ∧
      (∀ row lost reset, (s.xing[row].stopped = true → lost = 0 ∨ s.xing[row].lossSeen = true →
          exec (.crossingTimeout row lost reset) s = .next s) ∧
        (s.xing[row].stopped = true → 0 < lost → s.xing[row].lossSeen = false → exec (.crossingTimeout row lost reset) s =
          .next (raiseFault 35 (xingDetail row lost) (modXing row (fun x => { x with lossSeen := true }) s))) ∧
        (s.xing[row].stopped = false → row.val ≠ 2 → row.val ≠ 4 →
          let s1 := raiseFault 33 (row.val + 1)
            (modXing row (fun x => { x with stopped := !reset, lossSeen := !reset && decide (0 < lost) }) s)
          (lost = 0 → reset = false → exec (.crossingTimeout row lost reset) s = .next s1) ∧
          (0 < lost ∨ reset = true →
            exec (.crossingTimeout row lost reset) s = .next (raiseFault 35 (xingDetail row lost) s1))) ∧
        (s.xing[row].stopped = false → row.val = 2 ∨ row.val = 4 →
          (lost = 0 → exec (.crossingTimeout row lost reset) s = .next s) ∧
          (0 < lost → exec (.crossingTimeout row lost reset) s = .next (raiseFault 35 (xingDetail row lost) s)))) ∧
      (∀ row, (s.xing[row].stopped = true → ∃ t, exec (.crossingProbe row true) s = .next t ∧ t.xing[row].stopped = false ∧
          t = { s with xing := t.xing }) ∧
        (s.xing[row].stopped = false → exec (.crossingProbe row true) s = .next s) ∧
        exec (.crossingProbe row false) s = .next s ∧
        (row.val ≠ 2 → row.val ≠ 4 → s.xing[row].stopped = false ∨ s.xing[row].satF = false →
          exec (.crossingPulseSaturate row) s =
            .next (raiseFault 34 (row.val + 1) (modXing row (fun x => { x with acc := 15, satF := true }) s))) ∧
        (row.val = 2 ∨ row.val = 4 ∨ (s.xing[row].stopped = true ∧ s.xing[row].satF = true) →
          exec (.crossingPulseSaturate row) s = .next s)) ∧
      exec (.couplerDriverSupplyFault true) s =
        .next (levelFault 39 false true { s with pwr := { s.pwr with drvFault := false } }) ∧
      exec (.couplerDriverSupplyFault false) s =
        .next (levelFault 39 true false { s with pwr := { s.pwr with drvFault := true } }) ∧
      (∀ b, (s.flt.settle.any fun w => w.block == b) = false → exec (.settleWindowClose b) s = .next s) ∧
      (∀ b, (s.flt.settle.any fun w => w.block == b) = true → exec (.settleWindowClose b) s = .next (closeWindow b s))) ∧
  (∀ (s : State), coreOn s = false →
      (exec .lockstepMismatch s = .next s ∧ exec .processorWatchdogExpire s = .next s ∧ exec .errDynToggle s = .next s) ∧
      (∀ x, exec (.seHealthTestFail x) s = .next s ∧ exec (.couplerDriverSupplyFault x) s = .next s) ∧
      (∀ m a d, exec (.memoryEccError m a d) s = .next s) ∧ (∀ m l, exec (.memoryScrubPass m l) s = .next s) ∧
      (∀ row l r, exec (.crossingTimeout row l r) s = .next s ∧ exec (.crossingProbe row r) s = .next s ∧
        exec (.crossingPulseSaturate row) s = .next s) ∧ ∀ b, exec (.settleWindowClose b) s = .next s) ∧
  (∀ (s : State),
      (∀ n, (s.fsrc n).holdFrom.isSome = true → ∃ t, exec (.errHoldExpire n) s = .next t ∧
        ((s.fsrc n).present = false → (s.flt.errLatch = false ∨ (s.fsrc n).holdAcked = true) → (t.fsrc n).holdFrom = none) ∧
        ((s.fsrc n).present = true → (t.fsrc n).holdFrom = (s.fsrc n).holdFrom) ∧
        (s.flt.errLatch = true → (s.fsrc n).holdAcked = false → (t.fsrc n).holdFrom = (s.fsrc n).holdFrom) ∧
        (∀ k, k ≠ n → t.fsrc k = s.fsrc k) ∧ t = { s with srcs := t.srcs }) ∧
      (coreOn s = true → ∃ t, exec .errDynToggle s = .next t ∧ t.flt.errDynNow = s.flt.errDyn ∧
        t.flt.errPhase = (if s.flt.errDyn = true ∧ s.md.wdogBad = false ∧ s.md.lockBad = false then !s.flt.errPhase
          else s.flt.errPhase) ∧ t = { s with flt := { s.flt with errDynNow := t.flt.errDynNow, errPhase := t.flt.errPhase } }))

/-- R352, R410, R418, R419, R429, R434: FLT_CONFIG sets N, W and the masks of a source, empties its weir, and keeps CHIP and ERR for FS92
and FS93; FLT_READ answers the history of a source, of a cause bit of a cell, the summary of the module or of a worker;
FLT_CLEAR of one source, or of all, leaves a present source as it is, and with HISTORY clears the histories; a factory opcode is
BAD_OPCODE outside FACTORY_TEST, and within it a fault, a memory error, a lane check error or a stopped clock is injected. R37,
R435, R461, R463, R473, R478: tamper and the service entries. While the backup domain has a supply an open sample latches with
its time once and keeps it, the core's time or, with the core off, the RTC's within 2 ppm, and with the core running raises FS90
and closes the sessions; a closed one leaves the latch; SEC_CTL with its code clears it in SERVICE alone. SVC_EN_N starts the
port, and high stops it with the open transfer; the factory key asks for FACTORY_TEST from SERVICE with the port on. A partial
record goes. (Choices of the model it rests on: logs 32, 82, 104, 107 and 137.) -/
def Obligations.FaultAndServiceCommands : Prop :=
  (∀ (s : State) (c : Ctx) (ws : List Word),
      let p := acceptPacket c s
      (inModeList s [3] = true → fltConfigOk ws = true → ∀ n : Fin 96, n.val = field (par ws 1) 0 7 →
        exec (.fltConfig c ws) s = .next (answer c stOk [] (noteConfig c.src (setClass n ws p))) ∧
        ((setClass n ws p).fsrc n).n = field (par ws 1) 8 4 + 1 ∧ ((setClass n ws p).fsrc n).w = (par ws 2).toNat ∧
        ((setClass n ws p).fsrc n).weir = [] ∧
        (n.val ≠ 92 → n.val ≠ 93 → ((setClass n ws p).fsrc n).maskN = BitVec.ofNat 6 (field (par ws 3) 0 6)) ∧
        ((n.val = 92 ∨ n.val = 93) → ((setClass n ws p).fsrc n).maskN &&& 0x18 = 0x18 ∧
          ((setClass n ws p).fsrc n).maskS &&& 0x18 = 0x18)) ∧
      (inModeList s [3] = true → fltConfigOk ws = false → exec (.fltConfig c ws) s = .next (answer c stBadParam [] p)) ∧
      (inModeList s modesAny = true → ∀ w, ws = [w] → reservedBad w 0x803F1F7F = false →
        (∀ l, fltReadWords p w = some l → exec (.fltRead c ws) s = .next (memoryRead 1 c 0x81 (answer c stOk l) p)) ∧
        (fltReadWords p w = none → exec (.fltRead c ws) s = .next (answer c stBadParam [] p)) ∧
        (bitOf w 31 = true → fltReadWords p w = (findWorker s (field w 16 6)).map fun k => k.summary) ∧
        (bitOf w 31 = false → field w 0 7 = 0x7F → fltReadWords p w = some (fltSummaryWords p)) ∧
        (bitOf w 31 = false → ∀ n : Fin 96, n.val = field w 0 7 →
          (32 ≤ n.val ∨ field w 8 5 = 0x1F →
            fltReadWords p w = some (histWords p (s.fsrc n) (s.fsrc n).present (s.fsrc n).hist)) ∧
          (∀ (ch : Ch) (b : Fin 26), ch.val = n.val → b.val = field w 8 5 → fltReadWords p w =
            some (histWords p (s.fsrc n) ((s.cell ch).causeNow.getLsbD b.val) (s.cell ch).causeHist[b])))) ∧
      (inModeList s modesAll = true → ∀ w, ws = [w] → reservedBad w 0x17F = false →
        (∀ n : Fin 96, n.val = field w 0 7 → ∃ s1, exec (.fltClear c ws) s = .next (answer c stOk [] s1) ∧
          s1 = clearSource (bitOf w 8) n p ∧ (∀ k, k ≠ n → s1.fsrc k = s.fsrc k) ∧
          (bitOf w 8 = false → s1.cells = s.cells ∧ ((s.fsrc n).present = true → s1.fsrc n = s.fsrc n) ∧
            ((s.fsrc n).present = false → s1.fsrc n = { s.fsrc n with severe := false, weir := [] })) ∧
          (bitOf w 8 = true → (s1.fsrc n).hist.count = 0 ∧ (s1.fsrc n).present = (s.fsrc n).present ∧
            ∀ ch : Ch, ch.val = n.val → ∀ b : Fin 26, (s1.cell ch).causeHist[b].count = 0)) ∧
        (field w 0 7 = 0x7F → exec (.fltClear c ws) s = .next (answer c stOk []
          ((List.finRange 96).foldl (fun x n => clearSource (bitOf w 8) n x) p))) ∧
        (96 ≤ field w 0 7 → field w 0 7 ≠ 0x7F → exec (.fltClear c ws) s = .next (answer c stBadParam [] p))) ∧
      (s.md.mode ≠ .m11 → ∀ op, exec (.factoryCommand c op) s = .next (answer c stBadOpcode [] p)) ∧
      (s.md.mode = .m11 →
        (∀ fs bit, (fs.val ≠ 95 → exec (.factoryCommand c (.inject fs bit)) s = .next (answer c stOk [] (injectFault fs bit p))) ∧
          (fs.val = 95 → exec (.factoryCommand c (.inject fs bit)) s = .next (answer c stBadParam [] p))) ∧
        (∀ m a d, exec (.factoryCommand c (.memoryWord m a d)) s =
          .next (answer c stOk [] (memoryFound raiseInjected m a d p))) ∧
        (∀ ch b, exec (.factoryCommand c (.laneCheck ch b)) s = .next (answer c stOk [] (resend ch b rcLaneCrc p))) ∧
        (∀ row, exec (.factoryCommand c (.stopClock row)) s = .next (answer c stOk [] (injectStop row p))) ∧
        (∀ k, exec (.factoryCommand c (.other k)) s = .refused .factoryOpcodeNotDescribed))) ∧
  (∀ (s : State),
      (tamperRuns s = false → ∀ b, exec (.tamperSample b) s = .next s) ∧
      (tamperRuns s = true →
        let closed := { s with fw := { s.fw with loopOpen := false } }
        (coreOn s = true → exec (.tamperSample true) s = .next (tamperReact (latchTamper s)) ∧
          exec (.tamperSample false) s = .next (clearFault 90 closed)) ∧
        (coreOn s = false → exec (.tamperSample true) s = .next (latchTamper s) ∧
          exec (.tamperSample false) s = .next closed)) ∧
      (s.fw.tamper = true → latchTamper s = { s with fw := { s.fw with loopOpen := true } }) ∧
      (s.fw.tamper = false → coreOn s = true →
        latchTamper s = { s with fw := { s.fw with loopOpen := true, tamper := true, tamperTs := some s.now } }) ∧
      (s.fw.tamper = false → coreOn s = false → ∃ t, latchTamper s = { s with free := s.free + 1, fw := { s.fw with
          loopOpen := true, tamper := true, tamperTs := some t } } ∧
        let most := (s.clk - s.spring.rtcFrom.getD 0) * 2 / 1000000
        t ≤ rtcNow s + most ∧ rtcNow s ≤ t + most) ∧
      (∀ v : Word, (v.toNat % 65536 = 0x7A3C → s.md.mode = .m9 → exec (.secCtlClearTamper v) s =
          .next { s with fw := { s.fw with tamper := false, tamperTs := none } }) ∧
        ((v.toNat % 65536 ≠ 0x7A3C ∨ s.md.mode ≠ .m9) → exec (.secCtlClearTamper v) s = .next s)) ∧
      exec .svcEnNLow s = .next { s with fw := { s.fw with svcOn := true } } ∧
      (∃ t, exec .svcEnNHigh s = .next t ∧ t.fw = { s.fw with svcOn := false, xfer := none } ∧ t.md = s.md ∧
        (∀ q, q ∈ t.parts ↔ q ∈ s.parts ∧ ¬ (q.src = .service ∧ q.opcode = 0x91)) ∧
        t = { s with fw := t.fw, parts := t.parts }) ∧
      (s.md.mode = .m9 → s.fw.svcOn = true → exec .factoryKeyPresented s = .next (decideMode .factory s)) ∧
      ((s.md.mode ≠ .m9 ∨ s.fw.svcOn = false) → exec .factoryKeyPresented s = .next s) ∧
      (∀ src op, ∃ t, exec (.partialRecordDiscard src op) s = .next t ∧
        (∀ q, q ∈ t.parts ↔ q ∈ s.parts ∧ ¬ (q.src = src ∧ q.opcode = op.toNat)) ∧ t = { s with parts := t.parts }))

/-! ### The host port and the other transports (chapters 13 to 15, 20) -/

/-- R60, R357 to R367, R375, R376: frames. A NOP frame changes counts alone; a REG read answers the values with their check word, a
REG write writes in address order, neither without its check word; a read that meets the stretch limit is BUSY and does nothing
else; a PKT frame wakes the core and runs its packet when there is room; an RSP frame takes the head entry once all of it was
clocked, and with AGAIN repeats the last; a malformed frame is counted and rejected; without a clock edge, or before the port
accepts frames, nothing happens. (Choices of the model it rests on: logs 97 and 99.) -/
def Obligations.HostFrames : Prop :=
  ∀ (s : State) (f : HostFrame),
    ((s.md.fwUp = false ∨ f.bits = 0) → exec (.hpFrameNop f) s = .next s ∧ exec (.hpFrameRegRead f) s = .next s ∧
      exec (.hpFrameRegWrite f) s = .next s ∧ exec (.hpFramePkt f) s = .next s ∧ exec (.hpFrameRsp f) s = .next s ∧
      exec (.hpFrameMalformed f) s = .next s ∧ exec (.hrdyStretchLimit f) s = .next s) ∧
    (s.md.fwUp = true → f.bits ≠ 0 →
      (frameVerdict f = (stOk, some .nop) → exec (.hpFrameNop f) s =
        .next (countQuiet (endFrame stOk [statusWord s] (countFrame f s)))) ∧
      (frameVerdict f = (stOk, some .regRead) →
        let r := readRun (regCount (f.words.headD 0)) (regAddr (f.words.headD 0)) s
        (hostCheckOk f.words = false → exec (.hpFrameRegRead f) s =
          .next (checkFailFrame (readOut (statusWord s) r.1) (countFrame f s))) ∧
        (hostCheckOk f.words = true → exec (.hpFrameRegRead f) s =
          .next (countQuiet (endFrame stOk (readOut (statusWord s) r.1)
            ((frameAddrs (regAddr (f.words.headD 0)) (regCount (f.words.headD 0))).foldl (fun s a => endEffect a s)
              (countFrame f r.2))))) ∧
        exec (.hrdyStretchLimit f) s = .next (busyEvent (endFrame stBusy (stretchOut (statusWord s) r.1 f.limitWord)
          (modHp (fun h => { h with eStretch := satAdd 16 h.eStretch 1 }) (countFrame f s))))) ∧
      (∀ k, frameVerdict f = (stOk, some k) → k ≠ .regRead → exec (.hrdyStretchLimit f) s = .next s) ∧
      (frameVerdict f = (stOk, some .regWrite) →
        (hostCheckOk f.words = true → exec (.hpFrameRegWrite f) s =
          .next (countQuiet (endFrame stOk (statusWord s :: List.replicate (f.words.length - 1) 0)
            (writeRun (regAddr (f.words.headD 0)) (f.words.drop 1).dropLast (countFrame f s))))) ∧
        (hostCheckOk f.words = false → exec (.hpFrameRegWrite f) s =
          .next (checkFailFrame (statusWord s :: List.replicate (f.words.length - 1) 0) (countFrame f s)))) ∧
      (frameVerdict f = (stOk, some .pkt) →
        let out := statusWord s :: List.replicate (f.words.length - 1) 0
        let s1 := (countFrame f s).wakeCore
        (pktOk s = true → runsFactory .host (f.words.drop 1) s = false → exec (.hpFramePkt f) s =
          .next (countQuiet (runPacket .host (f.words.drop 1) (endFrame stOk out s1)))) ∧
        (pktOk s = true → runsFactory .host (f.words.drop 1) s = true →
          exec (.hpFramePkt f) s = .refused .factoryOpcodeNotDescribed) ∧
        (pktOk s = false → exec (.hpFramePkt f) s = .next (busyEvent (endFrame stBusy out
          (modHp (fun h => { h with eRefused := satAdd 16 h.eRefused 1 }) s1))))) ∧
      (frameVerdict f = (stOk, some .rsp) →
        let n := f.words.length - 1
        let s1 := countFrame f s
        (bitOf (f.words.headD 0) 27 = true → exec (.hpFrameRsp f) s =
          .next (countQuiet (endFrame stOk (statusWord s :: entryOut s.hp.again n) s1))) ∧
        (bitOf (f.words.headD 0) 27 = false →
          (s.hp.queue = [] → exec (.hpFrameRsp f) s = .next (countQuiet (endFrame stOk (statusWord s :: entryOut none n) s1))) ∧
          (∀ e r, s.hp.queue = e :: r →
            (e.words.length ≤ n → exec (.hpFrameRsp f) s = .next (countQuiet (endFrame stOk
              (statusWord s :: entryOut (some e) n) (modHp (fun h => { h with queue := r, again := some e }) s1)))) ∧
            (n < e.words.length →
              exec (.hpFrameRsp f) s = .next (countQuiet (endFrame stOk (statusWord s :: entryOut (some e) n) s1)))))) ∧
      (∀ e, frameVerdict f = (e, none) →
        let t := rejectFrame e (statusWord s) (countViol f (countFrame f s))
        exec (.hpFrameMalformed f) s = .next t ∧ exec (.hrdyStretchLimit f) s = .next t))

/-- R289, R369, R382, R383, R385, R426: what single register accesses do. Reading LO of a pair latches HI; TI_LOCK freezes the
latest complete frame, TI_UNLOCK releases it; an EVT_PEND or EVT_SYS bit with an event since the last read stays, any other
bit written 1 clears; ERR_ACK acts with its code alone; HP_CTL.CLR clears the counters. A write of a read-only or reserved
address changes nothing. (Choices of the model it rests on: logs 97 and 98.) -/
def Obligations.RegisterEffects : Prop :=
  ∀ (s : State),
    (∀ a, isRsLo a.toNat = true → exec (.rsPairLoRead a) s = .next { s with hp := { s.hp with
      shadows := assocSet a.toNat (regLive s (a.toNat + 4)) s.hp.shadows } }) ∧
    (∀ a, isRsLo a.toNat = false → exec (.rsPairLoRead a) s = .next s) ∧
    exec .tiLock s = .next { s with ti := { s.ti with view := some s.ti.live, auto := false, age := 0 } } ∧
    exec .tiUnlock s = .next { s with ti := { s.ti with view := none, age := 0 } } ∧
    (∀ (i : Fin 3) (v : Word), ∃ t, exec (.evtPendClear i v) s = .next t ∧ t = { s with evt := t.evt } ∧
      (∀ b : Fin 96, t.evt.pend.getLsbD b.val = (s.evt.pend.getLsbD b.val &&
        !(decide (b.val / 32 = i.val) && bitOf v (b.val % 32) && !newSinceRead s (0x100 + 4 * i.val) b.val))) ∧
      t.evt.sys = s.evt.sys) ∧
    (∀ v : Word, ∃ t, exec (.evtSysClear v) s = .next t ∧ t = { s with evt := t.evt } ∧ t.evt.pend = s.evt.pend ∧
      ∀ b : Fin 5, t.evt.sys.getLsbD b.val = (s.evt.sys.getLsbD b.val && !(bitOf v b.val && !newSinceRead s 0x120 (96 + b.val)))) ∧
    (∀ v : Word, v.toNat % 65536 ≠ 0xACE5 → exec (.errAck v) s = .next s) ∧
    (∀ v : Word, v.toNat % 65536 = 0xACE5 → exec (.errAck v) s = .next (ackHolds s)) ∧
    (∃ t, exec .hpCtlClr s = .next t ∧ t.hp.frames = 0 ∧ t.hp.eFrame = 0 ∧ t.hp.eLen = 0 ∧ t.hp.eReg = 0 ∧ t.hp.ePkt = 0 ∧
      t.hp.eAlive = 0 ∧ t.hp.eRepeat = 0 ∧ t.hp.eRefused = 0 ∧ t.hp.eStretch = 0 ∧ t.hp.eRdy = 0 ∧ t.hp.queue = s.hp.queue ∧
      t = { s with hp := t.hp }) ∧
    (∀ v : Word, exec (.registerWrite 0x10C v) s = .next (maskWrite 0 v s) ∧
      exec (.registerWrite 0x1400 v) s = .next (if bitOf v 0 then tiLockOn s else s) ∧
      exec (.registerWrite 0x420 v) s = exec (.errAck v) s ∧ exec (.registerWrite 0x100 v) s = exec (.evtPendClear 0 v) s ∧
      exec (.registerWrite 0x120 v) s = exec (.evtSysClear v) s ∧ exec (.registerWrite 0x35C v) s = .next s ∧
      (∀ u : Fin 4, exec (.registerWrite (BitVec.ofNat 16 (0x520 + 0x40 * u.val)) v) s = exec (.cuIn8 u v) s)) ∧
    (∀ (a : BitVec 16) (v : Word), a.toNat < 0x100 → exec (.registerWrite a v) s = .next s)

/-- R325, R328 to R330, R349, R350, R353, R376, R461, R462: the other paths of packets. A service frame runs its packet on a port that is
up, a gap or a wrong length answers LEN_ERR; a datagram runs its packet within an open session when its tag and sequence pass,
and is dropped with FS63 when they do not; one of no session takes from RATE_LIM; a group datagram comes in where management
does, and one whose tag fails is dropped with FS75; a worker obeys its manager's next message and denies another's; a culvert
service frame is taken, forwarded or dropped; a coordinated action runs at its time, and waits till then. (Choices of the model
it rests on: logs 57, 93, 100 and 150.) -/
def Obligations.OtherTransports : Prop :=
  ∀ (s : State),
    (∀ ws, svcPortUp s = true → pktFits ws = true →
      (runsFactory .service ws s = false → exec (.serviceFrame ws) s = .next (runPacket .service ws s)) ∧
      (runsFactory .service ws s = true → exec (.serviceFrame ws) s = .refused .factoryOpcodeNotDescribed)) ∧
    (∀ ws, svcPortUp s = true → pktFits ws = false → exec (.serviceFrame ws) s =
      .next (svcLenErr (pktCtx .service ws).alive (pktCtx .service ws).tag s)) ∧
    (svcPortUp s = true → exec .serviceFrameGap s = .next (svcLenErr 0 0 s)) ∧
    (svcPortUp s = false → exec .serviceFrameGap s = .next s ∧ ∀ ws, exec (.serviceFrame ws) s = .next s) ∧
    (∀ (id : BitVec 32) (q : BitVec 64) tag ws,
      (mgmtUp s = false → exec (.udpDataDatagram id q tag ws) s = .next s) ∧
      (mgmtUp s = true → (∀ y ∈ s.net.sessions, y.id = id.toNat → sessionOver s.clk y = true) →
        exec (.udpDataDatagram id q tag ws) s = .next (rateLimit (fun t => t) s.wakeCore)) ∧
      (mgmtUp s = true → ∀ x, (s.net.sessions.find? fun y => y.id == id.toNat && !sessionOver s.clk y) = some x →
        (tag = true → (x.count = 0 ∨ x.seq < q.toNat) → exec (.udpDataDatagram id q tag ws) s =
          .next (closeFull x.id (datagramPacket x.id ws (takeDatagram x.id q.toNat s.wakeCore)))) ∧
        (tag = false ∨ (x.count ≠ 0 ∧ q.toNat ≤ x.seq) →
          exec (.udpDataDatagram id q tag ws) s = .next (authDrop s.wakeCore)))) ∧
    (∀ g, (mgmtUp s = false → exec (.groupDatagramReceived g) s = .next s) ∧
      (mgmtUp s = true → exec (.groupDatagramReceived g) s = .next (rateLimit (groupDatagram none g) s.wakeCore))) ∧
    (∀ via g, (g.tagOk = false → groupDatagram via g s = raiseFault 75 0 (authDrop s)) ∧
      (g.tagOk = true → forWorker g.body = true → s.grp.managed = true → g.serial = s.grp.mgr →
        (s.grp.rxSeq ≤ g.seq → groupDatagram via g s =
          flushGroup (obeyManager g.body { s with grp := { s.grp with rxSeq := g.seq + 1, via := via } })) ∧
        (g.seq < s.grp.rxSeq → groupDatagram via g s = raiseFault 75 0 (authDrop s))) ∧
      (g.tagOk = true → forWorker g.body = true → s.grp.managed = false ∨ g.serial ≠ s.grp.mgr →
        groupDatagram via g s = workerDenied via (bodyPacket g.body) s) ∧
      (g.tagOk = true → forWorker g.body = false →
        (∀ w, (s.grp.workers.find? fun x => x.serial == g.serial) = some w → groupDatagram via g s = managerTakes w g s) ∧
        ((s.grp.workers.find? fun x => x.serial == g.serial) = none →
          groupDatagram via g s = raiseFault 75 0 (authDrop s)))) ∧
    (∀ b f g, (s.cas.state ≠ 2 → ∀ k, exec (.casServiceFrame b f k g) s = .next s) ∧
      (s.cas.state = 2 →
        exec (.casServiceFrame b f false g) s = .next { s with cas := { s.cas with errs := satAdd 16 s.cas.errs 1 } } ∧
        (f.dst.val = casIdx s → exec (.casServiceFrame b f true g) s = .next (groupDatagram (some f.src) g s.wakeCore)) ∧
        (f.dst.val ≠ casIdx s → exec (.casServiceFrame b f true g) s = .next (forwardService b f s)))) ∧
    (∀ pkt t, s.grp.coord = some ⟨pkt, some t⟩ → (t ≤ s.now → exec .coordActivation s = .next (coordAct pkt s)) ∧
      (s.now < t → exec .coordActivation s = .next s)) ∧
    (∀ pkt, s.grp.coord = some ⟨pkt, none⟩ → exec .coordActivation s = .next s) ∧
    (s.grp.coord = none → exec .coordActivation s = .next s)

/-! ### Check units (chapter 16) -/

/-- R390 to R393, Table 16-4: the commands of a check unit. CU_IN8, CU_IN16 and CU_IN32 feed one, two and four bytes, the more
significant first; CU_RESTART with bit 0 loads CU_INIT and clears the byte count and the verdicts; CU_CHECK compares the low W
bits with CU_RESULT; a fold feeds its byte and classes it as accepted, repeated or out of step; CU_VAL is written within W
bits, and no write of the four configuration registers changes it; the two flags of CU_STAT clear when written 1. Every other unit, and the rest of the machine, stays. -/
def Obligations.CheckUnits : Prop :=
  ∀ (s : State) (u : Fin 4),
    (∀ v : Word, exec (.cuIn8 u v) s = .next (s.modCu u fun c => cuFeed c (v.setWidth 8)) ∧
      exec (.cuIn16 u v) s = .next (s.modCu u fun c => cuFeed (cuFeed c ((v >>> 8).setWidth 8)) (v.setWidth 8)) ∧
      exec (.cuIn32 u v) s = .next (s.modCu u fun c => cuFeed (cuFeed (cuFeed (cuFeed c ((v >>> 24).setWidth 8))
        ((v >>> 16).setWidth 8)) ((v >>> 8).setWidth 8)) (v.setWidth 8)) ∧
      (∀ c : Cu, ∀ b, (cuFeed c b).bytes = min 65535 (c.bytes + 1)) ∧
      (bitOf v 0 = true → exec (.cuRestart u v) s = .next (s.modCu u fun c =>
        { c with val := cuLow (cuWidth c) c.init, bytes := 0, chk := 0, alive := 0 })) ∧
      (bitOf v 0 = false → exec (.cuRestart u v) s = .next s) ∧
      (cuLow (cuWidth s.cu[u]) v = cuResult s.cu[u] →
        exec (.cuCheck u v) s = .next (s.modCu u fun c => { c with chk := 1 })) ∧
      (cuLow (cuWidth s.cu[u]) v ≠ cuResult s.cu[u] →
        exec (.cuCheck u v) s = .next (s.modCu u fun c => { c with chk := 2, chkFail := true })) ∧
      exec (.cuValWrite u v) s = .next (s.modCu u fun c => { c with val := cuLow (cuWidth c) v }) ∧
      ∃ t, exec (.cuStatClear u v) s = .next t ∧ t.cu[u].chkFail = (s.cu[u].chkFail && !bitOf v 2) ∧
        t.cu[u].aliveFail = (s.cu[u].aliveFail && !bitOf v 5) ∧ t.cu[u].chk = s.cu[u].chk ∧ t.cu[u].bytes = s.cu[u].bytes ∧
        (∀ k : Fin 4, k ≠ u → t.cu[k] = s.cu[k]) ∧ t = { s with cu := t.cu }) ∧
    (∀ b : Byte, ∃ t, exec (.cuAliveFold u b) s = .next t ∧ t.cu[u].val = (cuFeed s.cu[u] b).val ∧ t.cu[u].last = b ∧
      (b = s.cu[u].expect → t.cu[u].alive = 1 ∧ t.cu[u].expect = b + 1 ∧ t.cu[u].aliveFail = s.cu[u].aliveFail) ∧
      (b ≠ s.cu[u].expect → t.cu[u].aliveFail = true ∧ t.cu[u].expect = s.cu[u].expect ∧
        t.cu[u].alive = (if b = s.cu[u].expect - 1 then 2 else 3)) ∧ t = { s with cu := t.cu }) ∧
    (∀ b : Byte, exec (.cuAliveSetExpect u b) s = .next (s.modCu u fun c => { c with expect := b })) ∧
    ∀ (k : Fin 4) (v : Word), ∃ t, exec (.registerWrite (BitVec.ofNat 16 (0x500 + 0x40 * u.val + 4 * k.val)) v) s = .next t ∧
      t.cu[u].val = s.cu[u].val ∧ (∀ j : Fin 4, j ≠ u → t.cu[j] = s.cu[j]) ∧ t = { s with cu := t.cu }

/-! ### The whole machine -/

/-- The command at the front of the queue runs with the queue's rest; on an empty queue one CLK_TB cycle passes (log 31), which
changes nothing but the clock and the spring. (Choices of the model it rests on: logs 31 and 34.) -/
def Obligations.StepRunsFront : Prop :=
  (∀ (c : Instr) (r : List Instr) (s : State), step { s with pending := c :: r } = exec c { s with pending := r }) ∧
  (∀ (s : State), s.pending = [] → ∃ t, step s = .next t ∧ t.clk = s.clk + 8 ∧
    t = { s with clk := s.clk + 8, spring := t.spring })

/-- The state after reset holds the invariant, its queue is empty, the module is in BOOT, every lane is DOWN and every cell OFF,
no source is present, and nothing is listed in the engine's memories. (The values the spec leaves open are the model's own,
logs 1 to 26; none is named here.) (Choices of the model it rests on: log 8.) -/
def Obligations.ResetState : Prop :=
  Inv State.reset ∧ State.reset.pending = [] ∧ State.reset.md.mode = .m1 ∧ State.reset.ops = [] ∧ State.reset.hp.queue = [] ∧
  (∀ ch, (State.reset.cell ch).lane.state = .down ∧ (State.reset.cell ch).cfgFunc = .off ∧ (State.reset.cell ch).cause = 0) ∧
  (∀ n, (State.reset.fsrc n).present = false ∧ (State.reset.fsrc n).severe = false ∧ (State.reset.fsrc n).hist.count = 0) ∧
  State.reset.eng.memC = [] ∧ State.reset.eng.active = none ∧ State.reset.spring.state = .unsync

/-- Whatever command stands at the front of the queue, a step keeps the invariant: an "Event only" source is never present, FS92
and FS93 keep ERR and CHIP (R419), PWR_CTL stays within its ranges, the engine's memories keep their canonical form. (Choices
of the model it rests on: log 20.) -/
def Obligations.StepKeepsInvariant : Prop :=
  ∀ (s t : State), Inv s → step s = .next t → Inv t

/-- R470, R485: no step changes the module's identity (serial number, order code, MAC address, device revision), and no step
lowers an anti-rollback counter. (Choices of the model it rests on: log 26.) -/
def Obligations.IdentityAndRollback : Prop :=
  ∀ (s t : State), step s = .next t →
    t.fw.serial = s.fw.serial ∧ t.fw.orderG = s.fw.orderG ∧ t.fw.mac = s.fw.mac ∧ t.fw.idRev = s.fw.idRev ∧
    s.fw.arbCfw ≤ t.fw.arbCfw ∧ s.fw.arbLgp ≤ t.fw.arbLgp
end

