-- ==== Sys2Proof/Laws/Memory.lean ====
section
/-! SUPPORT. The engine's data memory: every write keeps its canonical form; a read after a write to the same word gives the
value written, and a write leaves every other word alone. -/

namespace Sys2Proof.Machine

open Sys2Proof

theorem memWfFrom_mono {lo hi : Nat} (h : lo ≤ hi) : ∀ {m : Mem}, memWfFrom hi m = true → memWfFrom lo m = true
  | [], _ => rfl
  | (a, v) :: r, hm => by
    simp only [memWfFrom, Bool.and_eq_true, decide_eq_true_eq] at hm ⊢
    exact ⟨⟨⟨by omega, hm.1.1.2⟩, hm.1.2⟩, hm.2⟩

theorem memErase_wfFrom (a : Nat) : ∀ {lo : Nat} {m : Mem}, memWfFrom lo m = true → memWfFrom lo (memErase a m) = true
  | _, [], _ => rfl
  | lo, (k, v) :: r, hm => by
    simp only [memWfFrom, Bool.and_eq_true, decide_eq_true_eq] at hm
    unfold memErase
    split
    · exact memWfFrom_mono (by omega) hm.2
    · simp only [memWfFrom, Bool.and_eq_true, decide_eq_true_eq]
      exact ⟨hm.1, memErase_wfFrom a hm.2⟩

theorem assocSet_wfFrom (a : Nat) (v : Word) (ha : a < 8192) (hv : ¬v = 0#32) :
    ∀ {lo : Nat} {m : Mem}, lo ≤ a → memWfFrom lo m = true → memWfFrom lo (assocSet a v m) = true
  | lo, [], hl, _ => by simp [assocSet, memWfFrom, hl, ha, hv]
  | lo, (k, w) :: r, hl, hm => by
    simp only [memWfFrom, Bool.and_eq_true, decide_eq_true_eq] at hm
    unfold assocSet
    split
    · subst k; simp [memWfFrom, hl, ha, hv, hm.2]
    · split
      · simp only [memWfFrom, Bool.and_eq_true, decide_eq_true_eq]
        exact ⟨⟨⟨hl, ha⟩, by simp [hv]⟩, ⟨⟨by omega, hm.1.1.2⟩, hm.1.2⟩, hm.2⟩
      · simp only [memWfFrom, Bool.and_eq_true, decide_eq_true_eq]
        exact ⟨hm.1, assocSet_wfFrom a v ha hv (by omega) hm.2⟩

/-- A write keeps the canonical form. -/
theorem memPut_wf (a : Nat) (v : Word) {m : Mem} (h : memWf m = true) : memWf (memPut a v m) = true := by
  unfold memPut
  split
  · exact h
  · split
    · exact memErase_wfFrom a h
    · exact assocSet_wfFrom a v (by omega) ‹_› (Nat.zero_le a) h

theorem memPutAll_wf : ∀ (a : Nat) (vs : List Word) {m : Mem}, memWf m = true → memWf (memPutAll a vs m) = true
  | _, [], _, h => h
  | a, v :: r, _, h => memPutAll_wf (a + 1) r (memPut_wf a v h)

theorem putResults_wf : ∀ (ds : List Nat) (ws : List Word) {m : Mem}, memWf m = true → memWf (putResults ds ws m) = true
  | [], _, _, h => h
  | _ :: _, [], _, h => h
  | d :: ds, w :: ws, _, h => putResults_wf ds ws (memPut_wf d w h)

/-- A fold of writes keeps the canonical form. -/
theorem foldl_wf {α : Type} (f : Mem → α → Mem) (hf : ∀ m x, memWf m = true → memWf (f m x) = true) :
    ∀ (l : List α) {m : Mem}, memWf m = true → memWf (l.foldl f m) = true
  | [], _, h => h
  | x :: r, m, h => foldl_wf f hf r (hf m x h)

theorem memWf_nil : memWf [] = true := rfl

theorem initMem_wf (p : Program) : memWf (initMem p) = true := by
  unfold initMem
  exact foldl_wf _ (fun _ x h => memPut_wf x.1 x.2 h) _ memWf_nil

/-- The reset memory has the canonical form. -/
theorem reset_mem_wf : memWf State.reset.eng.memC = true ∧ memWf State.reset.eng.memV = true ∧ memWf State.reset.eng.memW = true ∧
    State.reset.eng.start = none :=
  ⟨rfl, rfl, rfl, rfl⟩

theorem assocGet_assocSet_same {α : Type} (k : Nat) (v : α) : ∀ l : List (Nat × α), assocGet k (assocSet k v l) = some v
  | [] => by simp [assocSet, assocGet]
  | (k', v') :: r => by
    unfold assocSet
    split
    · simp [assocGet]
    · split <;> simp [assocGet, *, assocGet_assocSet_same k v r]

theorem assocGet_assocSet_ne {α : Type} (k j : Nat) (v : α) (h : j ≠ k) : ∀ l : List (Nat × α), assocGet j (assocSet k v l) = assocGet j l
  | [] => by simp [assocSet, assocGet, h.symm]
  | (k', v') :: r => by
    unfold assocSet
    split
    · subst k'; simp [assocGet, h.symm]
    · split
      · simp [assocGet, h.symm]
      · simp [assocGet, assocGet_assocSet_ne k j v h r]

theorem assocGet_of_lt {lo : Nat} {a : Nat} (h : a < lo) : ∀ {m : Mem}, memWfFrom lo m = true → assocGet a m = none
  | [], _ => rfl
  | (k, v) :: r, hm => by
    simp only [memWfFrom, Bool.and_eq_true, decide_eq_true_eq] at hm
    have : k ≠ a := by omega
    simp only [assocGet, this, if_false]
    exact assocGet_of_lt (by omega) hm.2

theorem assocGet_memErase_same (a : Nat) : ∀ {lo : Nat} {m : Mem}, memWfFrom lo m = true → assocGet a (memErase a m) = none
  | _, [], _ => rfl
  | lo, (k, v) :: r, hm => by
    simp only [memWfFrom, Bool.and_eq_true, decide_eq_true_eq] at hm
    unfold memErase
    split
    · subst k; exact assocGet_of_lt (Nat.lt_succ_self _) hm.2
    · rename_i h; simp only [assocGet, h, if_false]; exact assocGet_memErase_same a hm.2

theorem assocGet_memErase_ne (a b : Nat) (h : b ≠ a) : ∀ m : Mem, assocGet b (memErase a m) = assocGet b m
  | [] => rfl
  | (k, v) :: r => by
    unfold memErase
    split
    · subst k; simp [assocGet, h.symm]
    · simp [assocGet, assocGet_memErase_ne a b h r]

/-- A read after a write to the same word. -/
theorem memGet_memPut_same (a : Nat) (v : Word) {m : Mem} (ha : a < 8192) (h : memWf m = true) : memGet (memPut a v m) a = v := by
  have h' : ¬ 8192 ≤ a := by omega
  unfold memGet memPut
  rw [if_neg h']
  split
  · rw [assocGet_memErase_same a h]; simp [*]
  · rw [assocGet_assocSet_same]; rfl

/-- A write leaves every other word alone. -/
theorem memGet_memPut_ne (a b : Nat) (v : Word) (m : Mem) (h : b ≠ a) : memGet (memPut a v m) b = memGet m b := by
  unfold memGet memPut
  split
  · rfl
  · split
    · rw [assocGet_memErase_ne a b h]
    · rw [assocGet_assocSet_ne a b v h]

end Sys2Proof.Machine
end

