-- ==== Sys2Proof/Laws/State.lean ====
section
/-! SUPPORT. What each named update of State leaves of every field, so that no proof unfolds a record update; and how a cell,
a source and a check unit read after a change of one of them. -/

namespace Sys2Proof.Machine

open Sys2Proof

/-! State.modCell -/

@[simp] theorem State.modCell_pending (s : State) (ch : Ch) (f : Cell → Cell) : (s.modCell ch f).pending = s.pending := rfl
@[simp] theorem State.modCell_clk (s : State) (ch : Ch) (f : Cell → Cell) : (s.modCell ch f).clk = s.clk := rfl
@[simp] theorem State.modCell_pwr (s : State) (ch : Ch) (f : Cell → Cell) : (s.modCell ch f).pwr = s.pwr := rfl
@[simp] theorem State.modCell_md (s : State) (ch : Ch) (f : Cell → Cell) : (s.modCell ch f).md = s.md := rfl
@[simp] theorem State.modCell_sys (s : State) (ch : Ch) (f : Cell → Cell) : (s.modCell ch f).sys = s.sys := rfl
@[simp] theorem State.modCell_spring (s : State) (ch : Ch) (f : Cell → Cell) : (s.modCell ch f).spring = s.spring := rfl
@[simp] theorem State.modCell_cells (s : State) (ch : Ch) (f : Cell → Cell) : (s.modCell ch f).cells = s.cells.set ch (f s.cells[ch]) := rfl
@[simp] theorem State.modCell_eng (s : State) (ch : Ch) (f : Cell → Cell) : (s.modCell ch f).eng = s.eng := rfl
@[simp] theorem State.modCell_ti (s : State) (ch : Ch) (f : Cell → Cell) : (s.modCell ch f).ti = s.ti := rfl
@[simp] theorem State.modCell_net (s : State) (ch : Ch) (f : Cell → Cell) : (s.modCell ch f).net = s.net := rfl
@[simp] theorem State.modCell_cas (s : State) (ch : Ch) (f : Cell → Cell) : (s.modCell ch f).cas = s.cas := rfl
@[simp] theorem State.modCell_grp (s : State) (ch : Ch) (f : Cell → Cell) : (s.modCell ch f).grp = s.grp := rfl
@[simp] theorem State.modCell_hp (s : State) (ch : Ch) (f : Cell → Cell) : (s.modCell ch f).hp = s.hp := rfl
@[simp] theorem State.modCell_alives (s : State) (ch : Ch) (f : Cell → Cell) : (s.modCell ch f).alives = s.alives := rfl
@[simp] theorem State.modCell_ops (s : State) (ch : Ch) (f : Cell → Cell) : (s.modCell ch f).ops = s.ops := rfl
@[simp] theorem State.modCell_done (s : State) (ch : Ch) (f : Cell → Cell) : (s.modCell ch f).done = s.done := rfl
@[simp] theorem State.modCell_parts (s : State) (ch : Ch) (f : Cell → Cell) : (s.modCell ch f).parts = s.parts := rfl
@[simp] theorem State.modCell_evt (s : State) (ch : Ch) (f : Cell → Cell) : (s.modCell ch f).evt = s.evt := rfl
@[simp] theorem State.modCell_cu (s : State) (ch : Ch) (f : Cell → Cell) : (s.modCell ch f).cu = s.cu := rfl
@[simp] theorem State.modCell_flt (s : State) (ch : Ch) (f : Cell → Cell) : (s.modCell ch f).flt = s.flt := rfl
@[simp] theorem State.modCell_srcs (s : State) (ch : Ch) (f : Cell → Cell) : (s.modCell ch f).srcs = s.srcs := rfl
@[simp] theorem State.modCell_xing (s : State) (ch : Ch) (f : Cell → Cell) : (s.modCell ch f).xing = s.xing := rfl
@[simp] theorem State.modCell_scrub (s : State) (ch : Ch) (f : Cell → Cell) : (s.modCell ch f).scrub = s.scrub := rfl
@[simp] theorem State.modCell_recs (s : State) (ch : Ch) (f : Cell → Cell) : (s.modCell ch f).recs = s.recs := rfl
@[simp] theorem State.modCell_soe (s : State) (ch : Ch) (f : Cell → Cell) : (s.modCell ch f).soe = s.soe := rfl
@[simp] theorem State.modCell_life (s : State) (ch : Ch) (f : Cell → Cell) : (s.modCell ch f).life = s.life := rfl
@[simp] theorem State.modCell_fw (s : State) (ch : Ch) (f : Cell → Cell) : (s.modCell ch f).fw = s.fw := rfl
@[simp] theorem State.modCell_cfgOk (s : State) (ch : Ch) (f : Cell → Cell) : (s.modCell ch f).cfgOk = s.cfgOk := rfl
@[simp] theorem State.modCell_free (s : State) (ch : Ch) (f : Cell → Cell) : (s.modCell ch f).free = s.free := rfl

/-! State.mapCells -/

@[simp] theorem State.mapCells_pending (s : State) (f : Ch → Cell → Cell) : (s.mapCells f).pending = s.pending := by unfold State.mapCells; rfl
@[simp] theorem State.mapCells_clk (s : State) (f : Ch → Cell → Cell) : (s.mapCells f).clk = s.clk := by unfold State.mapCells; rfl
@[simp] theorem State.mapCells_pwr (s : State) (f : Ch → Cell → Cell) : (s.mapCells f).pwr = s.pwr := by unfold State.mapCells; rfl
@[simp] theorem State.mapCells_md (s : State) (f : Ch → Cell → Cell) : (s.mapCells f).md = s.md := by unfold State.mapCells; rfl
@[simp] theorem State.mapCells_sys (s : State) (f : Ch → Cell → Cell) : (s.mapCells f).sys = s.sys := by unfold State.mapCells; rfl
@[simp] theorem State.mapCells_spring (s : State) (f : Ch → Cell → Cell) : (s.mapCells f).spring = s.spring := by unfold State.mapCells; rfl
@[simp] theorem State.mapCells_cells (s : State) (f : Ch → Cell → Cell) : (s.mapCells f).cells = Vector.ofFn fun i => f i s.cells[i] := by unfold State.mapCells; rfl
@[simp] theorem State.mapCells_eng (s : State) (f : Ch → Cell → Cell) : (s.mapCells f).eng = s.eng := by unfold State.mapCells; rfl
@[simp] theorem State.mapCells_ti (s : State) (f : Ch → Cell → Cell) : (s.mapCells f).ti = s.ti := by unfold State.mapCells; rfl
@[simp] theorem State.mapCells_net (s : State) (f : Ch → Cell → Cell) : (s.mapCells f).net = s.net := by unfold State.mapCells; rfl
@[simp] theorem State.mapCells_cas (s : State) (f : Ch → Cell → Cell) : (s.mapCells f).cas = s.cas := by unfold State.mapCells; rfl
@[simp] theorem State.mapCells_grp (s : State) (f : Ch → Cell → Cell) : (s.mapCells f).grp = s.grp := by unfold State.mapCells; rfl
@[simp] theorem State.mapCells_hp (s : State) (f : Ch → Cell → Cell) : (s.mapCells f).hp = s.hp := by unfold State.mapCells; rfl
@[simp] theorem State.mapCells_alives (s : State) (f : Ch → Cell → Cell) : (s.mapCells f).alives = s.alives := by unfold State.mapCells; rfl
@[simp] theorem State.mapCells_ops (s : State) (f : Ch → Cell → Cell) : (s.mapCells f).ops = s.ops := by unfold State.mapCells; rfl
@[simp] theorem State.mapCells_done (s : State) (f : Ch → Cell → Cell) : (s.mapCells f).done = s.done := by unfold State.mapCells; rfl
@[simp] theorem State.mapCells_parts (s : State) (f : Ch → Cell → Cell) : (s.mapCells f).parts = s.parts := by unfold State.mapCells; rfl
@[simp] theorem State.mapCells_evt (s : State) (f : Ch → Cell → Cell) : (s.mapCells f).evt = s.evt := by unfold State.mapCells; rfl
@[simp] theorem State.mapCells_cu (s : State) (f : Ch → Cell → Cell) : (s.mapCells f).cu = s.cu := by unfold State.mapCells; rfl
@[simp] theorem State.mapCells_flt (s : State) (f : Ch → Cell → Cell) : (s.mapCells f).flt = s.flt := by unfold State.mapCells; rfl
@[simp] theorem State.mapCells_srcs (s : State) (f : Ch → Cell → Cell) : (s.mapCells f).srcs = s.srcs := by unfold State.mapCells; rfl
@[simp] theorem State.mapCells_xing (s : State) (f : Ch → Cell → Cell) : (s.mapCells f).xing = s.xing := by unfold State.mapCells; rfl
@[simp] theorem State.mapCells_scrub (s : State) (f : Ch → Cell → Cell) : (s.mapCells f).scrub = s.scrub := by unfold State.mapCells; rfl
@[simp] theorem State.mapCells_recs (s : State) (f : Ch → Cell → Cell) : (s.mapCells f).recs = s.recs := by unfold State.mapCells; rfl
@[simp] theorem State.mapCells_soe (s : State) (f : Ch → Cell → Cell) : (s.mapCells f).soe = s.soe := by unfold State.mapCells; rfl
@[simp] theorem State.mapCells_life (s : State) (f : Ch → Cell → Cell) : (s.mapCells f).life = s.life := by unfold State.mapCells; rfl
@[simp] theorem State.mapCells_fw (s : State) (f : Ch → Cell → Cell) : (s.mapCells f).fw = s.fw := by unfold State.mapCells; rfl
@[simp] theorem State.mapCells_cfgOk (s : State) (f : Ch → Cell → Cell) : (s.mapCells f).cfgOk = s.cfgOk := by unfold State.mapCells; rfl
@[simp] theorem State.mapCells_free (s : State) (f : Ch → Cell → Cell) : (s.mapCells f).free = s.free := by unfold State.mapCells; rfl

/-! State.modSrc -/

@[simp] theorem State.modSrc_pending (s : State) (n : Fin 96) (f : FltSrc → FltSrc) : (s.modSrc n f).pending = s.pending := rfl
@[simp] theorem State.modSrc_clk (s : State) (n : Fin 96) (f : FltSrc → FltSrc) : (s.modSrc n f).clk = s.clk := rfl
@[simp] theorem State.modSrc_pwr (s : State) (n : Fin 96) (f : FltSrc → FltSrc) : (s.modSrc n f).pwr = s.pwr := rfl
@[simp] theorem State.modSrc_md (s : State) (n : Fin 96) (f : FltSrc → FltSrc) : (s.modSrc n f).md = s.md := rfl
@[simp] theorem State.modSrc_sys (s : State) (n : Fin 96) (f : FltSrc → FltSrc) : (s.modSrc n f).sys = s.sys := rfl
@[simp] theorem State.modSrc_spring (s : State) (n : Fin 96) (f : FltSrc → FltSrc) : (s.modSrc n f).spring = s.spring := rfl
@[simp] theorem State.modSrc_cells (s : State) (n : Fin 96) (f : FltSrc → FltSrc) : (s.modSrc n f).cells = s.cells := rfl
@[simp] theorem State.modSrc_eng (s : State) (n : Fin 96) (f : FltSrc → FltSrc) : (s.modSrc n f).eng = s.eng := rfl
@[simp] theorem State.modSrc_ti (s : State) (n : Fin 96) (f : FltSrc → FltSrc) : (s.modSrc n f).ti = s.ti := rfl
@[simp] theorem State.modSrc_net (s : State) (n : Fin 96) (f : FltSrc → FltSrc) : (s.modSrc n f).net = s.net := rfl
@[simp] theorem State.modSrc_cas (s : State) (n : Fin 96) (f : FltSrc → FltSrc) : (s.modSrc n f).cas = s.cas := rfl
@[simp] theorem State.modSrc_grp (s : State) (n : Fin 96) (f : FltSrc → FltSrc) : (s.modSrc n f).grp = s.grp := rfl
@[simp] theorem State.modSrc_hp (s : State) (n : Fin 96) (f : FltSrc → FltSrc) : (s.modSrc n f).hp = s.hp := rfl
@[simp] theorem State.modSrc_alives (s : State) (n : Fin 96) (f : FltSrc → FltSrc) : (s.modSrc n f).alives = s.alives := rfl
@[simp] theorem State.modSrc_ops (s : State) (n : Fin 96) (f : FltSrc → FltSrc) : (s.modSrc n f).ops = s.ops := rfl
@[simp] theorem State.modSrc_done (s : State) (n : Fin 96) (f : FltSrc → FltSrc) : (s.modSrc n f).done = s.done := rfl
@[simp] theorem State.modSrc_parts (s : State) (n : Fin 96) (f : FltSrc → FltSrc) : (s.modSrc n f).parts = s.parts := rfl
@[simp] theorem State.modSrc_evt (s : State) (n : Fin 96) (f : FltSrc → FltSrc) : (s.modSrc n f).evt = s.evt := rfl
@[simp] theorem State.modSrc_cu (s : State) (n : Fin 96) (f : FltSrc → FltSrc) : (s.modSrc n f).cu = s.cu := rfl
@[simp] theorem State.modSrc_flt (s : State) (n : Fin 96) (f : FltSrc → FltSrc) : (s.modSrc n f).flt = s.flt := rfl
@[simp] theorem State.modSrc_srcs (s : State) (n : Fin 96) (f : FltSrc → FltSrc) : (s.modSrc n f).srcs = s.srcs.set n (f s.srcs[n]) := rfl
@[simp] theorem State.modSrc_xing (s : State) (n : Fin 96) (f : FltSrc → FltSrc) : (s.modSrc n f).xing = s.xing := rfl
@[simp] theorem State.modSrc_scrub (s : State) (n : Fin 96) (f : FltSrc → FltSrc) : (s.modSrc n f).scrub = s.scrub := rfl
@[simp] theorem State.modSrc_recs (s : State) (n : Fin 96) (f : FltSrc → FltSrc) : (s.modSrc n f).recs = s.recs := rfl
@[simp] theorem State.modSrc_soe (s : State) (n : Fin 96) (f : FltSrc → FltSrc) : (s.modSrc n f).soe = s.soe := rfl
@[simp] theorem State.modSrc_life (s : State) (n : Fin 96) (f : FltSrc → FltSrc) : (s.modSrc n f).life = s.life := rfl
@[simp] theorem State.modSrc_fw (s : State) (n : Fin 96) (f : FltSrc → FltSrc) : (s.modSrc n f).fw = s.fw := rfl
@[simp] theorem State.modSrc_cfgOk (s : State) (n : Fin 96) (f : FltSrc → FltSrc) : (s.modSrc n f).cfgOk = s.cfgOk := rfl
@[simp] theorem State.modSrc_free (s : State) (n : Fin 96) (f : FltSrc → FltSrc) : (s.modSrc n f).free = s.free := rfl

/-! State.setPresent -/

@[simp] theorem State.setPresent_pending (s : State) (n : Fin 96) (b : Bool) : (s.setPresent n b).pending = s.pending := rfl
@[simp] theorem State.setPresent_clk (s : State) (n : Fin 96) (b : Bool) : (s.setPresent n b).clk = s.clk := rfl
@[simp] theorem State.setPresent_pwr (s : State) (n : Fin 96) (b : Bool) : (s.setPresent n b).pwr = s.pwr := rfl
@[simp] theorem State.setPresent_md (s : State) (n : Fin 96) (b : Bool) : (s.setPresent n b).md = s.md := rfl
@[simp] theorem State.setPresent_sys (s : State) (n : Fin 96) (b : Bool) : (s.setPresent n b).sys = s.sys := rfl
@[simp] theorem State.setPresent_spring (s : State) (n : Fin 96) (b : Bool) : (s.setPresent n b).spring = s.spring := rfl
@[simp] theorem State.setPresent_cells (s : State) (n : Fin 96) (b : Bool) : (s.setPresent n b).cells = s.cells := rfl
@[simp] theorem State.setPresent_eng (s : State) (n : Fin 96) (b : Bool) : (s.setPresent n b).eng = s.eng := rfl
@[simp] theorem State.setPresent_ti (s : State) (n : Fin 96) (b : Bool) : (s.setPresent n b).ti = s.ti := rfl
@[simp] theorem State.setPresent_net (s : State) (n : Fin 96) (b : Bool) : (s.setPresent n b).net = s.net := rfl
@[simp] theorem State.setPresent_cas (s : State) (n : Fin 96) (b : Bool) : (s.setPresent n b).cas = s.cas := rfl
@[simp] theorem State.setPresent_grp (s : State) (n : Fin 96) (b : Bool) : (s.setPresent n b).grp = s.grp := rfl
@[simp] theorem State.setPresent_hp (s : State) (n : Fin 96) (b : Bool) : (s.setPresent n b).hp = s.hp := rfl
@[simp] theorem State.setPresent_alives (s : State) (n : Fin 96) (b : Bool) : (s.setPresent n b).alives = s.alives := rfl
@[simp] theorem State.setPresent_ops (s : State) (n : Fin 96) (b : Bool) : (s.setPresent n b).ops = s.ops := rfl
@[simp] theorem State.setPresent_done (s : State) (n : Fin 96) (b : Bool) : (s.setPresent n b).done = s.done := rfl
@[simp] theorem State.setPresent_parts (s : State) (n : Fin 96) (b : Bool) : (s.setPresent n b).parts = s.parts := rfl
@[simp] theorem State.setPresent_evt (s : State) (n : Fin 96) (b : Bool) : (s.setPresent n b).evt = s.evt := rfl
@[simp] theorem State.setPresent_cu (s : State) (n : Fin 96) (b : Bool) : (s.setPresent n b).cu = s.cu := rfl
@[simp] theorem State.setPresent_flt (s : State) (n : Fin 96) (b : Bool) : (s.setPresent n b).flt = s.flt := rfl
@[simp] theorem State.setPresent_xing (s : State) (n : Fin 96) (b : Bool) : (s.setPresent n b).xing = s.xing := rfl
@[simp] theorem State.setPresent_scrub (s : State) (n : Fin 96) (b : Bool) : (s.setPresent n b).scrub = s.scrub := rfl
@[simp] theorem State.setPresent_recs (s : State) (n : Fin 96) (b : Bool) : (s.setPresent n b).recs = s.recs := rfl
@[simp] theorem State.setPresent_soe (s : State) (n : Fin 96) (b : Bool) : (s.setPresent n b).soe = s.soe := rfl
@[simp] theorem State.setPresent_life (s : State) (n : Fin 96) (b : Bool) : (s.setPresent n b).life = s.life := rfl
@[simp] theorem State.setPresent_fw (s : State) (n : Fin 96) (b : Bool) : (s.setPresent n b).fw = s.fw := rfl
@[simp] theorem State.setPresent_cfgOk (s : State) (n : Fin 96) (b : Bool) : (s.setPresent n b).cfgOk = s.cfgOk := rfl
@[simp] theorem State.setPresent_free (s : State) (n : Fin 96) (b : Bool) : (s.setPresent n b).free = s.free := rfl

/-! State.drawFree -/

@[simp] theorem State.drawFree_pending (s : State) : s.drawFree.pending = s.pending := rfl
@[simp] theorem State.drawFree_clk (s : State) : s.drawFree.clk = s.clk := rfl
@[simp] theorem State.drawFree_pwr (s : State) : s.drawFree.pwr = s.pwr := rfl
@[simp] theorem State.drawFree_md (s : State) : s.drawFree.md = s.md := rfl
@[simp] theorem State.drawFree_sys (s : State) : s.drawFree.sys = s.sys := rfl
@[simp] theorem State.drawFree_spring (s : State) : s.drawFree.spring = s.spring := rfl
@[simp] theorem State.drawFree_cells (s : State) : s.drawFree.cells = s.cells := rfl
@[simp] theorem State.drawFree_eng (s : State) : s.drawFree.eng = s.eng := rfl
@[simp] theorem State.drawFree_ti (s : State) : s.drawFree.ti = s.ti := rfl
@[simp] theorem State.drawFree_net (s : State) : s.drawFree.net = s.net := rfl
@[simp] theorem State.drawFree_cas (s : State) : s.drawFree.cas = s.cas := rfl
@[simp] theorem State.drawFree_grp (s : State) : s.drawFree.grp = s.grp := rfl
@[simp] theorem State.drawFree_hp (s : State) : s.drawFree.hp = s.hp := rfl
@[simp] theorem State.drawFree_alives (s : State) : s.drawFree.alives = s.alives := rfl
@[simp] theorem State.drawFree_ops (s : State) : s.drawFree.ops = s.ops := rfl
@[simp] theorem State.drawFree_done (s : State) : s.drawFree.done = s.done := rfl
@[simp] theorem State.drawFree_parts (s : State) : s.drawFree.parts = s.parts := rfl
@[simp] theorem State.drawFree_evt (s : State) : s.drawFree.evt = s.evt := rfl
@[simp] theorem State.drawFree_cu (s : State) : s.drawFree.cu = s.cu := rfl
@[simp] theorem State.drawFree_flt (s : State) : s.drawFree.flt = s.flt := rfl
@[simp] theorem State.drawFree_srcs (s : State) : s.drawFree.srcs = s.srcs := rfl
@[simp] theorem State.drawFree_xing (s : State) : s.drawFree.xing = s.xing := rfl
@[simp] theorem State.drawFree_scrub (s : State) : s.drawFree.scrub = s.scrub := rfl
@[simp] theorem State.drawFree_recs (s : State) : s.drawFree.recs = s.recs := rfl
@[simp] theorem State.drawFree_soe (s : State) : s.drawFree.soe = s.soe := rfl
@[simp] theorem State.drawFree_life (s : State) : s.drawFree.life = s.life := rfl
@[simp] theorem State.drawFree_fw (s : State) : s.drawFree.fw = s.fw := rfl
@[simp] theorem State.drawFree_cfgOk (s : State) : s.drawFree.cfgOk = s.cfgOk := rfl
@[simp] theorem State.drawFree_free (s : State) : s.drawFree.free = s.free + 1 := rfl

/-! State.modCu -/

@[simp] theorem State.modCu_pending (s : State) (u : Fin 4) (f : Cu → Cu) : (s.modCu u f).pending = s.pending := rfl
@[simp] theorem State.modCu_clk (s : State) (u : Fin 4) (f : Cu → Cu) : (s.modCu u f).clk = s.clk := rfl
@[simp] theorem State.modCu_pwr (s : State) (u : Fin 4) (f : Cu → Cu) : (s.modCu u f).pwr = s.pwr := rfl
@[simp] theorem State.modCu_md (s : State) (u : Fin 4) (f : Cu → Cu) : (s.modCu u f).md = s.md := rfl
@[simp] theorem State.modCu_sys (s : State) (u : Fin 4) (f : Cu → Cu) : (s.modCu u f).sys = s.sys := rfl
@[simp] theorem State.modCu_spring (s : State) (u : Fin 4) (f : Cu → Cu) : (s.modCu u f).spring = s.spring := rfl
@[simp] theorem State.modCu_cells (s : State) (u : Fin 4) (f : Cu → Cu) : (s.modCu u f).cells = s.cells := rfl
@[simp] theorem State.modCu_eng (s : State) (u : Fin 4) (f : Cu → Cu) : (s.modCu u f).eng = s.eng := rfl
@[simp] theorem State.modCu_ti (s : State) (u : Fin 4) (f : Cu → Cu) : (s.modCu u f).ti = s.ti := rfl
@[simp] theorem State.modCu_net (s : State) (u : Fin 4) (f : Cu → Cu) : (s.modCu u f).net = s.net := rfl
@[simp] theorem State.modCu_cas (s : State) (u : Fin 4) (f : Cu → Cu) : (s.modCu u f).cas = s.cas := rfl
@[simp] theorem State.modCu_grp (s : State) (u : Fin 4) (f : Cu → Cu) : (s.modCu u f).grp = s.grp := rfl
@[simp] theorem State.modCu_hp (s : State) (u : Fin 4) (f : Cu → Cu) : (s.modCu u f).hp = s.hp := rfl
@[simp] theorem State.modCu_alives (s : State) (u : Fin 4) (f : Cu → Cu) : (s.modCu u f).alives = s.alives := rfl
@[simp] theorem State.modCu_ops (s : State) (u : Fin 4) (f : Cu → Cu) : (s.modCu u f).ops = s.ops := rfl
@[simp] theorem State.modCu_done (s : State) (u : Fin 4) (f : Cu → Cu) : (s.modCu u f).done = s.done := rfl
@[simp] theorem State.modCu_parts (s : State) (u : Fin 4) (f : Cu → Cu) : (s.modCu u f).parts = s.parts := rfl
@[simp] theorem State.modCu_evt (s : State) (u : Fin 4) (f : Cu → Cu) : (s.modCu u f).evt = s.evt := rfl
@[simp] theorem State.modCu_cu (s : State) (u : Fin 4) (f : Cu → Cu) : (s.modCu u f).cu = s.cu.set u (f s.cu[u]) := rfl
@[simp] theorem State.modCu_flt (s : State) (u : Fin 4) (f : Cu → Cu) : (s.modCu u f).flt = s.flt := rfl
@[simp] theorem State.modCu_srcs (s : State) (u : Fin 4) (f : Cu → Cu) : (s.modCu u f).srcs = s.srcs := rfl
@[simp] theorem State.modCu_xing (s : State) (u : Fin 4) (f : Cu → Cu) : (s.modCu u f).xing = s.xing := rfl
@[simp] theorem State.modCu_scrub (s : State) (u : Fin 4) (f : Cu → Cu) : (s.modCu u f).scrub = s.scrub := rfl
@[simp] theorem State.modCu_recs (s : State) (u : Fin 4) (f : Cu → Cu) : (s.modCu u f).recs = s.recs := rfl
@[simp] theorem State.modCu_soe (s : State) (u : Fin 4) (f : Cu → Cu) : (s.modCu u f).soe = s.soe := rfl
@[simp] theorem State.modCu_life (s : State) (u : Fin 4) (f : Cu → Cu) : (s.modCu u f).life = s.life := rfl
@[simp] theorem State.modCu_fw (s : State) (u : Fin 4) (f : Cu → Cu) : (s.modCu u f).fw = s.fw := rfl
@[simp] theorem State.modCu_cfgOk (s : State) (u : Fin 4) (f : Cu → Cu) : (s.modCu u f).cfgOk = s.cfgOk := rfl
@[simp] theorem State.modCu_free (s : State) (u : Fin 4) (f : Cu → Cu) : (s.modCu u f).free = s.free := rfl

/-! modMd -/

@[simp] theorem modMd_pending (s : State) (f : ModeSt → ModeSt) : (modMd f s).pending = s.pending := rfl
@[simp] theorem modMd_clk (s : State) (f : ModeSt → ModeSt) : (modMd f s).clk = s.clk := rfl
@[simp] theorem modMd_pwr (s : State) (f : ModeSt → ModeSt) : (modMd f s).pwr = s.pwr := rfl
@[simp] theorem modMd_md (s : State) (f : ModeSt → ModeSt) : (modMd f s).md = f s.md := rfl
@[simp] theorem modMd_sys (s : State) (f : ModeSt → ModeSt) : (modMd f s).sys = s.sys := rfl
@[simp] theorem modMd_spring (s : State) (f : ModeSt → ModeSt) : (modMd f s).spring = s.spring := rfl
@[simp] theorem modMd_cells (s : State) (f : ModeSt → ModeSt) : (modMd f s).cells = s.cells := rfl
@[simp] theorem modMd_eng (s : State) (f : ModeSt → ModeSt) : (modMd f s).eng = s.eng := rfl
@[simp] theorem modMd_ti (s : State) (f : ModeSt → ModeSt) : (modMd f s).ti = s.ti := rfl
@[simp] theorem modMd_net (s : State) (f : ModeSt → ModeSt) : (modMd f s).net = s.net := rfl
@[simp] theorem modMd_cas (s : State) (f : ModeSt → ModeSt) : (modMd f s).cas = s.cas := rfl
@[simp] theorem modMd_grp (s : State) (f : ModeSt → ModeSt) : (modMd f s).grp = s.grp := rfl
@[simp] theorem modMd_hp (s : State) (f : ModeSt → ModeSt) : (modMd f s).hp = s.hp := rfl
@[simp] theorem modMd_alives (s : State) (f : ModeSt → ModeSt) : (modMd f s).alives = s.alives := rfl
@[simp] theorem modMd_ops (s : State) (f : ModeSt → ModeSt) : (modMd f s).ops = s.ops := rfl
@[simp] theorem modMd_done (s : State) (f : ModeSt → ModeSt) : (modMd f s).done = s.done := rfl
@[simp] theorem modMd_parts (s : State) (f : ModeSt → ModeSt) : (modMd f s).parts = s.parts := rfl
@[simp] theorem modMd_evt (s : State) (f : ModeSt → ModeSt) : (modMd f s).evt = s.evt := rfl
@[simp] theorem modMd_cu (s : State) (f : ModeSt → ModeSt) : (modMd f s).cu = s.cu := rfl
@[simp] theorem modMd_flt (s : State) (f : ModeSt → ModeSt) : (modMd f s).flt = s.flt := rfl
@[simp] theorem modMd_srcs (s : State) (f : ModeSt → ModeSt) : (modMd f s).srcs = s.srcs := rfl
@[simp] theorem modMd_xing (s : State) (f : ModeSt → ModeSt) : (modMd f s).xing = s.xing := rfl
@[simp] theorem modMd_scrub (s : State) (f : ModeSt → ModeSt) : (modMd f s).scrub = s.scrub := rfl
@[simp] theorem modMd_recs (s : State) (f : ModeSt → ModeSt) : (modMd f s).recs = s.recs := rfl
@[simp] theorem modMd_soe (s : State) (f : ModeSt → ModeSt) : (modMd f s).soe = s.soe := rfl
@[simp] theorem modMd_life (s : State) (f : ModeSt → ModeSt) : (modMd f s).life = s.life := rfl
@[simp] theorem modMd_fw (s : State) (f : ModeSt → ModeSt) : (modMd f s).fw = s.fw := rfl
@[simp] theorem modMd_cfgOk (s : State) (f : ModeSt → ModeSt) : (modMd f s).cfgOk = s.cfgOk := rfl
@[simp] theorem modMd_free (s : State) (f : ModeSt → ModeSt) : (modMd f s).free = s.free := rfl

/-! modPwr -/

@[simp] theorem modPwr_pending (s : State) (f : Pwr → Pwr) : (modPwr f s).pending = s.pending := rfl
@[simp] theorem modPwr_clk (s : State) (f : Pwr → Pwr) : (modPwr f s).clk = s.clk := rfl
@[simp] theorem modPwr_pwr (s : State) (f : Pwr → Pwr) : (modPwr f s).pwr = f s.pwr := rfl
@[simp] theorem modPwr_md (s : State) (f : Pwr → Pwr) : (modPwr f s).md = s.md := rfl
@[simp] theorem modPwr_sys (s : State) (f : Pwr → Pwr) : (modPwr f s).sys = s.sys := rfl
@[simp] theorem modPwr_spring (s : State) (f : Pwr → Pwr) : (modPwr f s).spring = s.spring := rfl
@[simp] theorem modPwr_cells (s : State) (f : Pwr → Pwr) : (modPwr f s).cells = s.cells := rfl
@[simp] theorem modPwr_eng (s : State) (f : Pwr → Pwr) : (modPwr f s).eng = s.eng := rfl
@[simp] theorem modPwr_ti (s : State) (f : Pwr → Pwr) : (modPwr f s).ti = s.ti := rfl
@[simp] theorem modPwr_net (s : State) (f : Pwr → Pwr) : (modPwr f s).net = s.net := rfl
@[simp] theorem modPwr_cas (s : State) (f : Pwr → Pwr) : (modPwr f s).cas = s.cas := rfl
@[simp] theorem modPwr_grp (s : State) (f : Pwr → Pwr) : (modPwr f s).grp = s.grp := rfl
@[simp] theorem modPwr_hp (s : State) (f : Pwr → Pwr) : (modPwr f s).hp = s.hp := rfl
@[simp] theorem modPwr_alives (s : State) (f : Pwr → Pwr) : (modPwr f s).alives = s.alives := rfl
@[simp] theorem modPwr_ops (s : State) (f : Pwr → Pwr) : (modPwr f s).ops = s.ops := rfl
@[simp] theorem modPwr_done (s : State) (f : Pwr → Pwr) : (modPwr f s).done = s.done := rfl
@[simp] theorem modPwr_parts (s : State) (f : Pwr → Pwr) : (modPwr f s).parts = s.parts := rfl
@[simp] theorem modPwr_evt (s : State) (f : Pwr → Pwr) : (modPwr f s).evt = s.evt := rfl
@[simp] theorem modPwr_cu (s : State) (f : Pwr → Pwr) : (modPwr f s).cu = s.cu := rfl
@[simp] theorem modPwr_flt (s : State) (f : Pwr → Pwr) : (modPwr f s).flt = s.flt := rfl
@[simp] theorem modPwr_srcs (s : State) (f : Pwr → Pwr) : (modPwr f s).srcs = s.srcs := rfl
@[simp] theorem modPwr_xing (s : State) (f : Pwr → Pwr) : (modPwr f s).xing = s.xing := rfl
@[simp] theorem modPwr_scrub (s : State) (f : Pwr → Pwr) : (modPwr f s).scrub = s.scrub := rfl
@[simp] theorem modPwr_recs (s : State) (f : Pwr → Pwr) : (modPwr f s).recs = s.recs := rfl
@[simp] theorem modPwr_soe (s : State) (f : Pwr → Pwr) : (modPwr f s).soe = s.soe := rfl
@[simp] theorem modPwr_life (s : State) (f : Pwr → Pwr) : (modPwr f s).life = s.life := rfl
@[simp] theorem modPwr_fw (s : State) (f : Pwr → Pwr) : (modPwr f s).fw = s.fw := rfl
@[simp] theorem modPwr_cfgOk (s : State) (f : Pwr → Pwr) : (modPwr f s).cfgOk = s.cfgOk := rfl
@[simp] theorem modPwr_free (s : State) (f : Pwr → Pwr) : (modPwr f s).free = s.free := rfl

/-! modSpring -/

@[simp] theorem modSpring_pending (s : State) (f : Spring → Spring) : (modSpring f s).pending = s.pending := rfl
@[simp] theorem modSpring_clk (s : State) (f : Spring → Spring) : (modSpring f s).clk = s.clk := rfl
@[simp] theorem modSpring_pwr (s : State) (f : Spring → Spring) : (modSpring f s).pwr = s.pwr := rfl
@[simp] theorem modSpring_md (s : State) (f : Spring → Spring) : (modSpring f s).md = s.md := rfl
@[simp] theorem modSpring_sys (s : State) (f : Spring → Spring) : (modSpring f s).sys = s.sys := rfl
@[simp] theorem modSpring_spring (s : State) (f : Spring → Spring) : (modSpring f s).spring = f s.spring := rfl
@[simp] theorem modSpring_cells (s : State) (f : Spring → Spring) : (modSpring f s).cells = s.cells := rfl
@[simp] theorem modSpring_eng (s : State) (f : Spring → Spring) : (modSpring f s).eng = s.eng := rfl
@[simp] theorem modSpring_ti (s : State) (f : Spring → Spring) : (modSpring f s).ti = s.ti := rfl
@[simp] theorem modSpring_net (s : State) (f : Spring → Spring) : (modSpring f s).net = s.net := rfl
@[simp] theorem modSpring_cas (s : State) (f : Spring → Spring) : (modSpring f s).cas = s.cas := rfl
@[simp] theorem modSpring_grp (s : State) (f : Spring → Spring) : (modSpring f s).grp = s.grp := rfl
@[simp] theorem modSpring_hp (s : State) (f : Spring → Spring) : (modSpring f s).hp = s.hp := rfl
@[simp] theorem modSpring_alives (s : State) (f : Spring → Spring) : (modSpring f s).alives = s.alives := rfl
@[simp] theorem modSpring_ops (s : State) (f : Spring → Spring) : (modSpring f s).ops = s.ops := rfl
@[simp] theorem modSpring_done (s : State) (f : Spring → Spring) : (modSpring f s).done = s.done := rfl
@[simp] theorem modSpring_parts (s : State) (f : Spring → Spring) : (modSpring f s).parts = s.parts := rfl
@[simp] theorem modSpring_evt (s : State) (f : Spring → Spring) : (modSpring f s).evt = s.evt := rfl
@[simp] theorem modSpring_cu (s : State) (f : Spring → Spring) : (modSpring f s).cu = s.cu := rfl
@[simp] theorem modSpring_flt (s : State) (f : Spring → Spring) : (modSpring f s).flt = s.flt := rfl
@[simp] theorem modSpring_srcs (s : State) (f : Spring → Spring) : (modSpring f s).srcs = s.srcs := rfl
@[simp] theorem modSpring_xing (s : State) (f : Spring → Spring) : (modSpring f s).xing = s.xing := rfl
@[simp] theorem modSpring_scrub (s : State) (f : Spring → Spring) : (modSpring f s).scrub = s.scrub := rfl
@[simp] theorem modSpring_recs (s : State) (f : Spring → Spring) : (modSpring f s).recs = s.recs := rfl
@[simp] theorem modSpring_soe (s : State) (f : Spring → Spring) : (modSpring f s).soe = s.soe := rfl
@[simp] theorem modSpring_life (s : State) (f : Spring → Spring) : (modSpring f s).life = s.life := rfl
@[simp] theorem modSpring_fw (s : State) (f : Spring → Spring) : (modSpring f s).fw = s.fw := rfl
@[simp] theorem modSpring_cfgOk (s : State) (f : Spring → Spring) : (modSpring f s).cfgOk = s.cfgOk := rfl
@[simp] theorem modSpring_free (s : State) (f : Spring → Spring) : (modSpring f s).free = s.free := rfl

/-! modCas -/

@[simp] theorem modCas_pending (s : State) (f : Cas → Cas) : (modCas f s).pending = s.pending := rfl
@[simp] theorem modCas_clk (s : State) (f : Cas → Cas) : (modCas f s).clk = s.clk := rfl
@[simp] theorem modCas_pwr (s : State) (f : Cas → Cas) : (modCas f s).pwr = s.pwr := rfl
@[simp] theorem modCas_md (s : State) (f : Cas → Cas) : (modCas f s).md = s.md := rfl
@[simp] theorem modCas_sys (s : State) (f : Cas → Cas) : (modCas f s).sys = s.sys := rfl
@[simp] theorem modCas_spring (s : State) (f : Cas → Cas) : (modCas f s).spring = s.spring := rfl
@[simp] theorem modCas_cells (s : State) (f : Cas → Cas) : (modCas f s).cells = s.cells := rfl
@[simp] theorem modCas_eng (s : State) (f : Cas → Cas) : (modCas f s).eng = s.eng := rfl
@[simp] theorem modCas_ti (s : State) (f : Cas → Cas) : (modCas f s).ti = s.ti := rfl
@[simp] theorem modCas_net (s : State) (f : Cas → Cas) : (modCas f s).net = s.net := rfl
@[simp] theorem modCas_cas (s : State) (f : Cas → Cas) : (modCas f s).cas = f s.cas := rfl
@[simp] theorem modCas_grp (s : State) (f : Cas → Cas) : (modCas f s).grp = s.grp := rfl
@[simp] theorem modCas_hp (s : State) (f : Cas → Cas) : (modCas f s).hp = s.hp := rfl
@[simp] theorem modCas_alives (s : State) (f : Cas → Cas) : (modCas f s).alives = s.alives := rfl
@[simp] theorem modCas_ops (s : State) (f : Cas → Cas) : (modCas f s).ops = s.ops := rfl
@[simp] theorem modCas_done (s : State) (f : Cas → Cas) : (modCas f s).done = s.done := rfl
@[simp] theorem modCas_parts (s : State) (f : Cas → Cas) : (modCas f s).parts = s.parts := rfl
@[simp] theorem modCas_evt (s : State) (f : Cas → Cas) : (modCas f s).evt = s.evt := rfl
@[simp] theorem modCas_cu (s : State) (f : Cas → Cas) : (modCas f s).cu = s.cu := rfl
@[simp] theorem modCas_flt (s : State) (f : Cas → Cas) : (modCas f s).flt = s.flt := rfl
@[simp] theorem modCas_srcs (s : State) (f : Cas → Cas) : (modCas f s).srcs = s.srcs := rfl
@[simp] theorem modCas_xing (s : State) (f : Cas → Cas) : (modCas f s).xing = s.xing := rfl
@[simp] theorem modCas_scrub (s : State) (f : Cas → Cas) : (modCas f s).scrub = s.scrub := rfl
@[simp] theorem modCas_recs (s : State) (f : Cas → Cas) : (modCas f s).recs = s.recs := rfl
@[simp] theorem modCas_soe (s : State) (f : Cas → Cas) : (modCas f s).soe = s.soe := rfl
@[simp] theorem modCas_life (s : State) (f : Cas → Cas) : (modCas f s).life = s.life := rfl
@[simp] theorem modCas_fw (s : State) (f : Cas → Cas) : (modCas f s).fw = s.fw := rfl
@[simp] theorem modCas_cfgOk (s : State) (f : Cas → Cas) : (modCas f s).cfgOk = s.cfgOk := rfl
@[simp] theorem modCas_free (s : State) (f : Cas → Cas) : (modCas f s).free = s.free := rfl

/-! modPeer -/

@[simp] theorem modPeer_pending (s : State) (i : Fin 8) (f : CasPeer → CasPeer) : (modPeer i f s).pending = s.pending := rfl
@[simp] theorem modPeer_clk (s : State) (i : Fin 8) (f : CasPeer → CasPeer) : (modPeer i f s).clk = s.clk := rfl
@[simp] theorem modPeer_pwr (s : State) (i : Fin 8) (f : CasPeer → CasPeer) : (modPeer i f s).pwr = s.pwr := rfl
@[simp] theorem modPeer_md (s : State) (i : Fin 8) (f : CasPeer → CasPeer) : (modPeer i f s).md = s.md := rfl
@[simp] theorem modPeer_sys (s : State) (i : Fin 8) (f : CasPeer → CasPeer) : (modPeer i f s).sys = s.sys := rfl
@[simp] theorem modPeer_spring (s : State) (i : Fin 8) (f : CasPeer → CasPeer) : (modPeer i f s).spring = s.spring := rfl
@[simp] theorem modPeer_cells (s : State) (i : Fin 8) (f : CasPeer → CasPeer) : (modPeer i f s).cells = s.cells := rfl
@[simp] theorem modPeer_eng (s : State) (i : Fin 8) (f : CasPeer → CasPeer) : (modPeer i f s).eng = s.eng := rfl
@[simp] theorem modPeer_ti (s : State) (i : Fin 8) (f : CasPeer → CasPeer) : (modPeer i f s).ti = s.ti := rfl
@[simp] theorem modPeer_net (s : State) (i : Fin 8) (f : CasPeer → CasPeer) : (modPeer i f s).net = s.net := rfl
@[simp] theorem modPeer_grp (s : State) (i : Fin 8) (f : CasPeer → CasPeer) : (modPeer i f s).grp = s.grp := rfl
@[simp] theorem modPeer_hp (s : State) (i : Fin 8) (f : CasPeer → CasPeer) : (modPeer i f s).hp = s.hp := rfl
@[simp] theorem modPeer_alives (s : State) (i : Fin 8) (f : CasPeer → CasPeer) : (modPeer i f s).alives = s.alives := rfl
@[simp] theorem modPeer_ops (s : State) (i : Fin 8) (f : CasPeer → CasPeer) : (modPeer i f s).ops = s.ops := rfl
@[simp] theorem modPeer_done (s : State) (i : Fin 8) (f : CasPeer → CasPeer) : (modPeer i f s).done = s.done := rfl
@[simp] theorem modPeer_parts (s : State) (i : Fin 8) (f : CasPeer → CasPeer) : (modPeer i f s).parts = s.parts := rfl
@[simp] theorem modPeer_evt (s : State) (i : Fin 8) (f : CasPeer → CasPeer) : (modPeer i f s).evt = s.evt := rfl
@[simp] theorem modPeer_cu (s : State) (i : Fin 8) (f : CasPeer → CasPeer) : (modPeer i f s).cu = s.cu := rfl
@[simp] theorem modPeer_flt (s : State) (i : Fin 8) (f : CasPeer → CasPeer) : (modPeer i f s).flt = s.flt := rfl
@[simp] theorem modPeer_srcs (s : State) (i : Fin 8) (f : CasPeer → CasPeer) : (modPeer i f s).srcs = s.srcs := rfl
@[simp] theorem modPeer_xing (s : State) (i : Fin 8) (f : CasPeer → CasPeer) : (modPeer i f s).xing = s.xing := rfl
@[simp] theorem modPeer_scrub (s : State) (i : Fin 8) (f : CasPeer → CasPeer) : (modPeer i f s).scrub = s.scrub := rfl
@[simp] theorem modPeer_recs (s : State) (i : Fin 8) (f : CasPeer → CasPeer) : (modPeer i f s).recs = s.recs := rfl
@[simp] theorem modPeer_soe (s : State) (i : Fin 8) (f : CasPeer → CasPeer) : (modPeer i f s).soe = s.soe := rfl
@[simp] theorem modPeer_life (s : State) (i : Fin 8) (f : CasPeer → CasPeer) : (modPeer i f s).life = s.life := rfl
@[simp] theorem modPeer_fw (s : State) (i : Fin 8) (f : CasPeer → CasPeer) : (modPeer i f s).fw = s.fw := rfl
@[simp] theorem modPeer_cfgOk (s : State) (i : Fin 8) (f : CasPeer → CasPeer) : (modPeer i f s).cfgOk = s.cfgOk := rfl
@[simp] theorem modPeer_free (s : State) (i : Fin 8) (f : CasPeer → CasPeer) : (modPeer i f s).free = s.free := rfl

/-! modHp -/

@[simp] theorem modHp_pending (s : State) (f : HostPort → HostPort) : (modHp f s).pending = s.pending := rfl
@[simp] theorem modHp_clk (s : State) (f : HostPort → HostPort) : (modHp f s).clk = s.clk := rfl
@[simp] theorem modHp_pwr (s : State) (f : HostPort → HostPort) : (modHp f s).pwr = s.pwr := rfl
@[simp] theorem modHp_md (s : State) (f : HostPort → HostPort) : (modHp f s).md = s.md := rfl
@[simp] theorem modHp_sys (s : State) (f : HostPort → HostPort) : (modHp f s).sys = s.sys := rfl
@[simp] theorem modHp_spring (s : State) (f : HostPort → HostPort) : (modHp f s).spring = s.spring := rfl
@[simp] theorem modHp_cells (s : State) (f : HostPort → HostPort) : (modHp f s).cells = s.cells := rfl
@[simp] theorem modHp_eng (s : State) (f : HostPort → HostPort) : (modHp f s).eng = s.eng := rfl
@[simp] theorem modHp_ti (s : State) (f : HostPort → HostPort) : (modHp f s).ti = s.ti := rfl
@[simp] theorem modHp_net (s : State) (f : HostPort → HostPort) : (modHp f s).net = s.net := rfl
@[simp] theorem modHp_cas (s : State) (f : HostPort → HostPort) : (modHp f s).cas = s.cas := rfl
@[simp] theorem modHp_grp (s : State) (f : HostPort → HostPort) : (modHp f s).grp = s.grp := rfl
@[simp] theorem modHp_hp (s : State) (f : HostPort → HostPort) : (modHp f s).hp = f s.hp := rfl
@[simp] theorem modHp_alives (s : State) (f : HostPort → HostPort) : (modHp f s).alives = s.alives := rfl
@[simp] theorem modHp_ops (s : State) (f : HostPort → HostPort) : (modHp f s).ops = s.ops := rfl
@[simp] theorem modHp_done (s : State) (f : HostPort → HostPort) : (modHp f s).done = s.done := rfl
@[simp] theorem modHp_parts (s : State) (f : HostPort → HostPort) : (modHp f s).parts = s.parts := rfl
@[simp] theorem modHp_evt (s : State) (f : HostPort → HostPort) : (modHp f s).evt = s.evt := rfl
@[simp] theorem modHp_cu (s : State) (f : HostPort → HostPort) : (modHp f s).cu = s.cu := rfl
@[simp] theorem modHp_flt (s : State) (f : HostPort → HostPort) : (modHp f s).flt = s.flt := rfl
@[simp] theorem modHp_srcs (s : State) (f : HostPort → HostPort) : (modHp f s).srcs = s.srcs := rfl
@[simp] theorem modHp_xing (s : State) (f : HostPort → HostPort) : (modHp f s).xing = s.xing := rfl
@[simp] theorem modHp_scrub (s : State) (f : HostPort → HostPort) : (modHp f s).scrub = s.scrub := rfl
@[simp] theorem modHp_recs (s : State) (f : HostPort → HostPort) : (modHp f s).recs = s.recs := rfl
@[simp] theorem modHp_soe (s : State) (f : HostPort → HostPort) : (modHp f s).soe = s.soe := rfl
@[simp] theorem modHp_life (s : State) (f : HostPort → HostPort) : (modHp f s).life = s.life := rfl
@[simp] theorem modHp_fw (s : State) (f : HostPort → HostPort) : (modHp f s).fw = s.fw := rfl
@[simp] theorem modHp_cfgOk (s : State) (f : HostPort → HostPort) : (modHp f s).cfgOk = s.cfgOk := rfl
@[simp] theorem modHp_free (s : State) (f : HostPort → HostPort) : (modHp f s).free = s.free := rfl

/-! modLane -/

@[simp] theorem modLane_pending (s : State) (ch : Ch) (f : Lane → Lane) : (modLane ch f s).pending = s.pending := rfl
@[simp] theorem modLane_clk (s : State) (ch : Ch) (f : Lane → Lane) : (modLane ch f s).clk = s.clk := rfl
@[simp] theorem modLane_pwr (s : State) (ch : Ch) (f : Lane → Lane) : (modLane ch f s).pwr = s.pwr := rfl
@[simp] theorem modLane_md (s : State) (ch : Ch) (f : Lane → Lane) : (modLane ch f s).md = s.md := rfl
@[simp] theorem modLane_sys (s : State) (ch : Ch) (f : Lane → Lane) : (modLane ch f s).sys = s.sys := rfl
@[simp] theorem modLane_spring (s : State) (ch : Ch) (f : Lane → Lane) : (modLane ch f s).spring = s.spring := rfl
@[simp] theorem modLane_eng (s : State) (ch : Ch) (f : Lane → Lane) : (modLane ch f s).eng = s.eng := rfl
@[simp] theorem modLane_ti (s : State) (ch : Ch) (f : Lane → Lane) : (modLane ch f s).ti = s.ti := rfl
@[simp] theorem modLane_net (s : State) (ch : Ch) (f : Lane → Lane) : (modLane ch f s).net = s.net := rfl
@[simp] theorem modLane_cas (s : State) (ch : Ch) (f : Lane → Lane) : (modLane ch f s).cas = s.cas := rfl
@[simp] theorem modLane_grp (s : State) (ch : Ch) (f : Lane → Lane) : (modLane ch f s).grp = s.grp := rfl
@[simp] theorem modLane_hp (s : State) (ch : Ch) (f : Lane → Lane) : (modLane ch f s).hp = s.hp := rfl
@[simp] theorem modLane_alives (s : State) (ch : Ch) (f : Lane → Lane) : (modLane ch f s).alives = s.alives := rfl
@[simp] theorem modLane_ops (s : State) (ch : Ch) (f : Lane → Lane) : (modLane ch f s).ops = s.ops := rfl
@[simp] theorem modLane_done (s : State) (ch : Ch) (f : Lane → Lane) : (modLane ch f s).done = s.done := rfl
@[simp] theorem modLane_parts (s : State) (ch : Ch) (f : Lane → Lane) : (modLane ch f s).parts = s.parts := rfl
@[simp] theorem modLane_evt (s : State) (ch : Ch) (f : Lane → Lane) : (modLane ch f s).evt = s.evt := rfl
@[simp] theorem modLane_cu (s : State) (ch : Ch) (f : Lane → Lane) : (modLane ch f s).cu = s.cu := rfl
@[simp] theorem modLane_flt (s : State) (ch : Ch) (f : Lane → Lane) : (modLane ch f s).flt = s.flt := rfl
@[simp] theorem modLane_srcs (s : State) (ch : Ch) (f : Lane → Lane) : (modLane ch f s).srcs = s.srcs := rfl
@[simp] theorem modLane_xing (s : State) (ch : Ch) (f : Lane → Lane) : (modLane ch f s).xing = s.xing := rfl
@[simp] theorem modLane_scrub (s : State) (ch : Ch) (f : Lane → Lane) : (modLane ch f s).scrub = s.scrub := rfl
@[simp] theorem modLane_recs (s : State) (ch : Ch) (f : Lane → Lane) : (modLane ch f s).recs = s.recs := rfl
@[simp] theorem modLane_soe (s : State) (ch : Ch) (f : Lane → Lane) : (modLane ch f s).soe = s.soe := rfl
@[simp] theorem modLane_life (s : State) (ch : Ch) (f : Lane → Lane) : (modLane ch f s).life = s.life := rfl
@[simp] theorem modLane_fw (s : State) (ch : Ch) (f : Lane → Lane) : (modLane ch f s).fw = s.fw := rfl
@[simp] theorem modLane_cfgOk (s : State) (ch : Ch) (f : Lane → Lane) : (modLane ch f s).cfgOk = s.cfgOk := rfl
@[simp] theorem modLane_free (s : State) (ch : Ch) (f : Lane → Lane) : (modLane ch f s).free = s.free := rfl

/-! modXing -/

@[simp] theorem modXing_pending (s : State) (row : Fin 8) (f : Xing → Xing) : (modXing row f s).pending = s.pending := rfl
@[simp] theorem modXing_clk (s : State) (row : Fin 8) (f : Xing → Xing) : (modXing row f s).clk = s.clk := rfl
@[simp] theorem modXing_pwr (s : State) (row : Fin 8) (f : Xing → Xing) : (modXing row f s).pwr = s.pwr := rfl
@[simp] theorem modXing_md (s : State) (row : Fin 8) (f : Xing → Xing) : (modXing row f s).md = s.md := rfl
@[simp] theorem modXing_sys (s : State) (row : Fin 8) (f : Xing → Xing) : (modXing row f s).sys = s.sys := rfl
@[simp] theorem modXing_spring (s : State) (row : Fin 8) (f : Xing → Xing) : (modXing row f s).spring = s.spring := rfl
@[simp] theorem modXing_cells (s : State) (row : Fin 8) (f : Xing → Xing) : (modXing row f s).cells = s.cells := rfl
@[simp] theorem modXing_eng (s : State) (row : Fin 8) (f : Xing → Xing) : (modXing row f s).eng = s.eng := rfl
@[simp] theorem modXing_ti (s : State) (row : Fin 8) (f : Xing → Xing) : (modXing row f s).ti = s.ti := rfl
@[simp] theorem modXing_net (s : State) (row : Fin 8) (f : Xing → Xing) : (modXing row f s).net = s.net := rfl
@[simp] theorem modXing_cas (s : State) (row : Fin 8) (f : Xing → Xing) : (modXing row f s).cas = s.cas := rfl
@[simp] theorem modXing_grp (s : State) (row : Fin 8) (f : Xing → Xing) : (modXing row f s).grp = s.grp := rfl
@[simp] theorem modXing_hp (s : State) (row : Fin 8) (f : Xing → Xing) : (modXing row f s).hp = s.hp := rfl
@[simp] theorem modXing_alives (s : State) (row : Fin 8) (f : Xing → Xing) : (modXing row f s).alives = s.alives := rfl
@[simp] theorem modXing_ops (s : State) (row : Fin 8) (f : Xing → Xing) : (modXing row f s).ops = s.ops := rfl
@[simp] theorem modXing_done (s : State) (row : Fin 8) (f : Xing → Xing) : (modXing row f s).done = s.done := rfl
@[simp] theorem modXing_parts (s : State) (row : Fin 8) (f : Xing → Xing) : (modXing row f s).parts = s.parts := rfl
@[simp] theorem modXing_evt (s : State) (row : Fin 8) (f : Xing → Xing) : (modXing row f s).evt = s.evt := rfl
@[simp] theorem modXing_cu (s : State) (row : Fin 8) (f : Xing → Xing) : (modXing row f s).cu = s.cu := rfl
@[simp] theorem modXing_flt (s : State) (row : Fin 8) (f : Xing → Xing) : (modXing row f s).flt = s.flt := rfl
@[simp] theorem modXing_srcs (s : State) (row : Fin 8) (f : Xing → Xing) : (modXing row f s).srcs = s.srcs := rfl
@[simp] theorem modXing_xing (s : State) (row : Fin 8) (f : Xing → Xing) : (modXing row f s).xing = s.xing.set row (f s.xing[row]) := rfl
@[simp] theorem modXing_scrub (s : State) (row : Fin 8) (f : Xing → Xing) : (modXing row f s).scrub = s.scrub := rfl
@[simp] theorem modXing_recs (s : State) (row : Fin 8) (f : Xing → Xing) : (modXing row f s).recs = s.recs := rfl
@[simp] theorem modXing_soe (s : State) (row : Fin 8) (f : Xing → Xing) : (modXing row f s).soe = s.soe := rfl
@[simp] theorem modXing_life (s : State) (row : Fin 8) (f : Xing → Xing) : (modXing row f s).life = s.life := rfl
@[simp] theorem modXing_fw (s : State) (row : Fin 8) (f : Xing → Xing) : (modXing row f s).fw = s.fw := rfl
@[simp] theorem modXing_cfgOk (s : State) (row : Fin 8) (f : Xing → Xing) : (modXing row f s).cfgOk = s.cfgOk := rfl
@[simp] theorem modXing_free (s : State) (row : Fin 8) (f : Xing → Xing) : (modXing row f s).free = s.free := rfl

/-! modWorker -/

@[simp] theorem modWorker_pending (s : State) (n : Nat) (f : Worker → Worker) : (modWorker n f s).pending = s.pending := rfl
@[simp] theorem modWorker_clk (s : State) (n : Nat) (f : Worker → Worker) : (modWorker n f s).clk = s.clk := rfl
@[simp] theorem modWorker_pwr (s : State) (n : Nat) (f : Worker → Worker) : (modWorker n f s).pwr = s.pwr := rfl
@[simp] theorem modWorker_md (s : State) (n : Nat) (f : Worker → Worker) : (modWorker n f s).md = s.md := rfl
@[simp] theorem modWorker_sys (s : State) (n : Nat) (f : Worker → Worker) : (modWorker n f s).sys = s.sys := rfl
@[simp] theorem modWorker_spring (s : State) (n : Nat) (f : Worker → Worker) : (modWorker n f s).spring = s.spring := rfl
@[simp] theorem modWorker_cells (s : State) (n : Nat) (f : Worker → Worker) : (modWorker n f s).cells = s.cells := rfl
@[simp] theorem modWorker_eng (s : State) (n : Nat) (f : Worker → Worker) : (modWorker n f s).eng = s.eng := rfl
@[simp] theorem modWorker_ti (s : State) (n : Nat) (f : Worker → Worker) : (modWorker n f s).ti = s.ti := rfl
@[simp] theorem modWorker_net (s : State) (n : Nat) (f : Worker → Worker) : (modWorker n f s).net = s.net := rfl
@[simp] theorem modWorker_cas (s : State) (n : Nat) (f : Worker → Worker) : (modWorker n f s).cas = s.cas := rfl
@[simp] theorem modWorker_hp (s : State) (n : Nat) (f : Worker → Worker) : (modWorker n f s).hp = s.hp := rfl
@[simp] theorem modWorker_alives (s : State) (n : Nat) (f : Worker → Worker) : (modWorker n f s).alives = s.alives := rfl
@[simp] theorem modWorker_ops (s : State) (n : Nat) (f : Worker → Worker) : (modWorker n f s).ops = s.ops := rfl
@[simp] theorem modWorker_done (s : State) (n : Nat) (f : Worker → Worker) : (modWorker n f s).done = s.done := rfl
@[simp] theorem modWorker_parts (s : State) (n : Nat) (f : Worker → Worker) : (modWorker n f s).parts = s.parts := rfl
@[simp] theorem modWorker_evt (s : State) (n : Nat) (f : Worker → Worker) : (modWorker n f s).evt = s.evt := rfl
@[simp] theorem modWorker_cu (s : State) (n : Nat) (f : Worker → Worker) : (modWorker n f s).cu = s.cu := rfl
@[simp] theorem modWorker_flt (s : State) (n : Nat) (f : Worker → Worker) : (modWorker n f s).flt = s.flt := rfl
@[simp] theorem modWorker_srcs (s : State) (n : Nat) (f : Worker → Worker) : (modWorker n f s).srcs = s.srcs := rfl
@[simp] theorem modWorker_xing (s : State) (n : Nat) (f : Worker → Worker) : (modWorker n f s).xing = s.xing := rfl
@[simp] theorem modWorker_scrub (s : State) (n : Nat) (f : Worker → Worker) : (modWorker n f s).scrub = s.scrub := rfl
@[simp] theorem modWorker_recs (s : State) (n : Nat) (f : Worker → Worker) : (modWorker n f s).recs = s.recs := rfl
@[simp] theorem modWorker_soe (s : State) (n : Nat) (f : Worker → Worker) : (modWorker n f s).soe = s.soe := rfl
@[simp] theorem modWorker_life (s : State) (n : Nat) (f : Worker → Worker) : (modWorker n f s).life = s.life := rfl
@[simp] theorem modWorker_fw (s : State) (n : Nat) (f : Worker → Worker) : (modWorker n f s).fw = s.fw := rfl
@[simp] theorem modWorker_cfgOk (s : State) (n : Nat) (f : Worker → Worker) : (modWorker n f s).cfgOk = s.cfgOk := rfl
@[simp] theorem modWorker_free (s : State) (n : Nat) (f : Worker → Worker) : (modWorker n f s).free = s.free := rfl

/-! modOp -/

@[simp] theorem modOp_pending (s : State) (r : CmdRef) (f : LongOp → LongOp) : (modOp r f s).pending = s.pending := rfl
@[simp] theorem modOp_clk (s : State) (r : CmdRef) (f : LongOp → LongOp) : (modOp r f s).clk = s.clk := rfl
@[simp] theorem modOp_pwr (s : State) (r : CmdRef) (f : LongOp → LongOp) : (modOp r f s).pwr = s.pwr := rfl
@[simp] theorem modOp_md (s : State) (r : CmdRef) (f : LongOp → LongOp) : (modOp r f s).md = s.md := rfl
@[simp] theorem modOp_sys (s : State) (r : CmdRef) (f : LongOp → LongOp) : (modOp r f s).sys = s.sys := rfl
@[simp] theorem modOp_spring (s : State) (r : CmdRef) (f : LongOp → LongOp) : (modOp r f s).spring = s.spring := rfl
@[simp] theorem modOp_cells (s : State) (r : CmdRef) (f : LongOp → LongOp) : (modOp r f s).cells = s.cells := rfl
@[simp] theorem modOp_eng (s : State) (r : CmdRef) (f : LongOp → LongOp) : (modOp r f s).eng = s.eng := rfl
@[simp] theorem modOp_ti (s : State) (r : CmdRef) (f : LongOp → LongOp) : (modOp r f s).ti = s.ti := rfl
@[simp] theorem modOp_net (s : State) (r : CmdRef) (f : LongOp → LongOp) : (modOp r f s).net = s.net := rfl
@[simp] theorem modOp_cas (s : State) (r : CmdRef) (f : LongOp → LongOp) : (modOp r f s).cas = s.cas := rfl
@[simp] theorem modOp_grp (s : State) (r : CmdRef) (f : LongOp → LongOp) : (modOp r f s).grp = s.grp := rfl
@[simp] theorem modOp_hp (s : State) (r : CmdRef) (f : LongOp → LongOp) : (modOp r f s).hp = s.hp := rfl
@[simp] theorem modOp_alives (s : State) (r : CmdRef) (f : LongOp → LongOp) : (modOp r f s).alives = s.alives := rfl
@[simp] theorem modOp_ops (s : State) (r : CmdRef) (f : LongOp → LongOp) : (modOp r f s).ops = s.ops.map fun o => if o.ref == r then f o else o := rfl
@[simp] theorem modOp_done (s : State) (r : CmdRef) (f : LongOp → LongOp) : (modOp r f s).done = s.done := rfl
@[simp] theorem modOp_parts (s : State) (r : CmdRef) (f : LongOp → LongOp) : (modOp r f s).parts = s.parts := rfl
@[simp] theorem modOp_evt (s : State) (r : CmdRef) (f : LongOp → LongOp) : (modOp r f s).evt = s.evt := rfl
@[simp] theorem modOp_cu (s : State) (r : CmdRef) (f : LongOp → LongOp) : (modOp r f s).cu = s.cu := rfl
@[simp] theorem modOp_flt (s : State) (r : CmdRef) (f : LongOp → LongOp) : (modOp r f s).flt = s.flt := rfl
@[simp] theorem modOp_srcs (s : State) (r : CmdRef) (f : LongOp → LongOp) : (modOp r f s).srcs = s.srcs := rfl
@[simp] theorem modOp_xing (s : State) (r : CmdRef) (f : LongOp → LongOp) : (modOp r f s).xing = s.xing := rfl
@[simp] theorem modOp_scrub (s : State) (r : CmdRef) (f : LongOp → LongOp) : (modOp r f s).scrub = s.scrub := rfl
@[simp] theorem modOp_recs (s : State) (r : CmdRef) (f : LongOp → LongOp) : (modOp r f s).recs = s.recs := rfl
@[simp] theorem modOp_soe (s : State) (r : CmdRef) (f : LongOp → LongOp) : (modOp r f s).soe = s.soe := rfl
@[simp] theorem modOp_life (s : State) (r : CmdRef) (f : LongOp → LongOp) : (modOp r f s).life = s.life := rfl
@[simp] theorem modOp_fw (s : State) (r : CmdRef) (f : LongOp → LongOp) : (modOp r f s).fw = s.fw := rfl
@[simp] theorem modOp_cfgOk (s : State) (r : CmdRef) (f : LongOp → LongOp) : (modOp r f s).cfgOk = s.cfgOk := rfl
@[simp] theorem modOp_free (s : State) (r : CmdRef) (f : LongOp → LongOp) : (modOp r f s).free = s.free := rfl

/-! setAlive -/

@[simp] theorem setAlive_pending (s : State) (src : Src) (f : AliveSt → AliveSt) : (setAlive src f s).pending = s.pending := rfl
@[simp] theorem setAlive_clk (s : State) (src : Src) (f : AliveSt → AliveSt) : (setAlive src f s).clk = s.clk := rfl
@[simp] theorem setAlive_pwr (s : State) (src : Src) (f : AliveSt → AliveSt) : (setAlive src f s).pwr = s.pwr := rfl
@[simp] theorem setAlive_md (s : State) (src : Src) (f : AliveSt → AliveSt) : (setAlive src f s).md = s.md := rfl
@[simp] theorem setAlive_sys (s : State) (src : Src) (f : AliveSt → AliveSt) : (setAlive src f s).sys = s.sys := rfl
@[simp] theorem setAlive_spring (s : State) (src : Src) (f : AliveSt → AliveSt) : (setAlive src f s).spring = s.spring := rfl
@[simp] theorem setAlive_cells (s : State) (src : Src) (f : AliveSt → AliveSt) : (setAlive src f s).cells = s.cells := rfl
@[simp] theorem setAlive_eng (s : State) (src : Src) (f : AliveSt → AliveSt) : (setAlive src f s).eng = s.eng := rfl
@[simp] theorem setAlive_ti (s : State) (src : Src) (f : AliveSt → AliveSt) : (setAlive src f s).ti = s.ti := rfl
@[simp] theorem setAlive_net (s : State) (src : Src) (f : AliveSt → AliveSt) : (setAlive src f s).net = s.net := rfl
@[simp] theorem setAlive_cas (s : State) (src : Src) (f : AliveSt → AliveSt) : (setAlive src f s).cas = s.cas := rfl
@[simp] theorem setAlive_grp (s : State) (src : Src) (f : AliveSt → AliveSt) : (setAlive src f s).grp = s.grp := rfl
@[simp] theorem setAlive_hp (s : State) (src : Src) (f : AliveSt → AliveSt) : (setAlive src f s).hp = s.hp := rfl
@[simp] theorem setAlive_ops (s : State) (src : Src) (f : AliveSt → AliveSt) : (setAlive src f s).ops = s.ops := rfl
@[simp] theorem setAlive_done (s : State) (src : Src) (f : AliveSt → AliveSt) : (setAlive src f s).done = s.done := rfl
@[simp] theorem setAlive_parts (s : State) (src : Src) (f : AliveSt → AliveSt) : (setAlive src f s).parts = s.parts := rfl
@[simp] theorem setAlive_evt (s : State) (src : Src) (f : AliveSt → AliveSt) : (setAlive src f s).evt = s.evt := rfl
@[simp] theorem setAlive_cu (s : State) (src : Src) (f : AliveSt → AliveSt) : (setAlive src f s).cu = s.cu := rfl
@[simp] theorem setAlive_flt (s : State) (src : Src) (f : AliveSt → AliveSt) : (setAlive src f s).flt = s.flt := rfl
@[simp] theorem setAlive_srcs (s : State) (src : Src) (f : AliveSt → AliveSt) : (setAlive src f s).srcs = s.srcs := rfl
@[simp] theorem setAlive_xing (s : State) (src : Src) (f : AliveSt → AliveSt) : (setAlive src f s).xing = s.xing := rfl
@[simp] theorem setAlive_scrub (s : State) (src : Src) (f : AliveSt → AliveSt) : (setAlive src f s).scrub = s.scrub := rfl
@[simp] theorem setAlive_recs (s : State) (src : Src) (f : AliveSt → AliveSt) : (setAlive src f s).recs = s.recs := rfl
@[simp] theorem setAlive_soe (s : State) (src : Src) (f : AliveSt → AliveSt) : (setAlive src f s).soe = s.soe := rfl
@[simp] theorem setAlive_life (s : State) (src : Src) (f : AliveSt → AliveSt) : (setAlive src f s).life = s.life := rfl
@[simp] theorem setAlive_fw (s : State) (src : Src) (f : AliveSt → AliveSt) : (setAlive src f s).fw = s.fw := rfl
@[simp] theorem setAlive_cfgOk (s : State) (src : Src) (f : AliveSt → AliveSt) : (setAlive src f s).cfgOk = s.cfgOk := rfl
@[simp] theorem setAlive_free (s : State) (src : Src) (f : AliveSt → AliveSt) : (setAlive src f s).free = s.free := rfl

/-! modGpub -/

@[simp] theorem modGpub_pending (s : State) (i : Fin 16) (f : GPub → GPub) : (modGpub i f s).pending = s.pending := rfl
@[simp] theorem modGpub_clk (s : State) (i : Fin 16) (f : GPub → GPub) : (modGpub i f s).clk = s.clk := rfl
@[simp] theorem modGpub_pwr (s : State) (i : Fin 16) (f : GPub → GPub) : (modGpub i f s).pwr = s.pwr := rfl
@[simp] theorem modGpub_md (s : State) (i : Fin 16) (f : GPub → GPub) : (modGpub i f s).md = s.md := rfl
@[simp] theorem modGpub_sys (s : State) (i : Fin 16) (f : GPub → GPub) : (modGpub i f s).sys = s.sys := rfl
@[simp] theorem modGpub_spring (s : State) (i : Fin 16) (f : GPub → GPub) : (modGpub i f s).spring = s.spring := rfl
@[simp] theorem modGpub_cells (s : State) (i : Fin 16) (f : GPub → GPub) : (modGpub i f s).cells = s.cells := rfl
@[simp] theorem modGpub_eng (s : State) (i : Fin 16) (f : GPub → GPub) : (modGpub i f s).eng = s.eng := rfl
@[simp] theorem modGpub_ti (s : State) (i : Fin 16) (f : GPub → GPub) : (modGpub i f s).ti = s.ti := rfl
@[simp] theorem modGpub_cas (s : State) (i : Fin 16) (f : GPub → GPub) : (modGpub i f s).cas = s.cas := rfl
@[simp] theorem modGpub_grp (s : State) (i : Fin 16) (f : GPub → GPub) : (modGpub i f s).grp = s.grp := rfl
@[simp] theorem modGpub_hp (s : State) (i : Fin 16) (f : GPub → GPub) : (modGpub i f s).hp = s.hp := rfl
@[simp] theorem modGpub_alives (s : State) (i : Fin 16) (f : GPub → GPub) : (modGpub i f s).alives = s.alives := rfl
@[simp] theorem modGpub_ops (s : State) (i : Fin 16) (f : GPub → GPub) : (modGpub i f s).ops = s.ops := rfl
@[simp] theorem modGpub_done (s : State) (i : Fin 16) (f : GPub → GPub) : (modGpub i f s).done = s.done := rfl
@[simp] theorem modGpub_parts (s : State) (i : Fin 16) (f : GPub → GPub) : (modGpub i f s).parts = s.parts := rfl
@[simp] theorem modGpub_evt (s : State) (i : Fin 16) (f : GPub → GPub) : (modGpub i f s).evt = s.evt := rfl
@[simp] theorem modGpub_cu (s : State) (i : Fin 16) (f : GPub → GPub) : (modGpub i f s).cu = s.cu := rfl
@[simp] theorem modGpub_flt (s : State) (i : Fin 16) (f : GPub → GPub) : (modGpub i f s).flt = s.flt := rfl
@[simp] theorem modGpub_srcs (s : State) (i : Fin 16) (f : GPub → GPub) : (modGpub i f s).srcs = s.srcs := rfl
@[simp] theorem modGpub_xing (s : State) (i : Fin 16) (f : GPub → GPub) : (modGpub i f s).xing = s.xing := rfl
@[simp] theorem modGpub_scrub (s : State) (i : Fin 16) (f : GPub → GPub) : (modGpub i f s).scrub = s.scrub := rfl
@[simp] theorem modGpub_recs (s : State) (i : Fin 16) (f : GPub → GPub) : (modGpub i f s).recs = s.recs := rfl
@[simp] theorem modGpub_soe (s : State) (i : Fin 16) (f : GPub → GPub) : (modGpub i f s).soe = s.soe := rfl
@[simp] theorem modGpub_life (s : State) (i : Fin 16) (f : GPub → GPub) : (modGpub i f s).life = s.life := rfl
@[simp] theorem modGpub_fw (s : State) (i : Fin 16) (f : GPub → GPub) : (modGpub i f s).fw = s.fw := rfl
@[simp] theorem modGpub_cfgOk (s : State) (i : Fin 16) (f : GPub → GPub) : (modGpub i f s).cfgOk = s.cfgOk := rfl
@[simp] theorem modGpub_free (s : State) (i : Fin 16) (f : GPub → GPub) : (modGpub i f s).free = s.free := rfl

/-! modSv -/

@[simp] theorem modSv_pending (s : State) (i : Fin 4) (f : GPub → GPub) : (modSv i f s).pending = s.pending := rfl
@[simp] theorem modSv_clk (s : State) (i : Fin 4) (f : GPub → GPub) : (modSv i f s).clk = s.clk := rfl
@[simp] theorem modSv_pwr (s : State) (i : Fin 4) (f : GPub → GPub) : (modSv i f s).pwr = s.pwr := rfl
@[simp] theorem modSv_md (s : State) (i : Fin 4) (f : GPub → GPub) : (modSv i f s).md = s.md := rfl
@[simp] theorem modSv_sys (s : State) (i : Fin 4) (f : GPub → GPub) : (modSv i f s).sys = s.sys := rfl
@[simp] theorem modSv_spring (s : State) (i : Fin 4) (f : GPub → GPub) : (modSv i f s).spring = s.spring := rfl
@[simp] theorem modSv_cells (s : State) (i : Fin 4) (f : GPub → GPub) : (modSv i f s).cells = s.cells := rfl
@[simp] theorem modSv_eng (s : State) (i : Fin 4) (f : GPub → GPub) : (modSv i f s).eng = s.eng := rfl
@[simp] theorem modSv_ti (s : State) (i : Fin 4) (f : GPub → GPub) : (modSv i f s).ti = s.ti := rfl
@[simp] theorem modSv_cas (s : State) (i : Fin 4) (f : GPub → GPub) : (modSv i f s).cas = s.cas := rfl
@[simp] theorem modSv_grp (s : State) (i : Fin 4) (f : GPub → GPub) : (modSv i f s).grp = s.grp := rfl
@[simp] theorem modSv_hp (s : State) (i : Fin 4) (f : GPub → GPub) : (modSv i f s).hp = s.hp := rfl
@[simp] theorem modSv_alives (s : State) (i : Fin 4) (f : GPub → GPub) : (modSv i f s).alives = s.alives := rfl
@[simp] theorem modSv_ops (s : State) (i : Fin 4) (f : GPub → GPub) : (modSv i f s).ops = s.ops := rfl
@[simp] theorem modSv_done (s : State) (i : Fin 4) (f : GPub → GPub) : (modSv i f s).done = s.done := rfl
@[simp] theorem modSv_parts (s : State) (i : Fin 4) (f : GPub → GPub) : (modSv i f s).parts = s.parts := rfl
@[simp] theorem modSv_evt (s : State) (i : Fin 4) (f : GPub → GPub) : (modSv i f s).evt = s.evt := rfl
@[simp] theorem modSv_cu (s : State) (i : Fin 4) (f : GPub → GPub) : (modSv i f s).cu = s.cu := rfl
@[simp] theorem modSv_flt (s : State) (i : Fin 4) (f : GPub → GPub) : (modSv i f s).flt = s.flt := rfl
@[simp] theorem modSv_srcs (s : State) (i : Fin 4) (f : GPub → GPub) : (modSv i f s).srcs = s.srcs := rfl
@[simp] theorem modSv_xing (s : State) (i : Fin 4) (f : GPub → GPub) : (modSv i f s).xing = s.xing := rfl
@[simp] theorem modSv_scrub (s : State) (i : Fin 4) (f : GPub → GPub) : (modSv i f s).scrub = s.scrub := rfl
@[simp] theorem modSv_recs (s : State) (i : Fin 4) (f : GPub → GPub) : (modSv i f s).recs = s.recs := rfl
@[simp] theorem modSv_soe (s : State) (i : Fin 4) (f : GPub → GPub) : (modSv i f s).soe = s.soe := rfl
@[simp] theorem modSv_life (s : State) (i : Fin 4) (f : GPub → GPub) : (modSv i f s).life = s.life := rfl
@[simp] theorem modSv_fw (s : State) (i : Fin 4) (f : GPub → GPub) : (modSv i f s).fw = s.fw := rfl
@[simp] theorem modSv_cfgOk (s : State) (i : Fin 4) (f : GPub → GPub) : (modSv i f s).cfgOk = s.cfgOk := rfl
@[simp] theorem modSv_free (s : State) (i : Fin 4) (f : GPub → GPub) : (modSv i f s).free = s.free := rfl

/-! modMpub -/

@[simp] theorem modMpub_pending (s : State) (i : Fin 8) (f : GPub → GPub) : (modMpub i f s).pending = s.pending := rfl
@[simp] theorem modMpub_clk (s : State) (i : Fin 8) (f : GPub → GPub) : (modMpub i f s).clk = s.clk := rfl
@[simp] theorem modMpub_pwr (s : State) (i : Fin 8) (f : GPub → GPub) : (modMpub i f s).pwr = s.pwr := rfl
@[simp] theorem modMpub_md (s : State) (i : Fin 8) (f : GPub → GPub) : (modMpub i f s).md = s.md := rfl
@[simp] theorem modMpub_sys (s : State) (i : Fin 8) (f : GPub → GPub) : (modMpub i f s).sys = s.sys := rfl
@[simp] theorem modMpub_spring (s : State) (i : Fin 8) (f : GPub → GPub) : (modMpub i f s).spring = s.spring := rfl
@[simp] theorem modMpub_cells (s : State) (i : Fin 8) (f : GPub → GPub) : (modMpub i f s).cells = s.cells := rfl
@[simp] theorem modMpub_eng (s : State) (i : Fin 8) (f : GPub → GPub) : (modMpub i f s).eng = s.eng := rfl
@[simp] theorem modMpub_ti (s : State) (i : Fin 8) (f : GPub → GPub) : (modMpub i f s).ti = s.ti := rfl
@[simp] theorem modMpub_cas (s : State) (i : Fin 8) (f : GPub → GPub) : (modMpub i f s).cas = s.cas := rfl
@[simp] theorem modMpub_grp (s : State) (i : Fin 8) (f : GPub → GPub) : (modMpub i f s).grp = s.grp := rfl
@[simp] theorem modMpub_hp (s : State) (i : Fin 8) (f : GPub → GPub) : (modMpub i f s).hp = s.hp := rfl
@[simp] theorem modMpub_alives (s : State) (i : Fin 8) (f : GPub → GPub) : (modMpub i f s).alives = s.alives := rfl
@[simp] theorem modMpub_ops (s : State) (i : Fin 8) (f : GPub → GPub) : (modMpub i f s).ops = s.ops := rfl
@[simp] theorem modMpub_done (s : State) (i : Fin 8) (f : GPub → GPub) : (modMpub i f s).done = s.done := rfl
@[simp] theorem modMpub_parts (s : State) (i : Fin 8) (f : GPub → GPub) : (modMpub i f s).parts = s.parts := rfl
@[simp] theorem modMpub_evt (s : State) (i : Fin 8) (f : GPub → GPub) : (modMpub i f s).evt = s.evt := rfl
@[simp] theorem modMpub_cu (s : State) (i : Fin 8) (f : GPub → GPub) : (modMpub i f s).cu = s.cu := rfl
@[simp] theorem modMpub_flt (s : State) (i : Fin 8) (f : GPub → GPub) : (modMpub i f s).flt = s.flt := rfl
@[simp] theorem modMpub_srcs (s : State) (i : Fin 8) (f : GPub → GPub) : (modMpub i f s).srcs = s.srcs := rfl
@[simp] theorem modMpub_xing (s : State) (i : Fin 8) (f : GPub → GPub) : (modMpub i f s).xing = s.xing := rfl
@[simp] theorem modMpub_scrub (s : State) (i : Fin 8) (f : GPub → GPub) : (modMpub i f s).scrub = s.scrub := rfl
@[simp] theorem modMpub_recs (s : State) (i : Fin 8) (f : GPub → GPub) : (modMpub i f s).recs = s.recs := rfl
@[simp] theorem modMpub_soe (s : State) (i : Fin 8) (f : GPub → GPub) : (modMpub i f s).soe = s.soe := rfl
@[simp] theorem modMpub_life (s : State) (i : Fin 8) (f : GPub → GPub) : (modMpub i f s).life = s.life := rfl
@[simp] theorem modMpub_fw (s : State) (i : Fin 8) (f : GPub → GPub) : (modMpub i f s).fw = s.fw := rfl
@[simp] theorem modMpub_cfgOk (s : State) (i : Fin 8) (f : GPub → GPub) : (modMpub i f s).cfgOk = s.cfgOk := rfl
@[simp] theorem modMpub_free (s : State) (i : Fin 8) (f : GPub → GPub) : (modMpub i f s).free = s.free := rfl

/-! modDup -/

@[simp] theorem modDup_pending (s : State) (key : BitVec 64) (f : DupEntry → DupEntry) : (modDup key f s).pending = s.pending := rfl
@[simp] theorem modDup_clk (s : State) (key : BitVec 64) (f : DupEntry → DupEntry) : (modDup key f s).clk = s.clk := rfl
@[simp] theorem modDup_pwr (s : State) (key : BitVec 64) (f : DupEntry → DupEntry) : (modDup key f s).pwr = s.pwr := rfl
@[simp] theorem modDup_md (s : State) (key : BitVec 64) (f : DupEntry → DupEntry) : (modDup key f s).md = s.md := rfl
@[simp] theorem modDup_sys (s : State) (key : BitVec 64) (f : DupEntry → DupEntry) : (modDup key f s).sys = s.sys := rfl
@[simp] theorem modDup_spring (s : State) (key : BitVec 64) (f : DupEntry → DupEntry) : (modDup key f s).spring = s.spring := rfl
@[simp] theorem modDup_cells (s : State) (key : BitVec 64) (f : DupEntry → DupEntry) : (modDup key f s).cells = s.cells := rfl
@[simp] theorem modDup_eng (s : State) (key : BitVec 64) (f : DupEntry → DupEntry) : (modDup key f s).eng = s.eng := rfl
@[simp] theorem modDup_ti (s : State) (key : BitVec 64) (f : DupEntry → DupEntry) : (modDup key f s).ti = s.ti := rfl
@[simp] theorem modDup_cas (s : State) (key : BitVec 64) (f : DupEntry → DupEntry) : (modDup key f s).cas = s.cas := rfl
@[simp] theorem modDup_grp (s : State) (key : BitVec 64) (f : DupEntry → DupEntry) : (modDup key f s).grp = s.grp := rfl
@[simp] theorem modDup_hp (s : State) (key : BitVec 64) (f : DupEntry → DupEntry) : (modDup key f s).hp = s.hp := rfl
@[simp] theorem modDup_alives (s : State) (key : BitVec 64) (f : DupEntry → DupEntry) : (modDup key f s).alives = s.alives := rfl
@[simp] theorem modDup_ops (s : State) (key : BitVec 64) (f : DupEntry → DupEntry) : (modDup key f s).ops = s.ops := rfl
@[simp] theorem modDup_done (s : State) (key : BitVec 64) (f : DupEntry → DupEntry) : (modDup key f s).done = s.done := rfl
@[simp] theorem modDup_parts (s : State) (key : BitVec 64) (f : DupEntry → DupEntry) : (modDup key f s).parts = s.parts := rfl
@[simp] theorem modDup_evt (s : State) (key : BitVec 64) (f : DupEntry → DupEntry) : (modDup key f s).evt = s.evt := rfl
@[simp] theorem modDup_cu (s : State) (key : BitVec 64) (f : DupEntry → DupEntry) : (modDup key f s).cu = s.cu := rfl
@[simp] theorem modDup_flt (s : State) (key : BitVec 64) (f : DupEntry → DupEntry) : (modDup key f s).flt = s.flt := rfl
@[simp] theorem modDup_srcs (s : State) (key : BitVec 64) (f : DupEntry → DupEntry) : (modDup key f s).srcs = s.srcs := rfl
@[simp] theorem modDup_xing (s : State) (key : BitVec 64) (f : DupEntry → DupEntry) : (modDup key f s).xing = s.xing := rfl
@[simp] theorem modDup_scrub (s : State) (key : BitVec 64) (f : DupEntry → DupEntry) : (modDup key f s).scrub = s.scrub := rfl
@[simp] theorem modDup_recs (s : State) (key : BitVec 64) (f : DupEntry → DupEntry) : (modDup key f s).recs = s.recs := rfl
@[simp] theorem modDup_soe (s : State) (key : BitVec 64) (f : DupEntry → DupEntry) : (modDup key f s).soe = s.soe := rfl
@[simp] theorem modDup_life (s : State) (key : BitVec 64) (f : DupEntry → DupEntry) : (modDup key f s).life = s.life := rfl
@[simp] theorem modDup_fw (s : State) (key : BitVec 64) (f : DupEntry → DupEntry) : (modDup key f s).fw = s.fw := rfl
@[simp] theorem modDup_cfgOk (s : State) (key : BitVec 64) (f : DupEntry → DupEntry) : (modDup key f s).cfgOk = s.cfgOk := rfl
@[simp] theorem modDup_free (s : State) (key : BitVec 64) (f : DupEntry → DupEntry) : (modDup key f s).free = s.free := rfl

/-! modPort -/

@[simp] theorem modPort_pending (s : State) (p : NetPort) (f : Port → Port) : (modPort p f s).pending = s.pending := by cases p <;> rfl
@[simp] theorem modPort_clk (s : State) (p : NetPort) (f : Port → Port) : (modPort p f s).clk = s.clk := by cases p <;> rfl
@[simp] theorem modPort_pwr (s : State) (p : NetPort) (f : Port → Port) : (modPort p f s).pwr = s.pwr := by cases p <;> rfl
@[simp] theorem modPort_md (s : State) (p : NetPort) (f : Port → Port) : (modPort p f s).md = s.md := by cases p <;> rfl
@[simp] theorem modPort_sys (s : State) (p : NetPort) (f : Port → Port) : (modPort p f s).sys = s.sys := by cases p <;> rfl
@[simp] theorem modPort_spring (s : State) (p : NetPort) (f : Port → Port) : (modPort p f s).spring = s.spring := by cases p <;> rfl
@[simp] theorem modPort_cells (s : State) (p : NetPort) (f : Port → Port) : (modPort p f s).cells = s.cells := by cases p <;> rfl
@[simp] theorem modPort_eng (s : State) (p : NetPort) (f : Port → Port) : (modPort p f s).eng = s.eng := by cases p <;> rfl
@[simp] theorem modPort_ti (s : State) (p : NetPort) (f : Port → Port) : (modPort p f s).ti = s.ti := by cases p <;> rfl
@[simp] theorem modPort_cas (s : State) (p : NetPort) (f : Port → Port) : (modPort p f s).cas = s.cas := by cases p <;> rfl
@[simp] theorem modPort_grp (s : State) (p : NetPort) (f : Port → Port) : (modPort p f s).grp = s.grp := by cases p <;> rfl
@[simp] theorem modPort_hp (s : State) (p : NetPort) (f : Port → Port) : (modPort p f s).hp = s.hp := by cases p <;> rfl
@[simp] theorem modPort_alives (s : State) (p : NetPort) (f : Port → Port) : (modPort p f s).alives = s.alives := by cases p <;> rfl
@[simp] theorem modPort_ops (s : State) (p : NetPort) (f : Port → Port) : (modPort p f s).ops = s.ops := by cases p <;> rfl
@[simp] theorem modPort_done (s : State) (p : NetPort) (f : Port → Port) : (modPort p f s).done = s.done := by cases p <;> rfl
@[simp] theorem modPort_parts (s : State) (p : NetPort) (f : Port → Port) : (modPort p f s).parts = s.parts := by cases p <;> rfl
@[simp] theorem modPort_evt (s : State) (p : NetPort) (f : Port → Port) : (modPort p f s).evt = s.evt := by cases p <;> rfl
@[simp] theorem modPort_cu (s : State) (p : NetPort) (f : Port → Port) : (modPort p f s).cu = s.cu := by cases p <;> rfl
@[simp] theorem modPort_flt (s : State) (p : NetPort) (f : Port → Port) : (modPort p f s).flt = s.flt := by cases p <;> rfl
@[simp] theorem modPort_srcs (s : State) (p : NetPort) (f : Port → Port) : (modPort p f s).srcs = s.srcs := by cases p <;> rfl
@[simp] theorem modPort_xing (s : State) (p : NetPort) (f : Port → Port) : (modPort p f s).xing = s.xing := by cases p <;> rfl
@[simp] theorem modPort_scrub (s : State) (p : NetPort) (f : Port → Port) : (modPort p f s).scrub = s.scrub := by cases p <;> rfl
@[simp] theorem modPort_recs (s : State) (p : NetPort) (f : Port → Port) : (modPort p f s).recs = s.recs := by cases p <;> rfl
@[simp] theorem modPort_soe (s : State) (p : NetPort) (f : Port → Port) : (modPort p f s).soe = s.soe := by cases p <;> rfl
@[simp] theorem modPort_life (s : State) (p : NetPort) (f : Port → Port) : (modPort p f s).life = s.life := by cases p <;> rfl
@[simp] theorem modPort_fw (s : State) (p : NetPort) (f : Port → Port) : (modPort p f s).fw = s.fw := by cases p <;> rfl
@[simp] theorem modPort_cfgOk (s : State) (p : NetPort) (f : Port → Port) : (modPort p f s).cfgOk = s.cfgOk := by cases p <;> rfl
@[simp] theorem modPort_free (s : State) (p : NetPort) (f : Port → Port) : (modPort p f s).free = s.free := by cases p <;> rfl

/-! modSub -/

@[simp] theorem modSub_pending (s : State) (k : SubRef) (f : GSub → GSub) : (modSub k f s).pending = s.pending := by cases k <;> rfl
@[simp] theorem modSub_clk (s : State) (k : SubRef) (f : GSub → GSub) : (modSub k f s).clk = s.clk := by cases k <;> rfl
@[simp] theorem modSub_pwr (s : State) (k : SubRef) (f : GSub → GSub) : (modSub k f s).pwr = s.pwr := by cases k <;> rfl
@[simp] theorem modSub_md (s : State) (k : SubRef) (f : GSub → GSub) : (modSub k f s).md = s.md := by cases k <;> rfl
@[simp] theorem modSub_sys (s : State) (k : SubRef) (f : GSub → GSub) : (modSub k f s).sys = s.sys := by cases k <;> rfl
@[simp] theorem modSub_spring (s : State) (k : SubRef) (f : GSub → GSub) : (modSub k f s).spring = s.spring := by cases k <;> rfl
@[simp] theorem modSub_cells (s : State) (k : SubRef) (f : GSub → GSub) : (modSub k f s).cells = s.cells := by cases k <;> rfl
@[simp] theorem modSub_eng (s : State) (k : SubRef) (f : GSub → GSub) : (modSub k f s).eng = s.eng := by cases k <;> rfl
@[simp] theorem modSub_ti (s : State) (k : SubRef) (f : GSub → GSub) : (modSub k f s).ti = s.ti := by cases k <;> rfl
@[simp] theorem modSub_cas (s : State) (k : SubRef) (f : GSub → GSub) : (modSub k f s).cas = s.cas := by cases k <;> rfl
@[simp] theorem modSub_grp (s : State) (k : SubRef) (f : GSub → GSub) : (modSub k f s).grp = s.grp := by cases k <;> rfl
@[simp] theorem modSub_hp (s : State) (k : SubRef) (f : GSub → GSub) : (modSub k f s).hp = s.hp := by cases k <;> rfl
@[simp] theorem modSub_alives (s : State) (k : SubRef) (f : GSub → GSub) : (modSub k f s).alives = s.alives := by cases k <;> rfl
@[simp] theorem modSub_ops (s : State) (k : SubRef) (f : GSub → GSub) : (modSub k f s).ops = s.ops := by cases k <;> rfl
@[simp] theorem modSub_done (s : State) (k : SubRef) (f : GSub → GSub) : (modSub k f s).done = s.done := by cases k <;> rfl
@[simp] theorem modSub_parts (s : State) (k : SubRef) (f : GSub → GSub) : (modSub k f s).parts = s.parts := by cases k <;> rfl
@[simp] theorem modSub_evt (s : State) (k : SubRef) (f : GSub → GSub) : (modSub k f s).evt = s.evt := by cases k <;> rfl
@[simp] theorem modSub_cu (s : State) (k : SubRef) (f : GSub → GSub) : (modSub k f s).cu = s.cu := by cases k <;> rfl
@[simp] theorem modSub_flt (s : State) (k : SubRef) (f : GSub → GSub) : (modSub k f s).flt = s.flt := by cases k <;> rfl
@[simp] theorem modSub_srcs (s : State) (k : SubRef) (f : GSub → GSub) : (modSub k f s).srcs = s.srcs := by cases k <;> rfl
@[simp] theorem modSub_xing (s : State) (k : SubRef) (f : GSub → GSub) : (modSub k f s).xing = s.xing := by cases k <;> rfl
@[simp] theorem modSub_scrub (s : State) (k : SubRef) (f : GSub → GSub) : (modSub k f s).scrub = s.scrub := by cases k <;> rfl
@[simp] theorem modSub_recs (s : State) (k : SubRef) (f : GSub → GSub) : (modSub k f s).recs = s.recs := by cases k <;> rfl
@[simp] theorem modSub_soe (s : State) (k : SubRef) (f : GSub → GSub) : (modSub k f s).soe = s.soe := by cases k <;> rfl
@[simp] theorem modSub_life (s : State) (k : SubRef) (f : GSub → GSub) : (modSub k f s).life = s.life := by cases k <;> rfl
@[simp] theorem modSub_fw (s : State) (k : SubRef) (f : GSub → GSub) : (modSub k f s).fw = s.fw := by cases k <;> rfl
@[simp] theorem modSub_cfgOk (s : State) (k : SubRef) (f : GSub → GSub) : (modSub k f s).cfgOk = s.cfgOk := by cases k <;> rfl
@[simp] theorem modSub_free (s : State) (k : SubRef) (f : GSub → GSub) : (modSub k f s).free = s.free := by cases k <;> rfl

/-! modSlot -/

@[simp] theorem modSlot_pending (s : State) (i : Nat) (f : Slot → Slot) : (modSlot i f s).pending = s.pending := by unfold modSlot; split <;> rfl
@[simp] theorem modSlot_clk (s : State) (i : Nat) (f : Slot → Slot) : (modSlot i f s).clk = s.clk := by unfold modSlot; split <;> rfl
@[simp] theorem modSlot_pwr (s : State) (i : Nat) (f : Slot → Slot) : (modSlot i f s).pwr = s.pwr := by unfold modSlot; split <;> rfl
@[simp] theorem modSlot_md (s : State) (i : Nat) (f : Slot → Slot) : (modSlot i f s).md = s.md := by unfold modSlot; split <;> rfl
@[simp] theorem modSlot_sys (s : State) (i : Nat) (f : Slot → Slot) : (modSlot i f s).sys = s.sys := by unfold modSlot; split <;> rfl
@[simp] theorem modSlot_spring (s : State) (i : Nat) (f : Slot → Slot) : (modSlot i f s).spring = s.spring := by unfold modSlot; split <;> rfl
@[simp] theorem modSlot_cells (s : State) (i : Nat) (f : Slot → Slot) : (modSlot i f s).cells = s.cells := by unfold modSlot; split <;> rfl
@[simp] theorem modSlot_eng (s : State) (i : Nat) (f : Slot → Slot) : (modSlot i f s).eng = s.eng := by unfold modSlot; split <;> rfl
@[simp] theorem modSlot_ti (s : State) (i : Nat) (f : Slot → Slot) : (modSlot i f s).ti = s.ti := by unfold modSlot; split <;> rfl
@[simp] theorem modSlot_net (s : State) (i : Nat) (f : Slot → Slot) : (modSlot i f s).net = s.net := by unfold modSlot; split <;> rfl
@[simp] theorem modSlot_cas (s : State) (i : Nat) (f : Slot → Slot) : (modSlot i f s).cas = s.cas := by unfold modSlot; split <;> rfl
@[simp] theorem modSlot_grp (s : State) (i : Nat) (f : Slot → Slot) : (modSlot i f s).grp = s.grp := by unfold modSlot; split <;> rfl
@[simp] theorem modSlot_hp (s : State) (i : Nat) (f : Slot → Slot) : (modSlot i f s).hp = s.hp := by unfold modSlot; split <;> rfl
@[simp] theorem modSlot_alives (s : State) (i : Nat) (f : Slot → Slot) : (modSlot i f s).alives = s.alives := by unfold modSlot; split <;> rfl
@[simp] theorem modSlot_ops (s : State) (i : Nat) (f : Slot → Slot) : (modSlot i f s).ops = s.ops := by unfold modSlot; split <;> rfl
@[simp] theorem modSlot_done (s : State) (i : Nat) (f : Slot → Slot) : (modSlot i f s).done = s.done := by unfold modSlot; split <;> rfl
@[simp] theorem modSlot_parts (s : State) (i : Nat) (f : Slot → Slot) : (modSlot i f s).parts = s.parts := by unfold modSlot; split <;> rfl
@[simp] theorem modSlot_evt (s : State) (i : Nat) (f : Slot → Slot) : (modSlot i f s).evt = s.evt := by unfold modSlot; split <;> rfl
@[simp] theorem modSlot_cu (s : State) (i : Nat) (f : Slot → Slot) : (modSlot i f s).cu = s.cu := by unfold modSlot; split <;> rfl
@[simp] theorem modSlot_flt (s : State) (i : Nat) (f : Slot → Slot) : (modSlot i f s).flt = s.flt := by unfold modSlot; split <;> rfl
@[simp] theorem modSlot_srcs (s : State) (i : Nat) (f : Slot → Slot) : (modSlot i f s).srcs = s.srcs := by unfold modSlot; split <;> rfl
@[simp] theorem modSlot_xing (s : State) (i : Nat) (f : Slot → Slot) : (modSlot i f s).xing = s.xing := by unfold modSlot; split <;> rfl
@[simp] theorem modSlot_scrub (s : State) (i : Nat) (f : Slot → Slot) : (modSlot i f s).scrub = s.scrub := by unfold modSlot; split <;> rfl
@[simp] theorem modSlot_recs (s : State) (i : Nat) (f : Slot → Slot) : (modSlot i f s).recs = s.recs := by unfold modSlot; split <;> rfl
@[simp] theorem modSlot_soe (s : State) (i : Nat) (f : Slot → Slot) : (modSlot i f s).soe = s.soe := by unfold modSlot; split <;> rfl
@[simp] theorem modSlot_life (s : State) (i : Nat) (f : Slot → Slot) : (modSlot i f s).life = s.life := by unfold modSlot; split <;> rfl
@[simp] theorem modSlot_cfgOk (s : State) (i : Nat) (f : Slot → Slot) : (modSlot i f s).cfgOk = s.cfgOk := by unfold modSlot; split <;> rfl
@[simp] theorem modSlot_free (s : State) (i : Nat) (f : Slot → Slot) : (modSlot i f s).free = s.free := by unfold modSlot; split <;> rfl

/-! soeWrite -/

@[simp] theorem soeWrite_pending (s : State) (e : SoeEntry) : (soeWrite e s).pending = s.pending := rfl
@[simp] theorem soeWrite_clk (s : State) (e : SoeEntry) : (soeWrite e s).clk = s.clk := rfl
@[simp] theorem soeWrite_pwr (s : State) (e : SoeEntry) : (soeWrite e s).pwr = s.pwr := rfl
@[simp] theorem soeWrite_md (s : State) (e : SoeEntry) : (soeWrite e s).md = s.md := rfl
@[simp] theorem soeWrite_sys (s : State) (e : SoeEntry) : (soeWrite e s).sys = s.sys := rfl
@[simp] theorem soeWrite_spring (s : State) (e : SoeEntry) : (soeWrite e s).spring = s.spring := rfl
@[simp] theorem soeWrite_cells (s : State) (e : SoeEntry) : (soeWrite e s).cells = s.cells := rfl
@[simp] theorem soeWrite_eng (s : State) (e : SoeEntry) : (soeWrite e s).eng = s.eng := rfl
@[simp] theorem soeWrite_ti (s : State) (e : SoeEntry) : (soeWrite e s).ti = s.ti := rfl
@[simp] theorem soeWrite_net (s : State) (e : SoeEntry) : (soeWrite e s).net = s.net := rfl
@[simp] theorem soeWrite_cas (s : State) (e : SoeEntry) : (soeWrite e s).cas = s.cas := rfl
@[simp] theorem soeWrite_grp (s : State) (e : SoeEntry) : (soeWrite e s).grp = s.grp := rfl
@[simp] theorem soeWrite_hp (s : State) (e : SoeEntry) : (soeWrite e s).hp = s.hp := rfl
@[simp] theorem soeWrite_alives (s : State) (e : SoeEntry) : (soeWrite e s).alives = s.alives := rfl
@[simp] theorem soeWrite_ops (s : State) (e : SoeEntry) : (soeWrite e s).ops = s.ops := rfl
@[simp] theorem soeWrite_done (s : State) (e : SoeEntry) : (soeWrite e s).done = s.done := rfl
@[simp] theorem soeWrite_parts (s : State) (e : SoeEntry) : (soeWrite e s).parts = s.parts := rfl
@[simp] theorem soeWrite_evt (s : State) (e : SoeEntry) : (soeWrite e s).evt = s.evt := rfl
@[simp] theorem soeWrite_cu (s : State) (e : SoeEntry) : (soeWrite e s).cu = s.cu := rfl
@[simp] theorem soeWrite_flt (s : State) (e : SoeEntry) : (soeWrite e s).flt = s.flt := rfl
@[simp] theorem soeWrite_srcs (s : State) (e : SoeEntry) : (soeWrite e s).srcs = s.srcs := rfl
@[simp] theorem soeWrite_xing (s : State) (e : SoeEntry) : (soeWrite e s).xing = s.xing := rfl
@[simp] theorem soeWrite_scrub (s : State) (e : SoeEntry) : (soeWrite e s).scrub = s.scrub := rfl
@[simp] theorem soeWrite_recs (s : State) (e : SoeEntry) : (soeWrite e s).recs = s.recs := rfl
@[simp] theorem soeWrite_soe (s : State) (e : SoeEntry) : (soeWrite e s).soe = soePut e s.soe := rfl
@[simp] theorem soeWrite_life (s : State) (e : SoeEntry) : (soeWrite e s).life = s.life := rfl
@[simp] theorem soeWrite_fw (s : State) (e : SoeEntry) : (soeWrite e s).fw = s.fw := rfl
@[simp] theorem soeWrite_cfgOk (s : State) (e : SoeEntry) : (soeWrite e s).cfgOk = s.cfgOk := rfl
@[simp] theorem soeWrite_free (s : State) (e : SoeEntry) : (soeWrite e s).free = s.free := rfl

/-! evtRaise -/

@[simp] theorem evtRaise_pending (s : State) (code : Nat) : (evtRaise code s).pending = s.pending := by unfold evtRaise; (repeat split) <;> rfl
@[simp] theorem evtRaise_clk (s : State) (code : Nat) : (evtRaise code s).clk = s.clk := by unfold evtRaise; (repeat split) <;> rfl
@[simp] theorem evtRaise_pwr (s : State) (code : Nat) : (evtRaise code s).pwr = s.pwr := by unfold evtRaise; (repeat split) <;> rfl
@[simp] theorem evtRaise_md (s : State) (code : Nat) : (evtRaise code s).md = s.md := by unfold evtRaise; (repeat split) <;> rfl
@[simp] theorem evtRaise_sys (s : State) (code : Nat) : (evtRaise code s).sys = s.sys := by unfold evtRaise; (repeat split) <;> rfl
@[simp] theorem evtRaise_spring (s : State) (code : Nat) : (evtRaise code s).spring = s.spring := by unfold evtRaise; (repeat split) <;> rfl
@[simp] theorem evtRaise_cells (s : State) (code : Nat) : (evtRaise code s).cells = s.cells := by unfold evtRaise; (repeat split) <;> rfl
@[simp] theorem evtRaise_eng (s : State) (code : Nat) : (evtRaise code s).eng = s.eng := by unfold evtRaise; (repeat split) <;> rfl
@[simp] theorem evtRaise_ti (s : State) (code : Nat) : (evtRaise code s).ti = s.ti := by unfold evtRaise; (repeat split) <;> rfl
@[simp] theorem evtRaise_net (s : State) (code : Nat) : (evtRaise code s).net = s.net := by unfold evtRaise; (repeat split) <;> rfl
@[simp] theorem evtRaise_cas (s : State) (code : Nat) : (evtRaise code s).cas = s.cas := by unfold evtRaise; (repeat split) <;> rfl
@[simp] theorem evtRaise_grp (s : State) (code : Nat) : (evtRaise code s).grp = s.grp := by unfold evtRaise; (repeat split) <;> rfl
@[simp] theorem evtRaise_hp (s : State) (code : Nat) : (evtRaise code s).hp = s.hp := by unfold evtRaise; (repeat split) <;> rfl
@[simp] theorem evtRaise_alives (s : State) (code : Nat) : (evtRaise code s).alives = s.alives := by unfold evtRaise; (repeat split) <;> rfl
@[simp] theorem evtRaise_ops (s : State) (code : Nat) : (evtRaise code s).ops = s.ops := by unfold evtRaise; (repeat split) <;> rfl
@[simp] theorem evtRaise_done (s : State) (code : Nat) : (evtRaise code s).done = s.done := by unfold evtRaise; (repeat split) <;> rfl
@[simp] theorem evtRaise_parts (s : State) (code : Nat) : (evtRaise code s).parts = s.parts := by unfold evtRaise; (repeat split) <;> rfl
@[simp] theorem evtRaise_cu (s : State) (code : Nat) : (evtRaise code s).cu = s.cu := by unfold evtRaise; (repeat split) <;> rfl
@[simp] theorem evtRaise_flt (s : State) (code : Nat) : (evtRaise code s).flt = s.flt := by unfold evtRaise; (repeat split) <;> rfl
@[simp] theorem evtRaise_srcs (s : State) (code : Nat) : (evtRaise code s).srcs = s.srcs := by unfold evtRaise; (repeat split) <;> rfl
@[simp] theorem evtRaise_xing (s : State) (code : Nat) : (evtRaise code s).xing = s.xing := by unfold evtRaise; (repeat split) <;> rfl
@[simp] theorem evtRaise_scrub (s : State) (code : Nat) : (evtRaise code s).scrub = s.scrub := by unfold evtRaise; (repeat split) <;> rfl
@[simp] theorem evtRaise_recs (s : State) (code : Nat) : (evtRaise code s).recs = s.recs := by unfold evtRaise; (repeat split) <;> rfl
@[simp] theorem evtRaise_soe (s : State) (code : Nat) : (evtRaise code s).soe = s.soe := by unfold evtRaise; (repeat split) <;> rfl
@[simp] theorem evtRaise_life (s : State) (code : Nat) : (evtRaise code s).life = s.life := by unfold evtRaise; (repeat split) <;> rfl
@[simp] theorem evtRaise_fw (s : State) (code : Nat) : (evtRaise code s).fw = s.fw := by unfold evtRaise; (repeat split) <;> rfl
@[simp] theorem evtRaise_cfgOk (s : State) (code : Nat) : (evtRaise code s).cfgOk = s.cfgOk := by unfold evtRaise; (repeat split) <;> rfl
@[simp] theorem evtRaise_free (s : State) (code : Nat) : (evtRaise code s).free = s.free := by unfold evtRaise; (repeat split) <;> rfl

/-! decideMode -/

@[simp] theorem decideMode_pending (s : State) (p : PendMode) : (decideMode p s).pending = s.pending := by unfold decideMode; split <;> rfl
@[simp] theorem decideMode_clk (s : State) (p : PendMode) : (decideMode p s).clk = s.clk := by unfold decideMode; split <;> rfl
@[simp] theorem decideMode_pwr (s : State) (p : PendMode) : (decideMode p s).pwr = s.pwr := by unfold decideMode; split <;> rfl
@[simp] theorem decideMode_sys (s : State) (p : PendMode) : (decideMode p s).sys = s.sys := by unfold decideMode; split <;> rfl
@[simp] theorem decideMode_spring (s : State) (p : PendMode) : (decideMode p s).spring = s.spring := by unfold decideMode; split <;> rfl
@[simp] theorem decideMode_cells (s : State) (p : PendMode) : (decideMode p s).cells = s.cells := by unfold decideMode; split <;> rfl
@[simp] theorem decideMode_eng (s : State) (p : PendMode) : (decideMode p s).eng = s.eng := by unfold decideMode; split <;> rfl
@[simp] theorem decideMode_ti (s : State) (p : PendMode) : (decideMode p s).ti = s.ti := by unfold decideMode; split <;> rfl
@[simp] theorem decideMode_net (s : State) (p : PendMode) : (decideMode p s).net = s.net := by unfold decideMode; split <;> rfl
@[simp] theorem decideMode_cas (s : State) (p : PendMode) : (decideMode p s).cas = s.cas := by unfold decideMode; split <;> rfl
@[simp] theorem decideMode_grp (s : State) (p : PendMode) : (decideMode p s).grp = s.grp := by unfold decideMode; split <;> rfl
@[simp] theorem decideMode_hp (s : State) (p : PendMode) : (decideMode p s).hp = s.hp := by unfold decideMode; split <;> rfl
@[simp] theorem decideMode_alives (s : State) (p : PendMode) : (decideMode p s).alives = s.alives := by unfold decideMode; split <;> rfl
@[simp] theorem decideMode_ops (s : State) (p : PendMode) : (decideMode p s).ops = s.ops := by unfold decideMode; split <;> rfl
@[simp] theorem decideMode_done (s : State) (p : PendMode) : (decideMode p s).done = s.done := by unfold decideMode; split <;> rfl
@[simp] theorem decideMode_parts (s : State) (p : PendMode) : (decideMode p s).parts = s.parts := by unfold decideMode; split <;> rfl
@[simp] theorem decideMode_evt (s : State) (p : PendMode) : (decideMode p s).evt = s.evt := by unfold decideMode; split <;> rfl
@[simp] theorem decideMode_cu (s : State) (p : PendMode) : (decideMode p s).cu = s.cu := by unfold decideMode; split <;> rfl
@[simp] theorem decideMode_flt (s : State) (p : PendMode) : (decideMode p s).flt = s.flt := by unfold decideMode; split <;> rfl
@[simp] theorem decideMode_srcs (s : State) (p : PendMode) : (decideMode p s).srcs = s.srcs := by unfold decideMode; split <;> rfl
@[simp] theorem decideMode_xing (s : State) (p : PendMode) : (decideMode p s).xing = s.xing := by unfold decideMode; split <;> rfl
@[simp] theorem decideMode_scrub (s : State) (p : PendMode) : (decideMode p s).scrub = s.scrub := by unfold decideMode; split <;> rfl
@[simp] theorem decideMode_recs (s : State) (p : PendMode) : (decideMode p s).recs = s.recs := by unfold decideMode; split <;> rfl
@[simp] theorem decideMode_soe (s : State) (p : PendMode) : (decideMode p s).soe = s.soe := by unfold decideMode; split <;> rfl
@[simp] theorem decideMode_life (s : State) (p : PendMode) : (decideMode p s).life = s.life := by unfold decideMode; split <;> rfl
@[simp] theorem decideMode_fw (s : State) (p : PendMode) : (decideMode p s).fw = s.fw := by unfold decideMode; split <;> rfl
@[simp] theorem decideMode_cfgOk (s : State) (p : PendMode) : (decideMode p s).cfgOk = s.cfgOk := by unfold decideMode; split <;> rfl
@[simp] theorem decideMode_free (s : State) (p : PendMode) : (decideMode p s).free = s.free := by unfold decideMode; split <;> rfl

/-! ### One element of a vector -/

@[simp] theorem cell_modCell_same (s : State) (ch : Ch) (f : Cell → Cell) : (s.modCell ch f).cell ch = f (s.cell ch) := by
  simp [State.cell]

theorem cell_modCell_ne (s : State) (ch k : Ch) (f : Cell → Cell) (h : k ≠ ch) : (s.modCell ch f).cell k = s.cell k := by
  have : ch.val ≠ k.val := fun e => h (Fin.ext e.symm)
  simp [State.cell, this]

@[simp] theorem cell_mapCells (s : State) (f : Ch → Cell → Cell) (k : Ch) : (s.mapCells f).cell k = f k (s.cell k) := by
  simp [State.cell]

@[simp] theorem fsrc_modSrc_same (s : State) (n : Fin 96) (f : FltSrc → FltSrc) : (s.modSrc n f).fsrc n = f (s.fsrc n) := by
  simp [State.fsrc]

theorem fsrc_modSrc_ne (s : State) (n k : Fin 96) (f : FltSrc → FltSrc) (h : k ≠ n) : (s.modSrc n f).fsrc k = s.fsrc k := by
  have : n.val ≠ k.val := fun e => h (Fin.ext e.symm)
  simp [State.fsrc, this]

theorem fsrc_modSrc (s : State) (n k : Fin 96) (f : FltSrc → FltSrc) :
    (s.modSrc n f).fsrc k = if k = n then f (s.fsrc n) else s.fsrc k := by
  by_cases h : k = n
  · subst h; simp
  · simp [h, fsrc_modSrc_ne s n k f h]

/-- Reads of the cells and of the sources depend on their vectors alone. -/
theorem cell_congr {s t : State} (h : t.cells = s.cells) (k : Ch) : t.cell k = s.cell k := by simp [State.cell, h]
theorem fsrc_congr {s t : State} (h : t.srcs = s.srcs) (k : Fin 96) : t.fsrc k = s.fsrc k := by simp [State.fsrc, h]

@[simp] theorem fsrc_modCell (s : State) (ch : Ch) (f : Cell → Cell) (k : Fin 96) : (s.modCell ch f).fsrc k = s.fsrc k := rfl
@[simp] theorem cell_modSrc (s : State) (n : Fin 96) (f : FltSrc → FltSrc) (k : Ch) : (s.modSrc n f).cell k = s.cell k := rfl

theorem cu_modCu_same (s : State) (u : Fin 4) (f : Cu → Cu) : (s.modCu u f).cu[u] = f s.cu[u] := by simp

theorem cu_modCu_ne (s : State) (u v : Fin 4) (f : Cu → Cu) (h : v ≠ u) : (s.modCu u f).cu[v] = s.cu[v] := by
  have : u.val ≠ v.val := fun e => h (Fin.ext e.symm)
  simp [this]

/-! ### The step -/

/-- A step with a command in front is its meaning on the queue's rest. -/
theorem step_cons (s : State) (c : Instr) (r : List Instr) : step { s with pending := c :: r } = exec c { s with pending := r } := rfl

/-- A step on an empty queue is one CLK_TB cycle. -/
theorem step_nil (s : State) (h : s.pending = []) : step s = .next (idleCycle s) := by simp [step, h]

end Sys2Proof.Machine
end

