-- ==== Sys2Proof/Laws/Shared.lean ====
section
/-! SUPPORT. The shared operations of the packets and of the fault collector: the fields each of them leaves, and what the
reply and the completion of a command do. -/

namespace Sys2Proof.Machine

open Sys2Proof

/-! deliver -/

@[simp] theorem deliver_pending (s : State) (src : Src) (event : Bool) (ws : List Word) : (deliver src event ws s).pending = s.pending := by cases src <;> rfl
@[simp] theorem deliver_clk (s : State) (src : Src) (event : Bool) (ws : List Word) : (deliver src event ws s).clk = s.clk := by cases src <;> rfl
@[simp] theorem deliver_pwr (s : State) (src : Src) (event : Bool) (ws : List Word) : (deliver src event ws s).pwr = s.pwr := by cases src <;> rfl
@[simp] theorem deliver_md (s : State) (src : Src) (event : Bool) (ws : List Word) : (deliver src event ws s).md = s.md := by cases src <;> rfl
@[simp] theorem deliver_sys (s : State) (src : Src) (event : Bool) (ws : List Word) : (deliver src event ws s).sys = s.sys := by cases src <;> rfl
@[simp] theorem deliver_spring (s : State) (src : Src) (event : Bool) (ws : List Word) : (deliver src event ws s).spring = s.spring := by cases src <;> rfl
@[simp] theorem deliver_cells (s : State) (src : Src) (event : Bool) (ws : List Word) : (deliver src event ws s).cells = s.cells := by cases src <;> rfl
@[simp] theorem deliver_eng (s : State) (src : Src) (event : Bool) (ws : List Word) : (deliver src event ws s).eng = s.eng := by cases src <;> rfl
@[simp] theorem deliver_ti (s : State) (src : Src) (event : Bool) (ws : List Word) : (deliver src event ws s).ti = s.ti := by cases src <;> rfl
@[simp] theorem deliver_net (s : State) (src : Src) (event : Bool) (ws : List Word) : (deliver src event ws s).net = s.net := by cases src <;> rfl
@[simp] theorem deliver_cas (s : State) (src : Src) (event : Bool) (ws : List Word) : (deliver src event ws s).cas = s.cas := by cases src <;> rfl
@[simp] theorem deliver_alives (s : State) (src : Src) (event : Bool) (ws : List Word) : (deliver src event ws s).alives = s.alives := by cases src <;> rfl
@[simp] theorem deliver_ops (s : State) (src : Src) (event : Bool) (ws : List Word) : (deliver src event ws s).ops = s.ops := by cases src <;> rfl
@[simp] theorem deliver_done (s : State) (src : Src) (event : Bool) (ws : List Word) : (deliver src event ws s).done = s.done := by cases src <;> rfl
@[simp] theorem deliver_parts (s : State) (src : Src) (event : Bool) (ws : List Word) : (deliver src event ws s).parts = s.parts := by cases src <;> rfl
@[simp] theorem deliver_evt (s : State) (src : Src) (event : Bool) (ws : List Word) : (deliver src event ws s).evt = s.evt := by cases src <;> rfl
@[simp] theorem deliver_cu (s : State) (src : Src) (event : Bool) (ws : List Word) : (deliver src event ws s).cu = s.cu := by cases src <;> rfl
@[simp] theorem deliver_flt (s : State) (src : Src) (event : Bool) (ws : List Word) : (deliver src event ws s).flt = s.flt := by cases src <;> rfl
@[simp] theorem deliver_srcs (s : State) (src : Src) (event : Bool) (ws : List Word) : (deliver src event ws s).srcs = s.srcs := by cases src <;> rfl
@[simp] theorem deliver_xing (s : State) (src : Src) (event : Bool) (ws : List Word) : (deliver src event ws s).xing = s.xing := by cases src <;> rfl
@[simp] theorem deliver_scrub (s : State) (src : Src) (event : Bool) (ws : List Word) : (deliver src event ws s).scrub = s.scrub := by cases src <;> rfl
@[simp] theorem deliver_recs (s : State) (src : Src) (event : Bool) (ws : List Word) : (deliver src event ws s).recs = s.recs := by cases src <;> rfl
@[simp] theorem deliver_soe (s : State) (src : Src) (event : Bool) (ws : List Word) : (deliver src event ws s).soe = s.soe := by cases src <;> rfl
@[simp] theorem deliver_life (s : State) (src : Src) (event : Bool) (ws : List Word) : (deliver src event ws s).life = s.life := by cases src <;> rfl
@[simp] theorem deliver_cfgOk (s : State) (src : Src) (event : Bool) (ws : List Word) : (deliver src event ws s).cfgOk = s.cfgOk := by cases src <;> rfl
@[simp] theorem deliver_free (s : State) (src : Src) (event : Bool) (ws : List Word) : (deliver src event ws s).free = s.free := by cases src <;> rfl

/-! acceptPacket -/

@[simp] theorem acceptPacket_pending (s : State) (c : Ctx) : (acceptPacket c s).pending = s.pending := rfl
@[simp] theorem acceptPacket_clk (s : State) (c : Ctx) : (acceptPacket c s).clk = s.clk := rfl
@[simp] theorem acceptPacket_pwr (s : State) (c : Ctx) : (acceptPacket c s).pwr = s.pwr := rfl
@[simp] theorem acceptPacket_md (s : State) (c : Ctx) : (acceptPacket c s).md = s.md := rfl
@[simp] theorem acceptPacket_sys (s : State) (c : Ctx) : (acceptPacket c s).sys = s.sys := rfl
@[simp] theorem acceptPacket_spring (s : State) (c : Ctx) : (acceptPacket c s).spring = s.spring := rfl
@[simp] theorem acceptPacket_cells (s : State) (c : Ctx) : (acceptPacket c s).cells = s.cells := rfl
@[simp] theorem acceptPacket_eng (s : State) (c : Ctx) : (acceptPacket c s).eng = s.eng := rfl
@[simp] theorem acceptPacket_ti (s : State) (c : Ctx) : (acceptPacket c s).ti = s.ti := rfl
@[simp] theorem acceptPacket_net (s : State) (c : Ctx) : (acceptPacket c s).net = s.net := rfl
@[simp] theorem acceptPacket_cas (s : State) (c : Ctx) : (acceptPacket c s).cas = s.cas := rfl
@[simp] theorem acceptPacket_grp (s : State) (c : Ctx) : (acceptPacket c s).grp = s.grp := rfl
@[simp] theorem acceptPacket_hp (s : State) (c : Ctx) : (acceptPacket c s).hp = s.hp := rfl
@[simp] theorem acceptPacket_ops (s : State) (c : Ctx) : (acceptPacket c s).ops = s.ops := rfl
@[simp] theorem acceptPacket_done (s : State) (c : Ctx) : (acceptPacket c s).done = s.done := rfl
@[simp] theorem acceptPacket_parts (s : State) (c : Ctx) : (acceptPacket c s).parts = s.parts := rfl
@[simp] theorem acceptPacket_evt (s : State) (c : Ctx) : (acceptPacket c s).evt = s.evt := rfl
@[simp] theorem acceptPacket_cu (s : State) (c : Ctx) : (acceptPacket c s).cu = s.cu := rfl
@[simp] theorem acceptPacket_flt (s : State) (c : Ctx) : (acceptPacket c s).flt = s.flt := rfl
@[simp] theorem acceptPacket_srcs (s : State) (c : Ctx) : (acceptPacket c s).srcs = s.srcs := rfl
@[simp] theorem acceptPacket_xing (s : State) (c : Ctx) : (acceptPacket c s).xing = s.xing := rfl
@[simp] theorem acceptPacket_scrub (s : State) (c : Ctx) : (acceptPacket c s).scrub = s.scrub := rfl
@[simp] theorem acceptPacket_recs (s : State) (c : Ctx) : (acceptPacket c s).recs = s.recs := rfl
@[simp] theorem acceptPacket_soe (s : State) (c : Ctx) : (acceptPacket c s).soe = s.soe := rfl
@[simp] theorem acceptPacket_life (s : State) (c : Ctx) : (acceptPacket c s).life = s.life := rfl
@[simp] theorem acceptPacket_fw (s : State) (c : Ctx) : (acceptPacket c s).fw = s.fw := rfl
@[simp] theorem acceptPacket_cfgOk (s : State) (c : Ctx) : (acceptPacket c s).cfgOk = s.cfgOk := rfl
@[simp] theorem acceptPacket_free (s : State) (c : Ctx) : (acceptPacket c s).free = s.free := rfl

/-! answer -/

@[simp] theorem answer_pending (s : State) (c : Ctx) (status : Nat) (ws : List Word) : (answer c status ws s).pending = s.pending := by simp [answer]
@[simp] theorem answer_clk (s : State) (c : Ctx) (status : Nat) (ws : List Word) : (answer c status ws s).clk = s.clk := by simp [answer]
@[simp] theorem answer_pwr (s : State) (c : Ctx) (status : Nat) (ws : List Word) : (answer c status ws s).pwr = s.pwr := by simp [answer]
@[simp] theorem answer_md (s : State) (c : Ctx) (status : Nat) (ws : List Word) : (answer c status ws s).md = s.md := by simp [answer]
@[simp] theorem answer_sys (s : State) (c : Ctx) (status : Nat) (ws : List Word) : (answer c status ws s).sys = s.sys := by simp [answer]
@[simp] theorem answer_spring (s : State) (c : Ctx) (status : Nat) (ws : List Word) : (answer c status ws s).spring = s.spring := by simp [answer]
@[simp] theorem answer_cells (s : State) (c : Ctx) (status : Nat) (ws : List Word) : (answer c status ws s).cells = s.cells := by simp [answer]
@[simp] theorem answer_eng (s : State) (c : Ctx) (status : Nat) (ws : List Word) : (answer c status ws s).eng = s.eng := by simp [answer]
@[simp] theorem answer_ti (s : State) (c : Ctx) (status : Nat) (ws : List Word) : (answer c status ws s).ti = s.ti := by simp [answer]
@[simp] theorem answer_net (s : State) (c : Ctx) (status : Nat) (ws : List Word) : (answer c status ws s).net = s.net := by simp [answer]
@[simp] theorem answer_cas (s : State) (c : Ctx) (status : Nat) (ws : List Word) : (answer c status ws s).cas = s.cas := by simp [answer]
@[simp] theorem answer_ops (s : State) (c : Ctx) (status : Nat) (ws : List Word) : (answer c status ws s).ops = s.ops := by simp [answer]
@[simp] theorem answer_done (s : State) (c : Ctx) (status : Nat) (ws : List Word) : (answer c status ws s).done = s.done := by simp [answer]
@[simp] theorem answer_parts (s : State) (c : Ctx) (status : Nat) (ws : List Word) : (answer c status ws s).parts = s.parts := by simp [answer]
@[simp] theorem answer_evt (s : State) (c : Ctx) (status : Nat) (ws : List Word) : (answer c status ws s).evt = s.evt := by simp [answer]
@[simp] theorem answer_cu (s : State) (c : Ctx) (status : Nat) (ws : List Word) : (answer c status ws s).cu = s.cu := by simp [answer]
@[simp] theorem answer_flt (s : State) (c : Ctx) (status : Nat) (ws : List Word) : (answer c status ws s).flt = s.flt := by simp [answer]
@[simp] theorem answer_srcs (s : State) (c : Ctx) (status : Nat) (ws : List Word) : (answer c status ws s).srcs = s.srcs := by simp [answer]
@[simp] theorem answer_xing (s : State) (c : Ctx) (status : Nat) (ws : List Word) : (answer c status ws s).xing = s.xing := by simp [answer]
@[simp] theorem answer_scrub (s : State) (c : Ctx) (status : Nat) (ws : List Word) : (answer c status ws s).scrub = s.scrub := by simp [answer]
@[simp] theorem answer_recs (s : State) (c : Ctx) (status : Nat) (ws : List Word) : (answer c status ws s).recs = s.recs := by simp [answer]
@[simp] theorem answer_soe (s : State) (c : Ctx) (status : Nat) (ws : List Word) : (answer c status ws s).soe = s.soe := by simp [answer]
@[simp] theorem answer_life (s : State) (c : Ctx) (status : Nat) (ws : List Word) : (answer c status ws s).life = s.life := by simp [answer]
@[simp] theorem answer_cfgOk (s : State) (c : Ctx) (status : Nat) (ws : List Word) : (answer c status ws s).cfgOk = s.cfgOk := by simp [answer]
@[simp] theorem answer_free (s : State) (c : Ctx) (status : Nat) (ws : List Word) : (answer c status ws s).free = s.free := by simp [answer]

/-! answerFault -/

@[simp] theorem answerFault_pending (s : State) (c : Ctx) (op reason : Nat) : (answerFault c op reason s).pending = s.pending := by simp [answerFault]
@[simp] theorem answerFault_clk (s : State) (c : Ctx) (op reason : Nat) : (answerFault c op reason s).clk = s.clk := by simp [answerFault]
@[simp] theorem answerFault_pwr (s : State) (c : Ctx) (op reason : Nat) : (answerFault c op reason s).pwr = s.pwr := by simp [answerFault]
@[simp] theorem answerFault_md (s : State) (c : Ctx) (op reason : Nat) : (answerFault c op reason s).md = s.md := by simp [answerFault]
@[simp] theorem answerFault_sys (s : State) (c : Ctx) (op reason : Nat) : (answerFault c op reason s).sys = s.sys := by simp [answerFault]
@[simp] theorem answerFault_spring (s : State) (c : Ctx) (op reason : Nat) : (answerFault c op reason s).spring = s.spring := by simp [answerFault]
@[simp] theorem answerFault_cells (s : State) (c : Ctx) (op reason : Nat) : (answerFault c op reason s).cells = s.cells := by simp [answerFault]
@[simp] theorem answerFault_eng (s : State) (c : Ctx) (op reason : Nat) : (answerFault c op reason s).eng = s.eng := by simp [answerFault]
@[simp] theorem answerFault_ti (s : State) (c : Ctx) (op reason : Nat) : (answerFault c op reason s).ti = s.ti := by simp [answerFault]
@[simp] theorem answerFault_net (s : State) (c : Ctx) (op reason : Nat) : (answerFault c op reason s).net = s.net := by simp [answerFault]
@[simp] theorem answerFault_cas (s : State) (c : Ctx) (op reason : Nat) : (answerFault c op reason s).cas = s.cas := by simp [answerFault]
@[simp] theorem answerFault_ops (s : State) (c : Ctx) (op reason : Nat) : (answerFault c op reason s).ops = s.ops := by simp [answerFault]
@[simp] theorem answerFault_done (s : State) (c : Ctx) (op reason : Nat) : (answerFault c op reason s).done = s.done := by simp [answerFault]
@[simp] theorem answerFault_parts (s : State) (c : Ctx) (op reason : Nat) : (answerFault c op reason s).parts = s.parts := by simp [answerFault]
@[simp] theorem answerFault_evt (s : State) (c : Ctx) (op reason : Nat) : (answerFault c op reason s).evt = s.evt := by simp [answerFault]
@[simp] theorem answerFault_cu (s : State) (c : Ctx) (op reason : Nat) : (answerFault c op reason s).cu = s.cu := by simp [answerFault]
@[simp] theorem answerFault_flt (s : State) (c : Ctx) (op reason : Nat) : (answerFault c op reason s).flt = s.flt := by simp [answerFault]
@[simp] theorem answerFault_srcs (s : State) (c : Ctx) (op reason : Nat) : (answerFault c op reason s).srcs = s.srcs := by simp [answerFault]
@[simp] theorem answerFault_xing (s : State) (c : Ctx) (op reason : Nat) : (answerFault c op reason s).xing = s.xing := by simp [answerFault]
@[simp] theorem answerFault_scrub (s : State) (c : Ctx) (op reason : Nat) : (answerFault c op reason s).scrub = s.scrub := by simp [answerFault]
@[simp] theorem answerFault_recs (s : State) (c : Ctx) (op reason : Nat) : (answerFault c op reason s).recs = s.recs := by simp [answerFault]
@[simp] theorem answerFault_soe (s : State) (c : Ctx) (op reason : Nat) : (answerFault c op reason s).soe = s.soe := by simp [answerFault]
@[simp] theorem answerFault_life (s : State) (c : Ctx) (op reason : Nat) : (answerFault c op reason s).life = s.life := by simp [answerFault]
@[simp] theorem answerFault_cfgOk (s : State) (c : Ctx) (op reason : Nat) : (answerFault c op reason s).cfgOk = s.cfgOk := by simp [answerFault]
@[simp] theorem answerFault_free (s : State) (c : Ctx) (op reason : Nat) : (answerFault c op reason s).free = s.free := by simp [answerFault]

/-! startOp -/

@[simp] theorem startOp_pending (s : State) (c : Ctx) (o : LongOp) : (startOp c o s).pending = s.pending := by simp [startOp]
@[simp] theorem startOp_clk (s : State) (c : Ctx) (o : LongOp) : (startOp c o s).clk = s.clk := by simp [startOp]
@[simp] theorem startOp_pwr (s : State) (c : Ctx) (o : LongOp) : (startOp c o s).pwr = s.pwr := by simp [startOp]
@[simp] theorem startOp_md (s : State) (c : Ctx) (o : LongOp) : (startOp c o s).md = s.md := by simp [startOp]
@[simp] theorem startOp_sys (s : State) (c : Ctx) (o : LongOp) : (startOp c o s).sys = s.sys := by simp [startOp]
@[simp] theorem startOp_spring (s : State) (c : Ctx) (o : LongOp) : (startOp c o s).spring = s.spring := by simp [startOp]
@[simp] theorem startOp_cells (s : State) (c : Ctx) (o : LongOp) : (startOp c o s).cells = s.cells := by simp [startOp]
@[simp] theorem startOp_eng (s : State) (c : Ctx) (o : LongOp) : (startOp c o s).eng = s.eng := by simp [startOp]
@[simp] theorem startOp_ti (s : State) (c : Ctx) (o : LongOp) : (startOp c o s).ti = s.ti := by simp [startOp]
@[simp] theorem startOp_net (s : State) (c : Ctx) (o : LongOp) : (startOp c o s).net = s.net := by simp [startOp]
@[simp] theorem startOp_cas (s : State) (c : Ctx) (o : LongOp) : (startOp c o s).cas = s.cas := by simp [startOp]
@[simp] theorem startOp_done (s : State) (c : Ctx) (o : LongOp) : (startOp c o s).done = s.done := by simp [startOp]
@[simp] theorem startOp_parts (s : State) (c : Ctx) (o : LongOp) : (startOp c o s).parts = s.parts := by simp [startOp]
@[simp] theorem startOp_evt (s : State) (c : Ctx) (o : LongOp) : (startOp c o s).evt = s.evt := by simp [startOp]
@[simp] theorem startOp_cu (s : State) (c : Ctx) (o : LongOp) : (startOp c o s).cu = s.cu := by simp [startOp]
@[simp] theorem startOp_flt (s : State) (c : Ctx) (o : LongOp) : (startOp c o s).flt = s.flt := by simp [startOp]
@[simp] theorem startOp_srcs (s : State) (c : Ctx) (o : LongOp) : (startOp c o s).srcs = s.srcs := by simp [startOp]
@[simp] theorem startOp_xing (s : State) (c : Ctx) (o : LongOp) : (startOp c o s).xing = s.xing := by simp [startOp]
@[simp] theorem startOp_scrub (s : State) (c : Ctx) (o : LongOp) : (startOp c o s).scrub = s.scrub := by simp [startOp]
@[simp] theorem startOp_recs (s : State) (c : Ctx) (o : LongOp) : (startOp c o s).recs = s.recs := by simp [startOp]
@[simp] theorem startOp_soe (s : State) (c : Ctx) (o : LongOp) : (startOp c o s).soe = s.soe := by simp [startOp]
@[simp] theorem startOp_life (s : State) (c : Ctx) (o : LongOp) : (startOp c o s).life = s.life := by simp [startOp]
@[simp] theorem startOp_cfgOk (s : State) (c : Ctx) (o : LongOp) : (startOp c o s).cfgOk = s.cfgOk := by simp [startOp]
@[simp] theorem startOp_free (s : State) (c : Ctx) (o : LongOp) : (startOp c o s).free = s.free := by simp [startOp]

/-! noteDone -/

@[simp] theorem noteDone_pending (s : State) (r : CmdRef) : (noteDone r s).pending = s.pending := rfl
@[simp] theorem noteDone_clk (s : State) (r : CmdRef) : (noteDone r s).clk = s.clk := rfl
@[simp] theorem noteDone_pwr (s : State) (r : CmdRef) : (noteDone r s).pwr = s.pwr := rfl
@[simp] theorem noteDone_md (s : State) (r : CmdRef) : (noteDone r s).md = s.md := rfl
@[simp] theorem noteDone_sys (s : State) (r : CmdRef) : (noteDone r s).sys = s.sys := rfl
@[simp] theorem noteDone_spring (s : State) (r : CmdRef) : (noteDone r s).spring = s.spring := rfl
@[simp] theorem noteDone_cells (s : State) (r : CmdRef) : (noteDone r s).cells = s.cells := rfl
@[simp] theorem noteDone_eng (s : State) (r : CmdRef) : (noteDone r s).eng = s.eng := rfl
@[simp] theorem noteDone_ti (s : State) (r : CmdRef) : (noteDone r s).ti = s.ti := rfl
@[simp] theorem noteDone_net (s : State) (r : CmdRef) : (noteDone r s).net = s.net := rfl
@[simp] theorem noteDone_cas (s : State) (r : CmdRef) : (noteDone r s).cas = s.cas := rfl
@[simp] theorem noteDone_grp (s : State) (r : CmdRef) : (noteDone r s).grp = s.grp := rfl
@[simp] theorem noteDone_hp (s : State) (r : CmdRef) : (noteDone r s).hp = s.hp := rfl
@[simp] theorem noteDone_alives (s : State) (r : CmdRef) : (noteDone r s).alives = s.alives := rfl
@[simp] theorem noteDone_ops (s : State) (r : CmdRef) : (noteDone r s).ops = s.ops := rfl
@[simp] theorem noteDone_parts (s : State) (r : CmdRef) : (noteDone r s).parts = s.parts := rfl
@[simp] theorem noteDone_evt (s : State) (r : CmdRef) : (noteDone r s).evt = s.evt := rfl
@[simp] theorem noteDone_cu (s : State) (r : CmdRef) : (noteDone r s).cu = s.cu := rfl
@[simp] theorem noteDone_flt (s : State) (r : CmdRef) : (noteDone r s).flt = s.flt := rfl
@[simp] theorem noteDone_srcs (s : State) (r : CmdRef) : (noteDone r s).srcs = s.srcs := rfl
@[simp] theorem noteDone_xing (s : State) (r : CmdRef) : (noteDone r s).xing = s.xing := rfl
@[simp] theorem noteDone_scrub (s : State) (r : CmdRef) : (noteDone r s).scrub = s.scrub := rfl
@[simp] theorem noteDone_recs (s : State) (r : CmdRef) : (noteDone r s).recs = s.recs := rfl
@[simp] theorem noteDone_soe (s : State) (r : CmdRef) : (noteDone r s).soe = s.soe := rfl
@[simp] theorem noteDone_life (s : State) (r : CmdRef) : (noteDone r s).life = s.life := rfl
@[simp] theorem noteDone_fw (s : State) (r : CmdRef) : (noteDone r s).fw = s.fw := rfl
@[simp] theorem noteDone_cfgOk (s : State) (r : CmdRef) : (noteDone r s).cfgOk = s.cfgOk := rfl
@[simp] theorem noteDone_free (s : State) (r : CmdRef) : (noteDone r s).free = s.free := rfl

/-! noteConfig -/

@[simp] theorem noteConfig_pending (s : State) (src : Src) : (noteConfig src s).pending = s.pending := rfl
@[simp] theorem noteConfig_clk (s : State) (src : Src) : (noteConfig src s).clk = s.clk := rfl
@[simp] theorem noteConfig_pwr (s : State) (src : Src) : (noteConfig src s).pwr = s.pwr := rfl
@[simp] theorem noteConfig_md (s : State) (src : Src) : (noteConfig src s).md = s.md := rfl
@[simp] theorem noteConfig_sys (s : State) (src : Src) : (noteConfig src s).sys = s.sys := rfl
@[simp] theorem noteConfig_spring (s : State) (src : Src) : (noteConfig src s).spring = s.spring := rfl
@[simp] theorem noteConfig_cells (s : State) (src : Src) : (noteConfig src s).cells = s.cells := rfl
@[simp] theorem noteConfig_eng (s : State) (src : Src) : (noteConfig src s).eng = s.eng := rfl
@[simp] theorem noteConfig_ti (s : State) (src : Src) : (noteConfig src s).ti = s.ti := rfl
@[simp] theorem noteConfig_net (s : State) (src : Src) : (noteConfig src s).net = s.net := rfl
@[simp] theorem noteConfig_cas (s : State) (src : Src) : (noteConfig src s).cas = s.cas := rfl
@[simp] theorem noteConfig_grp (s : State) (src : Src) : (noteConfig src s).grp = s.grp := rfl
@[simp] theorem noteConfig_hp (s : State) (src : Src) : (noteConfig src s).hp = s.hp := rfl
@[simp] theorem noteConfig_alives (s : State) (src : Src) : (noteConfig src s).alives = s.alives := rfl
@[simp] theorem noteConfig_ops (s : State) (src : Src) : (noteConfig src s).ops = s.ops := rfl
@[simp] theorem noteConfig_done (s : State) (src : Src) : (noteConfig src s).done = s.done := rfl
@[simp] theorem noteConfig_parts (s : State) (src : Src) : (noteConfig src s).parts = s.parts := rfl
@[simp] theorem noteConfig_evt (s : State) (src : Src) : (noteConfig src s).evt = s.evt := rfl
@[simp] theorem noteConfig_cu (s : State) (src : Src) : (noteConfig src s).cu = s.cu := rfl
@[simp] theorem noteConfig_flt (s : State) (src : Src) : (noteConfig src s).flt = s.flt := rfl
@[simp] theorem noteConfig_srcs (s : State) (src : Src) : (noteConfig src s).srcs = s.srcs := rfl
@[simp] theorem noteConfig_xing (s : State) (src : Src) : (noteConfig src s).xing = s.xing := rfl
@[simp] theorem noteConfig_scrub (s : State) (src : Src) : (noteConfig src s).scrub = s.scrub := rfl
@[simp] theorem noteConfig_recs (s : State) (src : Src) : (noteConfig src s).recs = s.recs := rfl
@[simp] theorem noteConfig_soe (s : State) (src : Src) : (noteConfig src s).soe = s.soe := rfl
@[simp] theorem noteConfig_life (s : State) (src : Src) : (noteConfig src s).life = s.life := rfl
@[simp] theorem noteConfig_free (s : State) (src : Src) : (noteConfig src s).free = s.free := rfl

/-! openWindow -/

@[simp] theorem openWindow_pending (s : State) (b : Block) : (openWindow b s).pending = s.pending := rfl
@[simp] theorem openWindow_clk (s : State) (b : Block) : (openWindow b s).clk = s.clk := rfl
@[simp] theorem openWindow_pwr (s : State) (b : Block) : (openWindow b s).pwr = s.pwr := rfl
@[simp] theorem openWindow_md (s : State) (b : Block) : (openWindow b s).md = s.md := rfl
@[simp] theorem openWindow_sys (s : State) (b : Block) : (openWindow b s).sys = s.sys := rfl
@[simp] theorem openWindow_spring (s : State) (b : Block) : (openWindow b s).spring = s.spring := rfl
@[simp] theorem openWindow_cells (s : State) (b : Block) : (openWindow b s).cells = s.cells := rfl
@[simp] theorem openWindow_eng (s : State) (b : Block) : (openWindow b s).eng = s.eng := rfl
@[simp] theorem openWindow_ti (s : State) (b : Block) : (openWindow b s).ti = s.ti := rfl
@[simp] theorem openWindow_net (s : State) (b : Block) : (openWindow b s).net = s.net := rfl
@[simp] theorem openWindow_cas (s : State) (b : Block) : (openWindow b s).cas = s.cas := rfl
@[simp] theorem openWindow_grp (s : State) (b : Block) : (openWindow b s).grp = s.grp := rfl
@[simp] theorem openWindow_hp (s : State) (b : Block) : (openWindow b s).hp = s.hp := rfl
@[simp] theorem openWindow_alives (s : State) (b : Block) : (openWindow b s).alives = s.alives := rfl
@[simp] theorem openWindow_ops (s : State) (b : Block) : (openWindow b s).ops = s.ops := rfl
@[simp] theorem openWindow_done (s : State) (b : Block) : (openWindow b s).done = s.done := rfl
@[simp] theorem openWindow_parts (s : State) (b : Block) : (openWindow b s).parts = s.parts := rfl
@[simp] theorem openWindow_evt (s : State) (b : Block) : (openWindow b s).evt = s.evt := rfl
@[simp] theorem openWindow_cu (s : State) (b : Block) : (openWindow b s).cu = s.cu := rfl
@[simp] theorem openWindow_srcs (s : State) (b : Block) : (openWindow b s).srcs = s.srcs := rfl
@[simp] theorem openWindow_xing (s : State) (b : Block) : (openWindow b s).xing = s.xing := rfl
@[simp] theorem openWindow_scrub (s : State) (b : Block) : (openWindow b s).scrub = s.scrub := rfl
@[simp] theorem openWindow_recs (s : State) (b : Block) : (openWindow b s).recs = s.recs := rfl
@[simp] theorem openWindow_soe (s : State) (b : Block) : (openWindow b s).soe = s.soe := rfl
@[simp] theorem openWindow_life (s : State) (b : Block) : (openWindow b s).life = s.life := rfl
@[simp] theorem openWindow_fw (s : State) (b : Block) : (openWindow b s).fw = s.fw := rfl
@[simp] theorem openWindow_cfgOk (s : State) (b : Block) : (openWindow b s).cfgOk = s.cfgOk := rfl
@[simp] theorem openWindow_free (s : State) (b : Block) : (openWindow b s).free = s.free := rfl

/-! reactInt -/

@[simp] theorem reactInt_pending (s : State) (n : Fin 96) : (reactInt n s).pending = s.pending := by simp [reactInt]
@[simp] theorem reactInt_clk (s : State) (n : Fin 96) : (reactInt n s).clk = s.clk := by simp [reactInt]
@[simp] theorem reactInt_pwr (s : State) (n : Fin 96) : (reactInt n s).pwr = s.pwr := by simp [reactInt]
@[simp] theorem reactInt_md (s : State) (n : Fin 96) : (reactInt n s).md = s.md := by simp [reactInt]
@[simp] theorem reactInt_sys (s : State) (n : Fin 96) : (reactInt n s).sys = s.sys := by simp [reactInt]
@[simp] theorem reactInt_spring (s : State) (n : Fin 96) : (reactInt n s).spring = s.spring := by simp [reactInt]
@[simp] theorem reactInt_cells (s : State) (n : Fin 96) : (reactInt n s).cells = s.cells := by simp [reactInt]
@[simp] theorem reactInt_eng (s : State) (n : Fin 96) : (reactInt n s).eng = s.eng := by simp [reactInt]
@[simp] theorem reactInt_ti (s : State) (n : Fin 96) : (reactInt n s).ti = s.ti := by simp [reactInt]
@[simp] theorem reactInt_net (s : State) (n : Fin 96) : (reactInt n s).net = s.net := by simp [reactInt]
@[simp] theorem reactInt_cas (s : State) (n : Fin 96) : (reactInt n s).cas = s.cas := by simp [reactInt]
@[simp] theorem reactInt_grp (s : State) (n : Fin 96) : (reactInt n s).grp = s.grp := by simp [reactInt]
@[simp] theorem reactInt_hp (s : State) (n : Fin 96) : (reactInt n s).hp = s.hp := by simp [reactInt]
@[simp] theorem reactInt_alives (s : State) (n : Fin 96) : (reactInt n s).alives = s.alives := by simp [reactInt]
@[simp] theorem reactInt_ops (s : State) (n : Fin 96) : (reactInt n s).ops = s.ops := by simp [reactInt]
@[simp] theorem reactInt_done (s : State) (n : Fin 96) : (reactInt n s).done = s.done := by simp [reactInt]
@[simp] theorem reactInt_parts (s : State) (n : Fin 96) : (reactInt n s).parts = s.parts := by simp [reactInt]
@[simp] theorem reactInt_cu (s : State) (n : Fin 96) : (reactInt n s).cu = s.cu := by simp [reactInt]
@[simp] theorem reactInt_flt (s : State) (n : Fin 96) : (reactInt n s).flt = s.flt := by simp [reactInt]
@[simp] theorem reactInt_srcs (s : State) (n : Fin 96) : (reactInt n s).srcs = s.srcs := by simp [reactInt]
@[simp] theorem reactInt_xing (s : State) (n : Fin 96) : (reactInt n s).xing = s.xing := by simp [reactInt]
@[simp] theorem reactInt_scrub (s : State) (n : Fin 96) : (reactInt n s).scrub = s.scrub := by simp [reactInt]
@[simp] theorem reactInt_recs (s : State) (n : Fin 96) : (reactInt n s).recs = s.recs := by simp [reactInt]
@[simp] theorem reactInt_soe (s : State) (n : Fin 96) : (reactInt n s).soe = s.soe := by simp [reactInt]
@[simp] theorem reactInt_life (s : State) (n : Fin 96) : (reactInt n s).life = s.life := by simp [reactInt]
@[simp] theorem reactInt_fw (s : State) (n : Fin 96) : (reactInt n s).fw = s.fw := by simp [reactInt]
@[simp] theorem reactInt_cfgOk (s : State) (n : Fin 96) : (reactInt n s).cfgOk = s.cfgOk := by simp [reactInt]
@[simp] theorem reactInt_free (s : State) (n : Fin 96) : (reactInt n s).free = s.free := by simp [reactInt]

/-! reactTrap -/

@[simp] theorem reactTrap_pending (s : State) (n : Fin 96) : (reactTrap n s).pending = s.pending := rfl
@[simp] theorem reactTrap_clk (s : State) (n : Fin 96) : (reactTrap n s).clk = s.clk := rfl
@[simp] theorem reactTrap_pwr (s : State) (n : Fin 96) : (reactTrap n s).pwr = s.pwr := rfl
@[simp] theorem reactTrap_md (s : State) (n : Fin 96) : (reactTrap n s).md = s.md := rfl
@[simp] theorem reactTrap_sys (s : State) (n : Fin 96) : (reactTrap n s).sys = s.sys := rfl
@[simp] theorem reactTrap_spring (s : State) (n : Fin 96) : (reactTrap n s).spring = s.spring := rfl
@[simp] theorem reactTrap_cells (s : State) (n : Fin 96) : (reactTrap n s).cells = s.cells := rfl
@[simp] theorem reactTrap_eng (s : State) (n : Fin 96) : (reactTrap n s).eng = s.eng := rfl
@[simp] theorem reactTrap_ti (s : State) (n : Fin 96) : (reactTrap n s).ti = s.ti := rfl
@[simp] theorem reactTrap_net (s : State) (n : Fin 96) : (reactTrap n s).net = s.net := rfl
@[simp] theorem reactTrap_cas (s : State) (n : Fin 96) : (reactTrap n s).cas = s.cas := rfl
@[simp] theorem reactTrap_grp (s : State) (n : Fin 96) : (reactTrap n s).grp = s.grp := rfl
@[simp] theorem reactTrap_hp (s : State) (n : Fin 96) : (reactTrap n s).hp = s.hp := rfl
@[simp] theorem reactTrap_alives (s : State) (n : Fin 96) : (reactTrap n s).alives = s.alives := rfl
@[simp] theorem reactTrap_ops (s : State) (n : Fin 96) : (reactTrap n s).ops = s.ops := rfl
@[simp] theorem reactTrap_done (s : State) (n : Fin 96) : (reactTrap n s).done = s.done := rfl
@[simp] theorem reactTrap_parts (s : State) (n : Fin 96) : (reactTrap n s).parts = s.parts := rfl
@[simp] theorem reactTrap_evt (s : State) (n : Fin 96) : (reactTrap n s).evt = s.evt := rfl
@[simp] theorem reactTrap_cu (s : State) (n : Fin 96) : (reactTrap n s).cu = s.cu := rfl
@[simp] theorem reactTrap_srcs (s : State) (n : Fin 96) : (reactTrap n s).srcs = s.srcs := rfl
@[simp] theorem reactTrap_xing (s : State) (n : Fin 96) : (reactTrap n s).xing = s.xing := rfl
@[simp] theorem reactTrap_scrub (s : State) (n : Fin 96) : (reactTrap n s).scrub = s.scrub := rfl
@[simp] theorem reactTrap_recs (s : State) (n : Fin 96) : (reactTrap n s).recs = s.recs := rfl
@[simp] theorem reactTrap_soe (s : State) (n : Fin 96) : (reactTrap n s).soe = s.soe := rfl
@[simp] theorem reactTrap_life (s : State) (n : Fin 96) : (reactTrap n s).life = s.life := rfl
@[simp] theorem reactTrap_fw (s : State) (n : Fin 96) : (reactTrap n s).fw = s.fw := rfl
@[simp] theorem reactTrap_cfgOk (s : State) (n : Fin 96) : (reactTrap n s).cfgOk = s.cfgOk := rfl
@[simp] theorem reactTrap_free (s : State) (n : Fin 96) : (reactTrap n s).free = s.free := rfl

/-! reactErr -/

@[simp] theorem reactErr_pending (s : State) (n : Fin 96) : (reactErr n s).pending = s.pending := rfl
@[simp] theorem reactErr_clk (s : State) (n : Fin 96) : (reactErr n s).clk = s.clk := rfl
@[simp] theorem reactErr_pwr (s : State) (n : Fin 96) : (reactErr n s).pwr = s.pwr := rfl
@[simp] theorem reactErr_md (s : State) (n : Fin 96) : (reactErr n s).md = s.md := rfl
@[simp] theorem reactErr_sys (s : State) (n : Fin 96) : (reactErr n s).sys = s.sys := rfl
@[simp] theorem reactErr_spring (s : State) (n : Fin 96) : (reactErr n s).spring = s.spring := rfl
@[simp] theorem reactErr_cells (s : State) (n : Fin 96) : (reactErr n s).cells = s.cells := rfl
@[simp] theorem reactErr_eng (s : State) (n : Fin 96) : (reactErr n s).eng = s.eng := rfl
@[simp] theorem reactErr_ti (s : State) (n : Fin 96) : (reactErr n s).ti = s.ti := rfl
@[simp] theorem reactErr_net (s : State) (n : Fin 96) : (reactErr n s).net = s.net := rfl
@[simp] theorem reactErr_cas (s : State) (n : Fin 96) : (reactErr n s).cas = s.cas := rfl
@[simp] theorem reactErr_grp (s : State) (n : Fin 96) : (reactErr n s).grp = s.grp := rfl
@[simp] theorem reactErr_hp (s : State) (n : Fin 96) : (reactErr n s).hp = s.hp := rfl
@[simp] theorem reactErr_alives (s : State) (n : Fin 96) : (reactErr n s).alives = s.alives := rfl
@[simp] theorem reactErr_ops (s : State) (n : Fin 96) : (reactErr n s).ops = s.ops := rfl
@[simp] theorem reactErr_done (s : State) (n : Fin 96) : (reactErr n s).done = s.done := rfl
@[simp] theorem reactErr_parts (s : State) (n : Fin 96) : (reactErr n s).parts = s.parts := rfl
@[simp] theorem reactErr_evt (s : State) (n : Fin 96) : (reactErr n s).evt = s.evt := rfl
@[simp] theorem reactErr_cu (s : State) (n : Fin 96) : (reactErr n s).cu = s.cu := rfl
@[simp] theorem reactErr_flt (s : State) (n : Fin 96) : (reactErr n s).flt = s.flt := rfl
@[simp] theorem reactErr_xing (s : State) (n : Fin 96) : (reactErr n s).xing = s.xing := rfl
@[simp] theorem reactErr_scrub (s : State) (n : Fin 96) : (reactErr n s).scrub = s.scrub := rfl
@[simp] theorem reactErr_recs (s : State) (n : Fin 96) : (reactErr n s).recs = s.recs := rfl
@[simp] theorem reactErr_soe (s : State) (n : Fin 96) : (reactErr n s).soe = s.soe := rfl
@[simp] theorem reactErr_life (s : State) (n : Fin 96) : (reactErr n s).life = s.life := rfl
@[simp] theorem reactErr_fw (s : State) (n : Fin 96) : (reactErr n s).fw = s.fw := rfl
@[simp] theorem reactErr_cfgOk (s : State) (n : Fin 96) : (reactErr n s).cfgOk = s.cfgOk := rfl
@[simp] theorem reactErr_free (s : State) (n : Fin 96) : (reactErr n s).free = s.free := rfl

/-! reactChip -/

@[simp] theorem reactChip_pending (s : State) (n : Fin 96) : (reactChip n s).pending = s.pending := rfl
@[simp] theorem reactChip_clk (s : State) (n : Fin 96) : (reactChip n s).clk = s.clk := rfl
@[simp] theorem reactChip_pwr (s : State) (n : Fin 96) : (reactChip n s).pwr = s.pwr := rfl
@[simp] theorem reactChip_sys (s : State) (n : Fin 96) : (reactChip n s).sys = s.sys := rfl
@[simp] theorem reactChip_spring (s : State) (n : Fin 96) : (reactChip n s).spring = s.spring := rfl
@[simp] theorem reactChip_cells (s : State) (n : Fin 96) : (reactChip n s).cells = s.cells := rfl
@[simp] theorem reactChip_eng (s : State) (n : Fin 96) : (reactChip n s).eng = s.eng := rfl
@[simp] theorem reactChip_ti (s : State) (n : Fin 96) : (reactChip n s).ti = s.ti := rfl
@[simp] theorem reactChip_net (s : State) (n : Fin 96) : (reactChip n s).net = s.net := rfl
@[simp] theorem reactChip_cas (s : State) (n : Fin 96) : (reactChip n s).cas = s.cas := rfl
@[simp] theorem reactChip_grp (s : State) (n : Fin 96) : (reactChip n s).grp = s.grp := rfl
@[simp] theorem reactChip_hp (s : State) (n : Fin 96) : (reactChip n s).hp = s.hp := rfl
@[simp] theorem reactChip_alives (s : State) (n : Fin 96) : (reactChip n s).alives = s.alives := rfl
@[simp] theorem reactChip_ops (s : State) (n : Fin 96) : (reactChip n s).ops = s.ops := rfl
@[simp] theorem reactChip_done (s : State) (n : Fin 96) : (reactChip n s).done = s.done := rfl
@[simp] theorem reactChip_parts (s : State) (n : Fin 96) : (reactChip n s).parts = s.parts := rfl
@[simp] theorem reactChip_evt (s : State) (n : Fin 96) : (reactChip n s).evt = s.evt := rfl
@[simp] theorem reactChip_cu (s : State) (n : Fin 96) : (reactChip n s).cu = s.cu := rfl
@[simp] theorem reactChip_srcs (s : State) (n : Fin 96) : (reactChip n s).srcs = s.srcs := rfl
@[simp] theorem reactChip_xing (s : State) (n : Fin 96) : (reactChip n s).xing = s.xing := rfl
@[simp] theorem reactChip_scrub (s : State) (n : Fin 96) : (reactChip n s).scrub = s.scrub := rfl
@[simp] theorem reactChip_recs (s : State) (n : Fin 96) : (reactChip n s).recs = s.recs := rfl
@[simp] theorem reactChip_soe (s : State) (n : Fin 96) : (reactChip n s).soe = s.soe := rfl
@[simp] theorem reactChip_life (s : State) (n : Fin 96) : (reactChip n s).life = s.life := rfl
@[simp] theorem reactChip_fw (s : State) (n : Fin 96) : (reactChip n s).fw = s.fw := rfl
@[simp] theorem reactChip_cfgOk (s : State) (n : Fin 96) : (reactChip n s).cfgOk = s.cfgOk := rfl
@[simp] theorem reactChip_free (s : State) (n : Fin 96) : (reactChip n s).free = s.free := rfl

/-! reactSafe -/

@[simp] theorem reactSafe_pending (s : State) : (reactSafe s).pending = s.pending := by unfold reactSafe; split <;> simp
@[simp] theorem reactSafe_clk (s : State) : (reactSafe s).clk = s.clk := by unfold reactSafe; split <;> simp
@[simp] theorem reactSafe_pwr (s : State) : (reactSafe s).pwr = s.pwr := by unfold reactSafe; split <;> simp
@[simp] theorem reactSafe_sys (s : State) : (reactSafe s).sys = s.sys := by unfold reactSafe; split <;> simp
@[simp] theorem reactSafe_spring (s : State) : (reactSafe s).spring = s.spring := by unfold reactSafe; split <;> simp
@[simp] theorem reactSafe_cells (s : State) : (reactSafe s).cells = s.cells := by unfold reactSafe; split <;> simp
@[simp] theorem reactSafe_eng (s : State) : (reactSafe s).eng = s.eng := by unfold reactSafe; split <;> simp
@[simp] theorem reactSafe_ti (s : State) : (reactSafe s).ti = s.ti := by unfold reactSafe; split <;> simp
@[simp] theorem reactSafe_net (s : State) : (reactSafe s).net = s.net := by unfold reactSafe; split <;> simp
@[simp] theorem reactSafe_cas (s : State) : (reactSafe s).cas = s.cas := by unfold reactSafe; split <;> simp
@[simp] theorem reactSafe_grp (s : State) : (reactSafe s).grp = s.grp := by unfold reactSafe; split <;> simp
@[simp] theorem reactSafe_hp (s : State) : (reactSafe s).hp = s.hp := by unfold reactSafe; split <;> simp
@[simp] theorem reactSafe_alives (s : State) : (reactSafe s).alives = s.alives := by unfold reactSafe; split <;> simp
@[simp] theorem reactSafe_ops (s : State) : (reactSafe s).ops = s.ops := by unfold reactSafe; split <;> simp
@[simp] theorem reactSafe_done (s : State) : (reactSafe s).done = s.done := by unfold reactSafe; split <;> simp
@[simp] theorem reactSafe_parts (s : State) : (reactSafe s).parts = s.parts := by unfold reactSafe; split <;> simp
@[simp] theorem reactSafe_evt (s : State) : (reactSafe s).evt = s.evt := by unfold reactSafe; split <;> simp
@[simp] theorem reactSafe_cu (s : State) : (reactSafe s).cu = s.cu := by unfold reactSafe; split <;> simp
@[simp] theorem reactSafe_flt (s : State) : (reactSafe s).flt = s.flt := by unfold reactSafe; split <;> simp
@[simp] theorem reactSafe_srcs (s : State) : (reactSafe s).srcs = s.srcs := by unfold reactSafe; split <;> simp
@[simp] theorem reactSafe_xing (s : State) : (reactSafe s).xing = s.xing := by unfold reactSafe; split <;> simp
@[simp] theorem reactSafe_scrub (s : State) : (reactSafe s).scrub = s.scrub := by unfold reactSafe; split <;> simp
@[simp] theorem reactSafe_recs (s : State) : (reactSafe s).recs = s.recs := by unfold reactSafe; split <;> simp
@[simp] theorem reactSafe_soe (s : State) : (reactSafe s).soe = s.soe := by unfold reactSafe; split <;> simp
@[simp] theorem reactSafe_life (s : State) : (reactSafe s).life = s.life := by unfold reactSafe; split <;> simp
@[simp] theorem reactSafe_fw (s : State) : (reactSafe s).fw = s.fw := by unfold reactSafe; split <;> simp
@[simp] theorem reactSafe_cfgOk (s : State) : (reactSafe s).cfgOk = s.cfgOk := by unfold reactSafe; split <;> simp
@[simp] theorem reactSafe_free (s : State) : (reactSafe s).free = s.free := by unfold reactSafe; split <;> simp

/-! endHold -/

@[simp] theorem endHold_pending (s : State) (n : Fin 96) : (endHold n s).pending = s.pending := rfl
@[simp] theorem endHold_clk (s : State) (n : Fin 96) : (endHold n s).clk = s.clk := rfl
@[simp] theorem endHold_pwr (s : State) (n : Fin 96) : (endHold n s).pwr = s.pwr := rfl
@[simp] theorem endHold_md (s : State) (n : Fin 96) : (endHold n s).md = s.md := rfl
@[simp] theorem endHold_sys (s : State) (n : Fin 96) : (endHold n s).sys = s.sys := rfl
@[simp] theorem endHold_spring (s : State) (n : Fin 96) : (endHold n s).spring = s.spring := rfl
@[simp] theorem endHold_cells (s : State) (n : Fin 96) : (endHold n s).cells = s.cells := rfl
@[simp] theorem endHold_eng (s : State) (n : Fin 96) : (endHold n s).eng = s.eng := rfl
@[simp] theorem endHold_ti (s : State) (n : Fin 96) : (endHold n s).ti = s.ti := rfl
@[simp] theorem endHold_net (s : State) (n : Fin 96) : (endHold n s).net = s.net := rfl
@[simp] theorem endHold_cas (s : State) (n : Fin 96) : (endHold n s).cas = s.cas := rfl
@[simp] theorem endHold_grp (s : State) (n : Fin 96) : (endHold n s).grp = s.grp := rfl
@[simp] theorem endHold_hp (s : State) (n : Fin 96) : (endHold n s).hp = s.hp := rfl
@[simp] theorem endHold_alives (s : State) (n : Fin 96) : (endHold n s).alives = s.alives := rfl
@[simp] theorem endHold_ops (s : State) (n : Fin 96) : (endHold n s).ops = s.ops := rfl
@[simp] theorem endHold_done (s : State) (n : Fin 96) : (endHold n s).done = s.done := rfl
@[simp] theorem endHold_parts (s : State) (n : Fin 96) : (endHold n s).parts = s.parts := rfl
@[simp] theorem endHold_evt (s : State) (n : Fin 96) : (endHold n s).evt = s.evt := rfl
@[simp] theorem endHold_cu (s : State) (n : Fin 96) : (endHold n s).cu = s.cu := rfl
@[simp] theorem endHold_flt (s : State) (n : Fin 96) : (endHold n s).flt = s.flt := rfl
@[simp] theorem endHold_xing (s : State) (n : Fin 96) : (endHold n s).xing = s.xing := rfl
@[simp] theorem endHold_scrub (s : State) (n : Fin 96) : (endHold n s).scrub = s.scrub := rfl
@[simp] theorem endHold_recs (s : State) (n : Fin 96) : (endHold n s).recs = s.recs := rfl
@[simp] theorem endHold_soe (s : State) (n : Fin 96) : (endHold n s).soe = s.soe := rfl
@[simp] theorem endHold_life (s : State) (n : Fin 96) : (endHold n s).life = s.life := rfl
@[simp] theorem endHold_fw (s : State) (n : Fin 96) : (endHold n s).fw = s.fw := rfl
@[simp] theorem endHold_cfgOk (s : State) (n : Fin 96) : (endHold n s).cfgOk = s.cfgOk := rfl
@[simp] theorem endHold_free (s : State) (n : Fin 96) : (endHold n s).free = s.free := rfl

/-! clearFault -/

@[simp] theorem clearFault_pending (s : State) (n : Fin 96) : (clearFault n s).pending = s.pending := rfl
@[simp] theorem clearFault_clk (s : State) (n : Fin 96) : (clearFault n s).clk = s.clk := rfl
@[simp] theorem clearFault_pwr (s : State) (n : Fin 96) : (clearFault n s).pwr = s.pwr := rfl
@[simp] theorem clearFault_md (s : State) (n : Fin 96) : (clearFault n s).md = s.md := rfl
@[simp] theorem clearFault_sys (s : State) (n : Fin 96) : (clearFault n s).sys = s.sys := rfl
@[simp] theorem clearFault_spring (s : State) (n : Fin 96) : (clearFault n s).spring = s.spring := rfl
@[simp] theorem clearFault_cells (s : State) (n : Fin 96) : (clearFault n s).cells = s.cells := rfl
@[simp] theorem clearFault_eng (s : State) (n : Fin 96) : (clearFault n s).eng = s.eng := rfl
@[simp] theorem clearFault_ti (s : State) (n : Fin 96) : (clearFault n s).ti = s.ti := rfl
@[simp] theorem clearFault_net (s : State) (n : Fin 96) : (clearFault n s).net = s.net := rfl
@[simp] theorem clearFault_cas (s : State) (n : Fin 96) : (clearFault n s).cas = s.cas := rfl
@[simp] theorem clearFault_grp (s : State) (n : Fin 96) : (clearFault n s).grp = s.grp := rfl
@[simp] theorem clearFault_hp (s : State) (n : Fin 96) : (clearFault n s).hp = s.hp := rfl
@[simp] theorem clearFault_alives (s : State) (n : Fin 96) : (clearFault n s).alives = s.alives := rfl
@[simp] theorem clearFault_ops (s : State) (n : Fin 96) : (clearFault n s).ops = s.ops := rfl
@[simp] theorem clearFault_done (s : State) (n : Fin 96) : (clearFault n s).done = s.done := rfl
@[simp] theorem clearFault_parts (s : State) (n : Fin 96) : (clearFault n s).parts = s.parts := rfl
@[simp] theorem clearFault_evt (s : State) (n : Fin 96) : (clearFault n s).evt = s.evt := rfl
@[simp] theorem clearFault_cu (s : State) (n : Fin 96) : (clearFault n s).cu = s.cu := rfl
@[simp] theorem clearFault_flt (s : State) (n : Fin 96) : (clearFault n s).flt = s.flt := rfl
@[simp] theorem clearFault_xing (s : State) (n : Fin 96) : (clearFault n s).xing = s.xing := rfl
@[simp] theorem clearFault_scrub (s : State) (n : Fin 96) : (clearFault n s).scrub = s.scrub := rfl
@[simp] theorem clearFault_recs (s : State) (n : Fin 96) : (clearFault n s).recs = s.recs := rfl
@[simp] theorem clearFault_soe (s : State) (n : Fin 96) : (clearFault n s).soe = s.soe := rfl
@[simp] theorem clearFault_life (s : State) (n : Fin 96) : (clearFault n s).life = s.life := rfl
@[simp] theorem clearFault_fw (s : State) (n : Fin 96) : (clearFault n s).fw = s.fw := rfl
@[simp] theorem clearFault_cfgOk (s : State) (n : Fin 96) : (clearFault n s).cfgOk = s.cfgOk := rfl
@[simp] theorem clearFault_free (s : State) (n : Fin 96) : (clearFault n s).free = s.free := rfl

/-! causeClear -/

@[simp] theorem causeClear_pending (s : State) (ch : Ch) (val : Word) : (causeClear ch val s).pending = s.pending := rfl
@[simp] theorem causeClear_clk (s : State) (ch : Ch) (val : Word) : (causeClear ch val s).clk = s.clk := rfl
@[simp] theorem causeClear_pwr (s : State) (ch : Ch) (val : Word) : (causeClear ch val s).pwr = s.pwr := rfl
@[simp] theorem causeClear_md (s : State) (ch : Ch) (val : Word) : (causeClear ch val s).md = s.md := rfl
@[simp] theorem causeClear_sys (s : State) (ch : Ch) (val : Word) : (causeClear ch val s).sys = s.sys := rfl
@[simp] theorem causeClear_spring (s : State) (ch : Ch) (val : Word) : (causeClear ch val s).spring = s.spring := rfl
@[simp] theorem causeClear_eng (s : State) (ch : Ch) (val : Word) : (causeClear ch val s).eng = s.eng := rfl
@[simp] theorem causeClear_ti (s : State) (ch : Ch) (val : Word) : (causeClear ch val s).ti = s.ti := rfl
@[simp] theorem causeClear_net (s : State) (ch : Ch) (val : Word) : (causeClear ch val s).net = s.net := rfl
@[simp] theorem causeClear_cas (s : State) (ch : Ch) (val : Word) : (causeClear ch val s).cas = s.cas := rfl
@[simp] theorem causeClear_grp (s : State) (ch : Ch) (val : Word) : (causeClear ch val s).grp = s.grp := rfl
@[simp] theorem causeClear_hp (s : State) (ch : Ch) (val : Word) : (causeClear ch val s).hp = s.hp := rfl
@[simp] theorem causeClear_alives (s : State) (ch : Ch) (val : Word) : (causeClear ch val s).alives = s.alives := rfl
@[simp] theorem causeClear_ops (s : State) (ch : Ch) (val : Word) : (causeClear ch val s).ops = s.ops := rfl
@[simp] theorem causeClear_done (s : State) (ch : Ch) (val : Word) : (causeClear ch val s).done = s.done := rfl
@[simp] theorem causeClear_parts (s : State) (ch : Ch) (val : Word) : (causeClear ch val s).parts = s.parts := rfl
@[simp] theorem causeClear_evt (s : State) (ch : Ch) (val : Word) : (causeClear ch val s).evt = s.evt := rfl
@[simp] theorem causeClear_cu (s : State) (ch : Ch) (val : Word) : (causeClear ch val s).cu = s.cu := rfl
@[simp] theorem causeClear_flt (s : State) (ch : Ch) (val : Word) : (causeClear ch val s).flt = s.flt := rfl
@[simp] theorem causeClear_srcs (s : State) (ch : Ch) (val : Word) : (causeClear ch val s).srcs = s.srcs := rfl
@[simp] theorem causeClear_xing (s : State) (ch : Ch) (val : Word) : (causeClear ch val s).xing = s.xing := rfl
@[simp] theorem causeClear_scrub (s : State) (ch : Ch) (val : Word) : (causeClear ch val s).scrub = s.scrub := rfl
@[simp] theorem causeClear_recs (s : State) (ch : Ch) (val : Word) : (causeClear ch val s).recs = s.recs := rfl
@[simp] theorem causeClear_soe (s : State) (ch : Ch) (val : Word) : (causeClear ch val s).soe = s.soe := rfl
@[simp] theorem causeClear_life (s : State) (ch : Ch) (val : Word) : (causeClear ch val s).life = s.life := rfl
@[simp] theorem causeClear_fw (s : State) (ch : Ch) (val : Word) : (causeClear ch val s).fw = s.fw := rfl
@[simp] theorem causeClear_cfgOk (s : State) (ch : Ch) (val : Word) : (causeClear ch val s).cfgOk = s.cfgOk := rfl
@[simp] theorem causeClear_free (s : State) (ch : Ch) (val : Word) : (causeClear ch val s).free = s.free := rfl

/-! ### Replies (R371 to R376, R397) -/

@[simp] theorem setAlive_aliveOf_same (src : Src) (f : AliveSt → AliveSt) (s : State) :
    aliveOf (setAlive src f s) src = f (aliveOf s src) := by simp [aliveOf, setAlive]

theorem setAlive_aliveOf_ne (src k : Src) (f : AliveSt → AliveSt) (s : State) (h : k ≠ src) :
    aliveOf (setAlive src f s) k = aliveOf s k := by
  have h' : src ≠ k := fun e => h e.symm
  have e : (s.alives.filter fun p => p.1 != src).find? (fun p => p.1 == k) = s.alives.find? fun p => p.1 == k := by
    rw [List.find?_filter]
    congr 1; funext p
    by_cases hp : p.1 = k
    · simp [hp, h]
    · simp [hp]
  simp [aliveOf, setAlive, h', e]

/-- The host's reply queue gets the reply of a host packet at its end. -/
theorem answer_host_queue (c : Ctx) (status : Nat) (ws : List Word) (s : State) (h : c.src = .host) :
    (answer c status ws s).hp.queue = s.hp.queue ++ [⟨false, message status c.alive c.tag ws⟩] := by
  simp [answer, deliver, h]

/-- Packets of other sources leave the host port alone. -/
theorem answer_hp (c : Ctx) (status : Nat) (ws : List Word) (s : State) (h : c.src ≠ .host) : (answer c status ws s).hp = s.hp := by
  have : (answer c status ws s).hp = (deliver c.src false (message status c.alive c.tag ws) s).hp := by simp [answer]
  rw [this]
  cases hc : c.src <;> simp_all [deliver]

@[simp] theorem startOp_ops (c : Ctx) (o : LongOp) (s : State) : (startOp c o s).ops = s.ops ++ [o] := by simp [startOp]

/-- An operation that does not run sends no completion event (R397). -/
theorem finishOp_none (r : CmdRef) (status reason : Nat) (ws : List Word) (s : State) (h : findOp s r = none) :
    finishOp r status reason ws s = s := by simp [finishOp, h]

/-- A completion event without FS79: the operation no longer runs and is remembered (R379, R397). -/
theorem finishOp_ops (r : CmdRef) (status reason : Nat) (ws : List Word) (s : State) (h : (findOp s r).isSome = true)
    (h1 : status ≠ stFault) (h2 : status ≠ stTimeout) : (finishOp r status reason ws s).ops = s.ops.filter fun o => o.ref != r := by
  simp only [finishOp, h, if_true, opFault, h1, h2, or_self, if_false]
  unfold loadResult
  split <;> simp

/-! ### Events of the collector (R412 to R423) -/

/-- FS95 is never raised (Table 18-1). -/
theorem handleEvent_95 (e : FaultEv) (s : State) (h : e.n.val = 95) : handleEvent e s = s := by simp [handleEvent, h]

/-- A tagged event counts nothing and leaves the class (R423). -/
theorem classify_tagged (e : FaultEv) (f : FltSrc) (h : e.tagged = true) : classify e f = f := by simp [classify, h]

theorem classify_present (e : FaultEv) (f : FltSrc) : (classify e f).present = f.present := by unfold classify; split <;> rfl
theorem classify_maskN (e : FaultEv) (f : FltSrc) : (classify e f).maskN = f.maskN := by unfold classify; split <;> rfl
theorem classify_maskS (e : FaultEv) (f : FltSrc) : (classify e f).maskS = f.maskS := by unfold classify; split <;> rfl
theorem classify_hist (e : FaultEv) (f : FltSrc) : (classify e f).hist = f.hist := by unfold classify; split <;> rfl

/-- A tagged event may only react with INT (R423). -/
theorem eventMask_tagged (e : FaultEv) (f : FltSrc) (h : e.tagged = true) (i : Nat) (hi : i ≠ 0) : (eventMask e f).getLsbD i = false := by
  have : (1#6).getLsbD i = false := by
    rw [BitVec.getLsbD_one]; simp [hi]
  simp [eventMask, h, this]

theorem clearFault_present (n : Fin 96) (s : State) : ((clearFault n s).fsrc n).present = false := by
  simp only [clearFault, endHold, State.setPresent, fsrc_modSrc_same]
  split <;> simp [noHold]

theorem clearFault_ne (n k : Fin 96) (s : State) (h : k ≠ n) : (clearFault n s).fsrc k = s.fsrc k := by
  simp only [clearFault, endHold, State.setPresent]
  rw [fsrc_modSrc_ne _ _ _ _ h, fsrc_modSrc_ne _ _ _ _ h]

end Sys2Proof.Machine
end

