-- ==== Sys2Proof/Laws/Keep.lean ====
section
/-! SUPPORT. What the shared operations keep: the invariant of Safety, the module's identity and its anti-rollback
counters. A meaning made of these operations keeps them too. -/

namespace Sys2Proof.Machine

open Sys2Proof

/-- Identity words are those of before, and the anti-rollback counters have not fallen (R470, R485). -/
def SameUnit (s t : State) : Prop :=
  t.fw.serial = s.fw.serial ∧ t.fw.orderG = s.fw.orderG ∧ t.fw.mac = s.fw.mac ∧ t.fw.idRev = s.fw.idRev ∧
    s.fw.arbCfw ≤ t.fw.arbCfw ∧ s.fw.arbLgp ≤ t.fw.arbLgp

/-- From `s` to `t` the invariant holds on, and the unit is the same. -/
structure Keeps (s t : State) : Prop where
  inv : Inv s → Inv t
  unit : SameUnit s t

theorem SameUnit.refl (s : State) : SameUnit s s := ⟨rfl, rfl, rfl, rfl, Nat.le_refl _, Nat.le_refl _⟩

theorem SameUnit.trans {a b c : State} (h : SameUnit a b) (g : SameUnit b c) : SameUnit a c := by
  obtain ⟨h1, h2, h3, h4, h5, h6⟩ := h
  obtain ⟨g1, g2, g3, g4, g5, g6⟩ := g
  exact ⟨g1.trans h1, g2.trans h2, g3.trans h3, g4.trans h4, Nat.le_trans h5 g5, Nat.le_trans h6 g6⟩

theorem Keeps.refl (s : State) : Keeps s s := ⟨id, SameUnit.refl s⟩

theorem Keeps.trans {a b c : State} (h : Keeps a b) (g : Keeps b c) : Keeps a c := ⟨g.inv ∘ h.inv, h.unit.trans g.unit⟩

/-- A change that leaves the sources, PWR_CTL, the engine's memories and the identity keeps everything. -/
theorem Keeps.other {s0 u t : State} (h : Keeps s0 u) (hs : t.srcs = u.srcs) (hp : t.pwr = u.pwr) (he : t.eng = u.eng)
    (hf : SameUnit u t) : Keeps s0 t := by
  refine h.trans ⟨fun i => ⟨fun n hn => ?_, fun n hn => ?_, ?_, ?_⟩, hf⟩
  · rw [fsrc_congr hs]; exact i.sources n hn
  · rw [fsrc_congr hs]; exact i.masks n hn
  · unfold pwrOk; rw [hp]; exact i.pwr
  · unfold memOk; rw [he]; exact i.mem

/-- The same where the firmware's record is untouched. -/
theorem Keeps.plain {s0 u t : State} (h : Keeps s0 u) (hs : t.srcs = u.srcs) (hp : t.pwr = u.pwr) (he : t.eng = u.eng)
    (hf : t.fw = u.fw) : Keeps s0 t :=
  h.other hs hp he (by unfold SameUnit; rw [hf]; exact SameUnit.refl u)

/-- A change of the sources that makes none present and leaves their masks keeps everything. -/
theorem Keeps.srcs {s0 u t : State} (h : Keeps s0 u) (hp : t.pwr = u.pwr) (he : t.eng = u.eng) (hf : t.fw = u.fw)
    (hx : ∀ n, ((t.fsrc n).present = true → (u.fsrc n).present = true) ∧ (t.fsrc n).maskN = (u.fsrc n).maskN ∧
      (t.fsrc n).maskS = (u.fsrc n).maskS) : Keeps s0 t := by
  refine h.trans ⟨fun i => ⟨fun n hn => ?_, fun n hn => ?_, ?_, ?_⟩, ?_⟩
  · have h1 := i.sources n hn
    have h2 := (hx n).1
    cases hq : (t.fsrc n).present with
    | false => rfl
    | true => rw [h2 hq] at h1; exact h1
  · rw [(hx n).2.1, (hx n).2.2]; exact i.masks n hn
  · unfold pwrOk; rw [hp]; exact i.pwr
  · unfold memOk; rw [he]; exact i.mem
  · unfold SameUnit; rw [hf]; exact SameUnit.refl u

/-- A fold of operations that each keep. -/
theorem Keeps.foldl {α : Type} {s0 : State} {f : State → α → State} (hf : ∀ u x, Keeps s0 u → Keeps s0 (f u x)) :
    ∀ (l : List α) {u : State}, Keeps s0 u → Keeps s0 (l.foldl f u)
  | [], _, h => h
  | x :: r, _, h => Keeps.foldl hf r (hf _ x h)

variable {s0 u : State}

/-- A change of the power record that leaves the ranges of PWR_CTL keeps everything. -/
theorem keeps_modPwr (f : Pwr → Pwr) (h : Keeps s0 u)
    (hx : u.pwr.limit ≤ 4 ∧ 60 ≤ u.pwr.thWarn ∧ u.pwr.thWarn ≤ 100 → (f u.pwr).limit ≤ 4 ∧ 60 ≤ (f u.pwr).thWarn ∧ (f u.pwr).thWarn ≤ 100) :
    Keeps s0 (modPwr f u) :=
  h.trans ⟨fun i => ⟨i.sources, i.masks, hx i.pwr, i.mem⟩, SameUnit.refl u⟩

/-- A change of the engine that keeps the form of its memories keeps everything. -/
theorem keeps_eng (e : Engine) (h : Keeps s0 u) (hx : memOk u → memOk { u with eng := e }) :
    Keeps s0 { u with eng := e } :=
  h.trans ⟨fun i => ⟨i.sources, i.masks, i.pwr, hx i.mem⟩, SameUnit.refl u⟩

/-! ### Sources -/

theorem keeps_modSrc (n : Fin 96) (f : FltSrc → FltSrc) (h : Keeps s0 u)
    (hx : ∀ x, ((f x).present = true → x.present = true) ∧ (f x).maskN = x.maskN ∧ (f x).maskS = x.maskS) : Keeps s0 (u.modSrc n f) := by
  refine h.srcs rfl rfl rfl fun k => ?_
  rw [fsrc_modSrc]
  split
  · subst k; exact hx _
  · exact ⟨id, rfl, rfl⟩

/-- Presence may be set only where the source is not "Event only" and not FS95. -/
theorem keeps_setPresent (n : Fin 96) (b : Bool) (h : Keeps s0 u) (hx : b = true → eventOnly n = false ∧ n.val ≠ 95) :
    Keeps s0 (u.setPresent n b) := by
  refine h.trans ⟨fun i => ⟨fun k hk => ?_, fun k hk => ?_, i.pwr, i.mem⟩, SameUnit.refl u⟩
  · unfold State.setPresent
    rw [fsrc_modSrc]
    split
    · subst k
      cases b with
      | false => rfl
      | true => obtain ⟨h1, h2⟩ := hx rfl; simp_all
    · exact i.sources k hk
  · unfold State.setPresent
    rw [fsrc_modSrc]
    split
    · subst k; exact i.masks n hk
    · exact i.masks k hk

theorem keeps_mapSrcs (g : FltSrc → FltSrc) (h : Keeps s0 u)
    (hx : ∀ x, (g x).present = x.present ∧ (g x).maskN = x.maskN ∧ (g x).maskS = x.maskS) : Keeps s0 { u with srcs := u.srcs.map g } := by
  refine h.srcs rfl rfl rfl fun k => ?_
  have e : State.fsrc { u with srcs := u.srcs.map g } k = g (u.fsrc k) := by simp [State.fsrc]
  obtain ⟨h1, h2, h3⟩ := hx (u.fsrc k)
  rw [e, h1, h2, h3]
  exact ⟨id, rfl, rfl⟩

theorem keeps_endHolds (h : Keeps s0 u) : Keeps s0 (endHolds u) := by
  refine keeps_mapSrcs _ h fun x => ?_
  split <;> exact ⟨rfl, rfl, rfl⟩

theorem keeps_endHold (n : Fin 96) (h : Keeps s0 u) : Keeps s0 (endHold n u) := by
  refine keeps_modSrc n _ h fun x => ?_
  split <;> exact ⟨id, rfl, rfl⟩

theorem keeps_ackHolds (h : Keeps s0 u) : Keeps s0 (ackHolds u) := by
  refine keeps_endHolds (keeps_mapSrcs _ h fun x => ?_)
  split <;> exact ⟨rfl, rfl, rfl⟩

theorem keeps_clearFault (n : Fin 96) (h : Keeps s0 u) : Keeps s0 (clearFault n u) :=
  keeps_endHold n (keeps_setPresent n false h (by simp))

/-! ### Plain changes -/

theorem keeps_modCell (ch : Ch) (f : Cell → Cell) (h : Keeps s0 u) : Keeps s0 (u.modCell ch f) := h.plain rfl rfl rfl rfl
theorem keeps_mapCells (f : Ch → Cell → Cell) (h : Keeps s0 u) : Keeps s0 (u.mapCells f) := h.plain (by simp) (by simp) (by simp) (by simp)
theorem keeps_modMd (f : ModeSt → ModeSt) (h : Keeps s0 u) : Keeps s0 (modMd f u) := h.plain rfl rfl rfl rfl
theorem keeps_modSpring (f : Spring → Spring) (h : Keeps s0 u) : Keeps s0 (modSpring f u) := h.plain rfl rfl rfl rfl
theorem keeps_modCas (f : Cas → Cas) (h : Keeps s0 u) : Keeps s0 (modCas f u) := h.plain rfl rfl rfl rfl
theorem keeps_modHp (f : HostPort → HostPort) (h : Keeps s0 u) : Keeps s0 (modHp f u) := h.plain rfl rfl rfl rfl
theorem keeps_drawFree (h : Keeps s0 u) : Keeps s0 u.drawFree := h.plain rfl rfl rfl rfl
theorem keeps_soeWrite (e : SoeEntry) (h : Keeps s0 u) : Keeps s0 (soeWrite e u) := h.plain rfl rfl rfl rfl
theorem keeps_evtRaise (c : Nat) (h : Keeps s0 u) : Keeps s0 (evtRaise c u) := h.plain (by simp) (by simp) (by simp) (by simp)
theorem keeps_decideMode (p : PendMode) (h : Keeps s0 u) : Keeps s0 (decideMode p u) := h.plain (by simp) (by simp) (by simp) (by simp)
theorem keeps_openWindow (b : Block) (h : Keeps s0 u) : Keeps s0 (openWindow b u) := h.plain rfl rfl rfl rfl

/-! ### Blocks and reactions (R420, R421, Table 18-4) -/

theorem keeps_refreshLoss (h : Keeps s0 u) : Keeps s0 (refreshLoss u) := by
  unfold refreshLoss
  dsimp only
  split
  · exact h
  · split
    · exact keeps_decideMode _ (h.plain rfl rfl rfl rfl)
    · exact h.plain rfl rfl rfl rfl

theorem keeps_headgateRestart (h : Keeps s0 u) : Keeps s0 (headgateRestart u) := by
  have g := keeps_mapCells (fun _ c => dropLane u.clk c) h
  unfold headgateRestart
  generalize (u.mapCells fun _ c => dropLane u.clk c) = v at *
  exact g.plain rfl rfl rfl rfl

theorem keeps_securityRestart (h : Keeps s0 u) : Keeps s0 (securityRestart u) :=
  (keeps_endHold 91 (keeps_setPresent 91 false h (by simp))).other rfl rfl rfl ⟨rfl, rfl, rfl, rfl, Nat.le_refl _, Nat.le_refl _⟩

theorem keeps_resetBlock (b : Block) (h : Keeps s0 u) : Keeps s0 (resetBlock u b) := by
  cases b
  · exact keeps_modCell _ _ h
  · exact keeps_headgateRestart h
  · exact h.plain rfl rfl rfl rfl
  · exact keeps_eng _ h id
  · exact h.plain rfl rfl rfl rfl
  · exact h
  · exact keeps_securityRestart h
  · exact h

theorem keeps_onBit (m : BitVec 6) (i : Nat) {f : State → State} (hf : ∀ v, Keeps s0 v → Keeps s0 (f v)) (h : Keeps s0 u) :
    Keeps s0 (onBit m i f u) := by
  unfold onBit
  split
  · exact hf _ h
  · exact h

theorem cellFs_level (ch : Ch) : eventOnly (cellFs ch) = false ∧ (cellFs ch).val ≠ 95 := by revert ch; decide

theorem keeps_taggedEvent (n : Fin 96) (h : Keeps s0 u) : Keeps s0 (taggedEvent n u) := by
  unfold taggedEvent
  have g := keeps_modSrc n (fun f => { f with hist := histEvent u.now u.tq true f.hist }) h fun _ => ⟨id, rfl, rfl⟩
  dsimp only at g ⊢
  generalize (u.modSrc n _) = v at *
  have k := keeps_soeWrite (soeFault ⟨n, 0, true, false, u.now, 0x3F⟩ v)
    (g.plain (t := { v with flt := noteLast ⟨n, 0, true, false, u.now, 0x3F⟩ (v.fsrc n).severe v.flt }) rfl rfl rfl rfl)
  exact keeps_onBit _ 0 (f := reactInt n) (fun w hw => keeps_evtRaise _ hw) k

theorem keeps_laneTagged (ch : Ch) (h : Keeps s0 u) : Keeps s0 (laneTagged u ch) := by
  unfold laneTagged
  dsimp only
  have g := fun f => keeps_setPresent (cellFs ch) true (keeps_modCell ch f h) fun _ => cellFs_level ch
  split
  · exact keeps_taggedEvent _ (g _)
  · exact g _

theorem keeps_headgateFell (l : List Ch) (h : Keeps s0 u) : Keeps s0 (headgateFell l u) := by
  unfold headgateFell diesTagged
  have g := Keeps.foldl (f := laneTagged) (fun v ch hv => keeps_laneTagged ch hv) l h
  exact Keeps.foldl (fun v d hv => keeps_taggedEvent 38
    (keeps_setPresent 38 true (hv.plain (t := { v with flt := { v.flt with dieDown := d :: v.flt.dieDown } }) rfl rfl rfl rfl)
      fun _ => by decide)) _ g

theorem keeps_reactBlk (n : Fin 96) (h : Keeps s0 u) : Keeps s0 (reactBlk n u) := by
  unfold reactBlk
  split
  · exact h
  · split
    · exact h
    · have g := fun b => keeps_openWindow b (keeps_resetBlock b h)
      dsimp only
      refine keeps_refreshLoss ?_
      split
      · exact keeps_headgateFell _ (g _)
      · exact g _

theorem keeps_reactSafe (h : Keeps s0 u) : Keeps s0 (reactSafe u) := by
  unfold reactSafe
  split
  · exact keeps_decideMode _ h
  · exact h

theorem keeps_applyReactions (n : Fin 96) (m : BitVec 6) (inj : Bool) (h : Keeps s0 u) : Keeps s0 (applyReactions n m inj u) := by
  unfold applyReactions
  have h0 : Keeps s0 (if m &&& 3 = 0 then u else u.wakeCore) := by
    split
    · exact h
    · exact keeps_modPwr (fun p => { p with pstate := 0, wakeAt := none }) h id
  dsimp only
  generalize (if m &&& 3 = 0 then u else u.wakeCore) = u at h0
  have h3 := keeps_onBit m 4 (f := reactErr n) (fun v hv => keeps_modSrc n _ hv fun _ => ⟨id, rfl, rfl⟩)
    (keeps_onBit m 1 (f := reactTrap n) (fun v hv => hv.plain rfl rfl rfl rfl) (keeps_onBit m 0 (f := reactInt n) (fun v hv => keeps_evtRaise _ hv) h0))
  generalize onBit m 4 (reactErr n) (onBit m 1 (reactTrap n) (onBit m 0 (reactInt n) u)) = a at h3
  have h4 : Keeps s0 (if inj then a else onBit m 3 (reactChip n) a) := by
    split
    · exact h3
    · exact keeps_onBit m 3 (fun v hv => hv.plain rfl rfl rfl rfl) h3
  generalize (if inj = true then a else onBit m 3 (reactChip n) a) = b at h4
  have h5 : Keeps s0 (if b.flt.chipDecided then b else onBit m 2 (reactBlk n) b) := by
    split
    · exact h4
    · exact keeps_onBit m 2 (fun v hv => keeps_reactBlk n hv) h4
  generalize (if b.flt.chipDecided = true then b else onBit m 2 (reactBlk n) b) = d at h5
  split
  · exact h5
  · exact keeps_onBit m 5 (fun v hv => keeps_reactSafe hv) h5

/-! ### Events (R412 to R423) -/

theorem keeps_classify (e : FaultEv) (g : FltSrc → FltSrc)
    (hg : ∀ x, (g x).present = x.present ∧ (g x).maskN = x.maskN ∧ (g x).maskS = x.maskS) (x : FltSrc) :
    ((classify e (g x)).present = true → x.present = true) ∧ (classify e (g x)).maskN = x.maskN ∧ (classify e (g x)).maskS = x.maskS := by
  obtain ⟨h1, h2, h3⟩ := hg x
  rw [classify_present, classify_maskN, classify_maskS, h1, h2, h3]
  exact ⟨id, rfl, rfl⟩

theorem keeps_handleEvent (e : FaultEv) (h : Keeps s0 u) : Keeps s0 (handleEvent e u) := by
  unfold handleEvent
  split
  · exact h
  · have g := keeps_modSrc e.n _ h (keeps_classify e (fun f => { f with hist := histEvent e.t u.tq e.tagged f.hist }) fun _ => ⟨rfl, rfl, rfl⟩)
    dsimp only at g ⊢
    generalize (u.modSrc e.n _) = v at *
    exact keeps_applyReactions _ _ _ (keeps_soeWrite _ (g.plain rfl rfl rfl rfl))

theorem keeps_raiseFault (n : Fin 96) (d : Nat) (h : Keeps s0 u) : Keeps s0 (raiseFault n d u) := by
  unfold raiseFault
  refine keeps_handleEvent _ ?_
  split
  · exact h
  · exact keeps_setPresent n true h fun _ => by simp_all

theorem keeps_levelFault (n : Fin 96) (a b : Bool) (h : Keeps s0 u) : Keeps s0 (levelFault n a b u) := by
  unfold levelFault
  split
  · exact keeps_raiseFault n 0 h
  · split
    · exact keeps_clearFault n h
    · exact h

/-! ### Cause bits (R145) -/

theorem keeps_refreshCellPresent (ch : Ch) (h : Keeps s0 u) : Keeps s0 (refreshCellPresent ch u) := by
  unfold refreshCellPresent
  split
  · exact keeps_clearFault _ h
  · exact keeps_setPresent _ true h fun _ => cellFs_level ch

theorem keeps_compositeEvent (ch : Ch) (bit : Fin 26) (tagged inj : Bool) (h : Keeps s0 u) : Keeps s0 (compositeEvent ch bit tagged inj u) := by
  unfold compositeEvent
  dsimp only
  split
  · exact keeps_handleEvent _ h
  · split
    · exact h
    · have g := fun e => keeps_modSrc (cellFs ch) _ h (keeps_classify e (fun f => { f with hist := { f.hist with last := some u.now, lastTq := u.tq, tagged := false } }) fun _ => ⟨rfl, rfl, rfl⟩)
      have g := g ⟨cellFs ch, bit.val, tagged, inj, u.now, 0x3F⟩
      dsimp only at g ⊢
      generalize (u.modSrc (cellFs ch) _) = v at *
      exact keeps_applyReactions _ _ _ (g.plain rfl rfl rfl rfl)

theorem keeps_causeEventAs (ch : Ch) (bit : Fin 26) (tagged inj : Bool) (h : Keeps s0 u) :
    Keeps s0 (causeEventAs ch bit tagged inj u) := by
  unfold causeEventAs
  exact keeps_modCell ch _ (keeps_compositeEvent ch bit tagged inj (keeps_modCell ch _ h))

theorem keeps_causeEvent (ch : Ch) (bit : Fin 26) (inj : Bool) (h : Keeps s0 u) : Keeps s0 (causeEvent ch bit inj u) :=
  keeps_causeEventAs ch bit _ inj h

theorem keeps_causePulse (ch : Ch) (bit : Fin 26) (h : Keeps s0 u) : Keeps s0 (causePulse ch bit u) := keeps_causeEvent ch bit false h

theorem keeps_causeOn (ch : Ch) (bit : Fin 26) (h : Keeps s0 u) : Keeps s0 (causeOn ch bit u) := by
  unfold causeOn
  split
  · exact h
  · exact keeps_causeEvent ch bit false (keeps_setPresent _ true (keeps_modCell ch _ h) fun _ => cellFs_level ch)

theorem keeps_causeOff (ch : Ch) (bit : Fin 26) (h : Keeps s0 u) : Keeps s0 (causeOff ch bit u) :=
  keeps_refreshCellPresent ch (keeps_modCell ch _ h)

theorem keeps_condOn (ch : Ch) (bit : Fin 26) (h : Keeps s0 u) : Keeps s0 (condOn ch bit u) := by
  unfold condOn
  dsimp only
  split
  · exact keeps_causeOn ch bit (keeps_modCell ch _ h)
  · exact keeps_modCell ch _ h

theorem keeps_condOff (ch : Ch) (bit : Fin 26) (h : Keeps s0 u) : Keeps s0 (condOff ch bit u) := by
  unfold condOff
  dsimp only
  split
  · exact keeps_causeOff ch bit (keeps_modCell ch _ h)
  · exact keeps_modCell ch _ h

theorem keeps_condSet (ch : Ch) (bit : Fin 26) (b : Bool) (h : Keeps s0 u) : Keeps s0 (condSet ch bit b u) := by
  unfold condSet
  split
  · exact keeps_condOn ch bit h
  · exact keeps_condOff ch bit h

theorem keeps_condPulse (ch : Ch) (bit : Fin 26) (h : Keeps s0 u) : Keeps s0 (condPulse ch bit u) := by
  unfold condPulse
  split
  · exact keeps_causePulse ch bit h
  · exact h

theorem keeps_reportConds (ch : Ch) (h : Keeps s0 u) : Keeps s0 (reportConds ch u) := by
  refine Keeps.foldl (fun v b hv => ?_) _ h
  split
  · exact hv
  · split
    · exact keeps_causeOn ch b hv
    · split
      · exact keeps_causeOff ch b hv
      · exact hv

theorem keeps_closeSource (b : Block) (n : Fin 96) (h : Keeps s0 u) : Keeps s0 (closeSource b u n) := by
  unfold closeSource
  dsimp only
  split
  · exact keeps_handleEvent _ h
  · exact h

theorem keeps_closeBits (b : Block) (ch : Ch) (h : Keeps s0 u) : Keeps s0 (closeBits b u ch) := by
  refine Keeps.foldl (fun v bit hv => ?_) _ h
  dsimp only
  split
  · exact keeps_causeEventAs ch bit false false hv
  · exact hv

theorem keeps_closeWindow (b : Block) (h : Keeps s0 u) : Keeps s0 (closeWindow b u) := by
  unfold closeWindow
  split
  · exact Keeps.foldl (fun v ch hv => keeps_closeBits b ch hv) _
      (Keeps.foldl (fun v n hv => keeps_closeSource b n hv) _ (h.plain rfl rfl rfl rfl))
  · exact h

/-! ### Packets (R371 to R379, R397) -/

theorem keeps_deliver (src : Src) (event : Bool) (ws : List Word) (h : Keeps s0 u) : Keeps s0 (deliver src event ws u) := by
  cases src
  · exact h.plain rfl rfl rfl rfl
  · exact h.other rfl rfl rfl ⟨rfl, rfl, rfl, rfl, Nat.le_refl _, Nat.le_refl _⟩
  · exact h.other rfl rfl rfl ⟨rfl, rfl, rfl, rfl, Nat.le_refl _, Nat.le_refl _⟩
  · exact h
  · exact h.plain rfl rfl rfl rfl

theorem keeps_setAlive (src : Src) (f : AliveSt → AliveSt) (h : Keeps s0 u) : Keeps s0 (setAlive src f u) := h.plain rfl rfl rfl rfl

theorem keeps_acceptPacket (c : Ctx) (h : Keeps s0 u) : Keeps s0 (acceptPacket c u) := keeps_setAlive _ _ h

theorem keeps_answer (c : Ctx) (status : Nat) (ws : List Word) (h : Keeps s0 u) : Keeps s0 (answer c status ws u) := by
  unfold answer
  exact keeps_setAlive _ _ (keeps_deliver _ _ _ h)

theorem keeps_answerFault (c : Ctx) (op reason : Nat) (h : Keeps s0 u) : Keeps s0 (answerFault c op reason u) := keeps_answer c _ _ h

theorem keeps_startOp (c : Ctx) (o : LongOp) (h : Keeps s0 u) : Keeps s0 (startOp c o u) :=
  keeps_answer c _ _ (h.plain rfl rfl rfl rfl)

theorem keeps_opFault (status : Nat) (h : Keeps s0 u) : Keeps s0 (opFault status u) := by
  unfold opFault
  split
  · exact keeps_raiseFault _ _ h
  · exact h

theorem keeps_noteDone (r : CmdRef) (h : Keeps s0 u) : Keeps s0 (noteDone r u) := h.plain rfl rfl rfl rfl

theorem keeps_loadResult (r : CmdRef) (status : Nat) (h : Keeps s0 u) : Keeps s0 (loadResult r status u) := by
  unfold loadResult
  split
  · exact h.plain rfl rfl rfl rfl
  · exact h

theorem keeps_finishOp (r : CmdRef) (status reason : Nat) (ws : List Word) (h : Keeps s0 u) : Keeps s0 (finishOp r status reason ws u) := by
  unfold finishOp
  dsimp only
  split
  · exact keeps_loadResult _ _ <| keeps_opFault _ (keeps_noteDone _ (keeps_deliver _ _ _ (h.plain rfl rfl rfl rfl)))
  · exact h

theorem keeps_finishOpt (r : Option CmdRef) (status reason : Nat) (ws : List Word) (h : Keeps s0 u) :
    Keeps s0 (finishOpt r status reason ws u) := by
  cases r
  · exact h
  · exact keeps_finishOp _ _ _ _ h

theorem keeps_inModes (b : Bool) (c : Ctx) {k : State → State} (hk : ∀ v, Keeps s0 v → Keeps s0 (k v)) (h : Keeps s0 u) :
    Keeps s0 (inModes b c k u) := by
  unfold inModes
  split
  · exact hk _ h
  · exact keeps_answer c _ _ h

theorem keeps_refuseIf (b : Bool) (status : Nat) (c : Ctx) {k : State → State} (hk : ∀ v, Keeps s0 v → Keeps s0 (k v)) (h : Keeps s0 u) :
    Keeps s0 (refuseIf b status c k u) := by
  unfold refuseIf
  split
  · exact keeps_answer c _ _ h
  · exact hk _ h

theorem keeps_withCh (w : Word) (c : Ctx) {k : Ch → State → State} (hk : ∀ ch v, Keeps s0 v → Keeps s0 (k ch v)) (h : Keeps s0 u) :
    Keeps s0 (withCh w c k u) := by
  unfold withCh
  split
  · exact hk _ _ h
  · exact keeps_answer c _ _ h

theorem keeps_noteConfig (src : Src) (h : Keeps s0 u) : Keeps s0 (noteConfig src u) :=
  h.other rfl rfl rfl ⟨rfl, rfl, rfl, rfl, Nat.le_refl _, Nat.le_refl _⟩

end Sys2Proof.Machine
end

