-- ==== Sys2Proof/Tests/Slice0.lean ====
section
/-! SUPPORT. Small tests: an ill-formed term for each check of WellFormed, a few steps whose outcome the manual gives, and for
every statement with hypotheses a state and operands that meet them. -/

namespace Sys2Proof.Tests

open Sys2Proof Sys2Proof.Machine

/-! ### States the tests use -/

/-- The state after reset with one cell changed: cell 5. -/
def cell5 (f : Cell → Cell) : State := State.reset.modCell 5 f

/-- A running cell with a function, its lane UP. -/
def runs (fn : Func) (c : Cell) : Cell :=
  { c with powered := true, running := true, func := fn, cfgFunc := fn, accFunc := fn, joined := true, lane := { c.lane with state := .up } }

/-- The firmware runs in a mode. -/
def mode (m : Mode) (s : State) : State := { s with md := { s.md with mode := m, fwUp := true } }

/-- A source is present or not. -/
def present (n : Fin 96) (s : State) : State := s.modSrc n fun f => { f with present := true }

/-- A packet's context from the host, from the service port, and its command's reference. -/
def hostCtx : Ctx := ⟨.host, 1, 7⟩
def svcCtx : Ctx := ⟨.service, 1, 7⟩
def refOf (op : Nat) : CmdRef := ctxRef hostCtx op

/-- A long command that runs. -/
def running (op : Nat) (arg : Word) (s : State) : State := { s with ops := s.ops ++ [newOp hostCtx op 0 arg] }

/-- Module settings in force. -/
def withNet (l : List (Nat × Int)) (s : State) : State :=
  { s with net := { s.net with cfg := l, applied := true, a := { s.net.a with link := true }, b := { s.net.b with link := true } } }
/-! ### Cells (chapters 7 to 11) -/

/-- A DI cell with debounce times (in 10 µs) and an input state. -/
def di5 (deb : Int) (st raw candOpen : Bool) : State :=
  cell5 fun c => { runs .di c with
    di := { c.di with st := st, raw := raw, candOpen := candOpen }, cfg := [(0x0007010B, deb), (0x0007010C, deb)] }

theorem witness_DiEdges :
    (isDi (di5 1 false false false) 5 = true ∧ ((di5 1 false false false).cell 5).di.test = false ∧
      ((di5 1 false false false).cell 5).di.raw ≠ true ∧ true ≠ ((di5 1 false false false).cell 5).di.st ∧
      ((di5 1 false false false).cell 5).di.candOpen = false ∧
      diDebNs { (di5 1 false false false).cell 5 with di := { ((di5 1 false false false).cell 5).di with raw := true } } ≠ 0) ∧
    (((di5 1 false true true).cell 5).di.raw ≠ false ∧ false = ((di5 1 false true true).cell 5).di.st ∧
      ((di5 1 false true true).cell 5).di.candOpen = true) ∧
    (true ≠ ((di5 0 false false false).cell 5).di.st ∧ ((di5 0 false false false).cell 5).di.candOpen = false ∧
      diDebNs { (di5 0 false false false).cell 5 with di := { ((di5 0 false false false).cell 5).di with raw := true } } = 0) ∧
    (false ≠ ((di5 1 true true true).cell 5).di.st ∧ ((di5 1 true true true).cell 5).di.raw ≠ false ∧
      diDebNs { (di5 1 true true true).cell 5 with di := { ((di5 1 true true true).cell 5).di with raw := false } } ≠ 0) ∧
    diDebNs { (di5 0 true true true).cell 5 with di := { ((di5 0 true true true).cell 5).di with raw := false } } = 0 := by decide

theorem witness_DiTimers :
    (let s := cell5 fun c => { runs .di c with cfg := [(0x00070107, 1), (0x00070108, 1)] }
     isDi s 5 = true ∧ cpar (s.cell 5) 0x00070108 0 = 1 ∧ (s.cell 5).di.st = false ∧ supplyOn (s.cell 5) = true ∧
      (s.cell 5).running = true ∧ (s.cell 5).di.wetIgnore = false ∧
      ({ (s.cell 5) with di := { (s.cell 5).di with wetIgnore := true } } : Cell).di.wetIgnore = true) ∧
    (let s := cell5 (runs .di); (s.cell 5).running = true ∧ supplyOn (s.cell 5) = false) ∧
    isDi State.reset 5 = false ∧ (State.reset.cell 5).running = false ∧ (State.reset.cell 5).di.candOpen = false := by decide

/-- A cell of a switch function with its switch changed. -/
def sw5 (fn : Func) (f : DoSt → DoSt) : State := cell5 fun c => { runs fn c with sw := f c.sw }

theorem witness_SwitchTimers :
    (let s := sw5 .dout fun w => { w with inrush := true }
     isSwCell s 5 = true ∧ (s.cell 5).func = .dout ∧ (s.cell 5).sw.inrush = true ∧ junctionCool (s.cell 5) = true) ∧
    (let s := sw5 .xsd fun w => { w with tPx := 150 * 64 }
     isSwCell s 5 = true ∧ (s.cell 5).func = .xsd ∧ (s.cell 5).sw.inrush = false ∧ junctionCool (s.cell 5) = false) ∧
    (let t (d : Int) := (proxyUpdate 0 { (sw5 .xsd id).cell 5 with dieT := d }).sw.tPx
     175 * 64 ≤ t (175 * 64) ∧ t (175 * 64 - 1) < 175 * 64 ∧ 140 * 64 ≤ t (140 * 64) ∧ t (140 * 64 - 1) < 140 * 64) := by decide

theorem witness_SwitchProtection :
    (let s := sw5 .dout fun w => { w with on := true, band := 0 }
     isSwCell s 5 = true ∧ (s.cell 5).sw.on = true ∧ (s.cell 5).sw.inrush = false ∧ (s.cell 5).sw.thl = false ∧
      junctionHot (s.cell 5) = true ∧ (s.cell 5).func = .dout ∧ (s.cell 5).sw.band = 0) ∧
    (let s := sw5 .xsd fun w => { w with tPx := 165 * 64 - 1 }
     isSwCell s 5 = true ∧ (s.cell 5).sw.on = false ∧ junctionHot (s.cell 5) = false ∧ (s.cell 5).func = .xsd) := by decide

theorem witness_SwitchDiagnosisAndSupervision :
    (let s := cell5 fun c => { runs .xsd c with cfg := [(0x00080117, 1)], sw := { c.sw with deen := false } }
     tcsMayStart { s with clk := 10000000000 } 5 = true ∧ tcsMayStart { s with clk := 9999999999 } 5 = false) ∧
    (let s := sw5 .xsd fun w => { w with tcsRun := true }; isSwCell s 5 = true ∧ (s.cell 5).sw.tcsRun = true) ∧
    ((sw5 .xsd id).cell 5).sw.tcsRun = false ∧
    tcsPass ⟨some 1500, 800, 1200, 10000⟩ = true ∧ tcsPass ⟨some 1501, 800, 1200, 10000⟩ = false := by decide

theorem witness_AnalogueInputChecks :
    (let s := cell5 fun c => { runs .aii c with ai := { c.ai with shuntOpen := true } }
     isAiCell s 5 = true ∧ (s.cell 5).func = .aii ∧ (s.cell 5).ai.shuntOpen = true) ∧
    (let s := cell5 fun c => { runs .aii c with ai := { c.ai with shuntOpen := false } }
     isAiCell s 5 = true ∧ (s.cell 5).ai.shuntOpen = false) ∧
    1000 < (1001 : Int).natAbs ∧ (1000 : Int).natAbs ≤ 1000 ∧ (-100 : Int).natAbs ≤ 100 := by decide

theorem witness_ReferenceCheck :
    (let c := (cell5 (runs .aiv)).cell 5; c.running = true ∧ isAi c.func = true) ∧
    (let c := (cell5 (runs .aoa)).cell 5; c.running = true ∧ c.func = .aoa) ∧
    (let c := (cell5 (runs .aop)).cell 5; c.func = .aop ∧ ({ c with ao := { c.ao with clk := 3 } } : Cell).ao.clk < 4) := by decide

theorem witness_InputTestEnds :
    (let s := cell5 fun c => { runs .di c with di := { c.di with test := true } }
     (s.cell 5).running = true ∧ (s.cell 5).di.test = true ∧ (s.cell 5).func = .di) ∧
    (let s := cell5 fun c => { runs .aiv c with di := { c.di with test := true } }
     (s.cell 5).running = true ∧ (s.cell 5).di.test = true ∧ (s.cell 5).func ≠ .di) := by decide

theorem witness_InjectedSequence :
    (let s := cell5 fun c => { runs .aiv c with
       inj := { c.inj with en := true, running := true, frozen := some 0 }, lane := { (runs .aiv c).lane with trigs := 1 } }
     isAiCell s 5 = true ∧ (s.cell 5).inj.en = true ∧ (s.cell 5).lane.state = .up ∧ 0 < (s.cell 5).lane.trigs ∧
      (s.cell 5).inj.running = true ∧ (s.cell 5).inj.frozen.isSome = true) ∧
    (let s := cell5 (runs .aiv)
     (s.cell 5).inj.frozen = none ∧ (s.cell 5).lane.trigs = 0 ∧ isAiCell s 5 = true ∧ (s.cell 5).inj.running = false ∧
      (injSettle s.clk (s.cell 5).inj).running = false) ∧
    (let j : InjSt := {}; j.pend = none ∧ j.frozen = none ∧ j.ovr = false) := by decide

theorem witness_CurrentOutputProtection :
    (let s := cell5 (runs .aoa)
     isAoCell s 5 = true ∧ (s.cell 5).ao.thlim = false ∧ (s.cell 5).ao.deficit ≠ !(s.cell 5).ao.deficit ∧ (s.cell 5).func = .aoa ∧
      (s.cell 5).ao.applied ≤ 2 * (s.cell 5).ao.iMeas ∧ (s.cell 5).ao.applied < 1000000 ∧ (s.cell 5).src ≠ 1) ∧
    (let s := cell5 fun c => { runs .aoa c with
       src := 1, ao := { c.ao with applied := 1000000, iMeas := 199999, sat := true, thlim := true } }
     isAoCell s 5 = true ∧ (s.cell 5).ao.thlim = true ∧ 1000000 ≤ (s.cell 5).ao.applied ∧ (s.cell 5).ao.iMeas < 200000 ∧
      (s.cell 5).ao.sat = true ∧ 2 * (s.cell 5).ao.iMeas < (s.cell 5).ao.applied ∧ (s.cell 5).src = 1) ∧
    (let s := cell5 (runs .aop); isAoCell s 5 = true ∧ (s.cell 5).func = .aop) := by decide

/-- A cell with a HART exchange at a step. -/
def hart5 (fn : Func) (p : HartPhase) (applied : Int) : State :=
  cell5 fun c => { runs fn c with
    ao := { c.ao with applied := applied }, hart := { c.hart with ex := some ⟨refOf 0x17, p, []⟩ }
    cfg := [(0x000A0109, 1), (0x000A010D, 1)] }

theorem witness_HartExchange :
    (hartAt (hart5 .aop .waitQuiet 3999999) 5 .waitQuiet = true ∧ hartNoCurrent ((hart5 .aop .waitQuiet 3999999).cell 5) = true) ∧
    (hartAt (hart5 .aop .waitQuiet 4000000) 5 .waitQuiet = true ∧ hartNoCurrent ((hart5 .aop .waitQuiet 4000000).cell 5) = false) ∧
    hartAt (hart5 .aoa .transmitting 0) 5 .transmitting = true ∧ hartAt (hart5 .aoa .waitReply 0) 5 .waitReply = true ∧
    hartReceives ((hart5 .aoa .waitReply 0).cell 5) = true ∧ hartType [0x06, 0x80, 0x00, 0x00, 0x86] = 6 ∧
    hartType [0x01, 0x80, 0x00, 0x00, 0x81] = 1 ∧ hartFrameOk [0x01, 0x80, 0x00, 0x00, 0x81] = true ∧
    cpar ((hart5 .aoa .waitReply 0).cell 5) 0x000A010D 0 = 1 ∧ hartReceives (State.reset.cell 5) = false ∧
    hartType [0x02, 0x80, 0x00, 0x00, 0x82] ≠ 6 ∧ hartType [0x02, 0x80, 0x00, 0x00, 0x82] ≠ 1 := by decide

theorem witness_CellPowerAndWatchdog :
    (let c (l : List (Nat × Int)) : Cell := { State.reset.cell 5 with cfgFunc := .dout, cfgPar := l }
     sourceAllowed (c [(0x00080101, 2)]) 1 = true ∧ sourceAllowed (c [(0x00080101, 2)]) 0 = false ∧
      sourceAllowed (c []) 0 = true ∧ sourceAllowed (c []) 1 = false ∧ sourceAllowed (c []) 2 = false ∧
      sourceAllowed (State.reset.cell 5) 2 = true) ∧
    ({ State.reset with pwr := { State.reset.pwr with couplers := true } }).pwr.couplers = true ∧ State.reset.pwr.couplers = false ∧
    (let s := cell5 fun c => { runs .dout c with src := 1 }; (s.cell 5).powered = true ∧ (s.cell 5).src ≠ 0 ∧ (s.cell 5).running = true) ∧
    (let s := cell5 (runs .dout)
     (s.cell 5).src = 0 ∧ (s.cell 5).wd = .normal ∧ (s.cell 5).lane.state = .up ∧ isOut (s.cell 5).func = true) ∧
    ((cell5 fun c => { runs .dout c with wd := .holdover }).cell 5).wd = .holdover ∧ isOut ((cell5 (runs .di)).cell 5).func = false ∧
    rxFrame (laneWire (.out ⟨255, .value, 1⟩) 15) = some (.out ⟨255, .value, 1⟩) ∧
    rxFrame { laneWire (.out ⟨255, .value, 1⟩) 15 with coded := false } = none := by decide +kernel

/-- A calibration entry on its way, and a trim. -/
def calWrite5 : State :=
  cell5 fun c => { runs .aoa c with cal := { c.cal with
    pendW := some ⟨3, true, none, 0, gainOne, 0, 0, [], refOf 0x31⟩, trim := some ⟨refOf 0x33, 0, none, false, 0⟩ } }

theorem witness_CellStatusAndCalibration :
    (let s := cell5 (runs .di)
     (s.cell 5).running = true ∧ (s.cell 5).lane.state = .up ∧ (∀ x, (s.cell 5).lane.up = some x → frameType x.frame = frameType .status)) ∧
    (let o := { newOp hostCtx 0x30 0x20 0x20 with left := 0 }
     let s := { cell5 (runs .di) with ops := [o] }
     (s.ops.find? fun x => x.ref.opcode == 0x30 && x.left == 0) = some o ∧ o.bad = 0) ∧
    (let o := { newOp hostCtx 0x30 0x20 0x20 with left := 0, bad := 0x20 }
     let s := { cell5 (runs .di) with ops := [o] }
     (s.ops.find? fun x => x.ref.opcode == 0x30 && x.left == 0) = some o ∧ o.bad ≠ 0) ∧
    (State.reset.cell 5).cal.pendW = none ∧
    (calWrite5.cell 5).cal.pendW = some ⟨3, true, none, 0, gainOne, 0, 0, [], refOf 0x31⟩ ∧
    (calWrite5.cell 5).cal.trim = some ⟨refOf 0x33, 0, none, false, 0⟩ ∧
    (⟨refOf 0x33, 0, none, false, 0⟩ : TrimSt).writing = false := by decide

/-! ### Lanes (chapter 6) -/

/-- A powered cell that runs no microcode, its lane in a state. -/
def lane5 (st : LaneState) : State := cell5 fun c => { c with powered := true, lane := { c.lane with state := st } }

theorem witness_LaneStates :
    ((lane5 .down).cell 5).powered = true ∧ ((lane5 .down).cell 5).lane.state = .down ∧
    ((lane5 .train).cell 5).lane.state = .train ∧ ((lane5 .up).cell 5).lane.state = .up ∧
    ((lane5 .train).cell 5).lane.state ≠ .up ∧ ((lane5 .up).cell 5).lane.state ≠ .train ∧
    (State.reset.cell 5).powered = false := by decide

/-- A cell whose HELLO comes, with its microcode. -/
def hello5 (run : Bool) (ucode : Nat) : State :=
  cell5 fun c => { c with powered := true, running := run, ucode := ucode, lane := { c.lane with state := .train } }

/-- The core after the HELLO has been taken, before the microcode is looked at. -/
def afterHello (s : State) : State :=
  let s1 := modLane 5 (fun l => { l with state := .up, up := none, upWait := [], tx := none, txHeld := none, fails := 0 }) s.wakeCore
  dieBack 5 (reportConds 5 (causeOff 5 cbLane (if (s.cell 5).rstFlag then helloReset 5 s1 else helloResume 5 s1)))

set_option maxRecDepth 4000 in
theorem witness_HelloBringsLaneUp :
    (((hello5 true 1).cell 5).powered = true ∧ ((hello5 true 1).cell 5).lane.state = .train ∧ microcodeOld (afterHello (hello5 true 1)) 5 = true) ∧
    (microcodeOld (afterHello (hello5 true 0)) 5 = false ∧ ((afterHello (hello5 true 0)).cell 5).running = true) ∧
    ((afterHello (hello5 false 0)).cell 5).running = false ∧
    (((cell5 fun c => { runs .di c with rstFlag := true }).cell 5).lane.state = .up ∧
      ((cell5 fun c => { runs .di c with rstFlag := true }).cell 5).rstFlag = true ∧
      ((cell5 fun c => { runs .di c with rstFlag := false }).cell 5).rstFlag = false) := by decide

/-- A lane with a frame in flight, and with a write under way. -/
def tx5 (f : LaneFrame) (tries : Nat) : State :=
  cell5 fun c => { runs .dout c with lane := { (runs .dout c).lane with
    tx := some ⟨f, 0, tries, 0⟩
    write := some { kind := .config .dout, frames := [f], since := 0, func := .dout, pars := [], ref := none, immediate := false } } }

theorem witness_LaneFramesAndAnswers :
    (if true then ((tx5 (.cfgw 0 1) 1).cell 5).lane.tx else none) = some ⟨.cfgw 0 1, 0, 1, 0⟩ ∧ 1 < attempts (.cfgw 0 1) ∧
    attempts (.cfgw 0 1) ≤ 3 ∧ ((tx5 (.holdover 60) 1).cell 5).lane.tx = some ⟨.holdover 60, 0, 1, 0⟩ ∧
    ((tx5 (.ucode 7) 1).cell 5).lane.tx = some ⟨.ucode 7, 0, 1, 0⟩ ∧
    ((tx5 (.out ⟨1, .hold, 0⟩) 1).cell 5).lane.tx = some ⟨.out ⟨1, .hold, 0⟩, 0, 1, 0⟩ ∧
    ((cell5 (runs .dout)).cell 5).lane.tx = none ∧ ((tx5 (.cfgw 0 1) 1).cell 5).lane.state = .up ∧
    ((cell5 (runs .dout)).cell 5).lane.up = none ∧ ((tx5 (.cfgw 0 1) 1).cell 5).lane.write.isSome = true ∧
    awaited ((tx5 (.cfgw 0 1) 1).cell 5).lane = some ⟨.cfgw 0 1, 0, 1, 0⟩ ∧ ((lane5 .down).cell 5).lane.state ≠ .up ∧
    ((lane5 .down).cell 5).lane.write = none := by decide

theorem witness_CfgaAnswers :
    rxFrame (laneWire (.cfga 0 1 false) 0) = some (.cfga 0 1 false) ∧ rxSeq (laneWire (.cfga 0 1 false) 0) = 0 ∧
    answersFrame 0 1 (.cfgw 0 1) = true ∧ answersFrame 0 2 (.cfgw 0 1) = false ∧ rxSeq (laneWire (.cfga 0 1 true) 17) = 1 ∧
    rxFrame { laneWire (.cfga 0 1 true) 0 with crc := 0 } = none := by decide +kernel

theorem witness_LaneFrameEncoding :
    laneFields (.out ⟨255, .value, -0x80000000⟩) ∧ laneFields (.cfgw 0xFFFF 0) ∧ laneFields .result ∧
    ((⟨0xD0, [], 0, true⟩ : LaneRx).hdr.toNat / 16 ∈ [0x0, 0x7, 0xD, 0xE, 0xF]) ∧
    (⟨0x0F, [], 0, true⟩ : LaneRx).hdr.toNat / 16 ∈ [0x0, 0x7, 0xD, 0xE, 0xF] := by
  refine ⟨?_, ?_, trivial, ?_, ?_⟩ <;> simp [laneFields]

theorem witness_CellConfigurationFrames :
    hears ((cell5 (runs .dout)).cell 5) = true ∧ hears (State.reset.cell 5) = false ∧
    (let r := laneWire (.cfgw 0xF0 2) 3; rxFrame r = some (.cfgw 0xF0 2) ∧ ((cell5 (runs .dout)).cell 5).lane.seqRx ≠ some (rxSeq r) ∧
      ((cell5 fun c => { runs .dout c with lane := { c.lane with seqRx := some 3 } }).cell 5).lane.seqRx = some (rxSeq r)) ∧
    rxFrame (laneWire (.cfgr 0xFFFF) 0) = some (.cfgr 0xFFFF) ∧ rxFrame (laneWire (.apply 1) 0) = some (.apply 1) ∧
    rxFrame (laneWire (.holdover 3600) 0) = some (.holdover 3600) ∧ rxFrame (laneWire (.ucode 511) 0) = some (.ucode 511) ∧
    ((lane5 .up).cell 5).powered = true ∧ ((lane5 .up).cell 5).running = false ∧ ((lane5 .up).cell 5).lane.state = .up ∧
    (0 : Word) = (lane5 .up).fw.cmcCrc ∧ (1 : Word) ≠ (lane5 .up).fw.cmcCrc := by decide +kernel

theorem witness_LaneResultsAndEvents :
    (let s := cell5 fun c => { runs .di c with res := some ⟨1, 0, true, 1, none⟩, cond := 4 }
     (s.cell 5).lane.state = .up ∧ (s.cell 5).res = some ⟨1, 0, true, 1, none⟩ ∧ hasCond (s.cell 5) 2 = true ∧ hasCond (s.cell 5) 3 = false ∧
      (s.cell 5).lane.up = none) ∧
    (let s := cell5 fun c => { runs .di c with lane := { (runs .di c).lane with up := some ⟨.event, 0, 1, 0⟩ } }
     (s.cell 5).res = none ∧ ∀ x, (s.cell 5).lane.up = some x → frameType x.frame = 0x9) ∧ frameType .status ≠ 0x9 := by decide

/-! ### Power and start-up (chapters 3 and 4) -/

/-- A supply and pin state. -/
def power (f : Pwr → Pwr) : State := { State.reset with pwr := f State.reset.pwr }

theorem witness_SupplyAndPresence :
    (let s := power fun p => { p with vsysValid := false }; s.pwr.vsysValid = false ∧ s.pwr.failing = false ∧ 17000 ≤ 17000 ∧ 16999 < 17000) ∧
    (let s := power fun p => { p with vsysValid := false, failing := true }; s.pwr.vsysValid = false ∧ s.pwr.failing = true) ∧
    (let s := State.reset; s.pwr.vsysValid = true ∧ s.pwr.failing = false ∧ isHeld s = false ∧ s.pwr.qack = false) ∧
    (let s := power fun p => { p with qack := true }; s.pwr.vsysValid = true ∧ isHeld s = false ∧ s.pwr.qack = true) ∧
    (let s := power fun p => { p with heldReset := true, presLow := false }
     s.pwr.presLow = false ∧ s.pwr.vsysValid = true ∧ isHeld s = true ∧ s.pwr.failing = false) ∧
    (let s := power fun p => { p with presLow := false }
     s.pwr.presLow = false ∧ isHeld s = false ∧ awaitsPresence s = true ∧ awaitsPresence (mode .m5 s) = false) ∧
    (let s := power fun p => { p with presLow := true }; s.pwr.presLow = true ∧ awaitsPresence s = true) ∧
    (let s := mode .m5 (power fun p => { p with presLow := true })
     s.pwr.presLow = true ∧ awaitsPresence s = false ∧ s.pwr.failing = false ∧ isHeld s = false ∧ s.pwr.qack = false) ∧
    (let s := mode .m5 (power fun p => { p with presLow := true, failing := true })
     s.pwr.presLow = true ∧ awaitsPresence s = false ∧ s.pwr.failing = true) := by decide

theorem witness_PowerFailEnds :
    State.reset.pwr.failing = false ∧
    (let s := power fun p => { p with failing := true, vsysValid := false }; s.pwr.failing = true ∧ s.pwr.vsysValid = false) ∧
    (let s := power fun p => { p with failing := true, vsysValid := true, presLow := true }
     s.pwr.failing = true ∧ s.pwr.vsysValid = true ∧ s.pwr.presLow = true) := by decide

theorem witness_SupplyMonitors :
    (power fun p => { p with vsysValid := false }).pwr.vsysValid = false ∧ monitors (mode .m5 State.reset) = true ∧
    coreOn State.reset = true ∧ State.reset.pwr.vsysValid = true ∧ monitors State.reset = false := by decide

/-- A module at the start of its configuration load, with no packets left. -/
def loadingCfg (bad : Bool) : State :=
  let s := mode .m3 State.reset
  { s with md := { s.md with loading := true, loadBad := bad } }

theorem witness_PowerStatesAndRemoval :
    coreOn State.reset = true ∧ removable Mode.m5 = true ∧ (mode .m5 State.reset).md.pend.contains .removal = false ∧
    removable Mode.m8 = false ∧ (power fun p => { p with qreqLow := true }).pwr.qreqLow = true ∧
    (power fun p => { p with qreqLow := false }).pwr.qreqLow = false ∧ stateFor .m3 5000000 = 4 ∧ stateFor .m5 5000000 = 3 ∧
    stateFor .m5 39999 = 2 ∧ stateFor .m5 1999 = 1 := by decide

set_option maxRecDepth 4000 in
theorem witness_Startup :
    (bootReady (power fun p => { p with presSince := some 0 }) = true ∧ bootReady (mode .m5 State.reset) = false) ∧
    (let s := { State.reset with md := { State.reset.md with bootRom := true } }; firmwareReady s = true) ∧
    firmwareReady State.reset = false ∧
    (let s := mode .m1 State.reset; s.md.mode = .m1 ∧ s.md.fwUp = true ∧ coreOn s = true ∧ s.pwr.failing = false) ∧
    ((mode .m2 State.reset).md.mode = .m2 ∧ calDone (mode .m2 State.reset) = true ∧ (mode .m5 State.reset).md.mode ≠ .m2) ∧
    ((loadingCfg false).md.mode = .m3 ∧ (loadingCfg false).md.loading = true ∧
      (let t := loadStep (loadingCfg false); t.md.mode = .m3 ∧ t.md.loading = true ∧ loadEnded t = true ∧ t.md.loadBad = false) ∧
      (let t := loadStep (loadingCfg true); t.md.mode = .m3 ∧ t.md.loading = true ∧ t.md.loadBad = true) ∧
      loadEnded (loadStep (loadingCfg false |>.modCell 5 fun c => { runs .di c with
        lane := { (runs .di c).lane with write := some { kind := .config .di, frames := [], since := 0, func := .di, pars := [], ref := none, immediate := false } } })) = false) ∧
    (let s := { mode .m4 State.reset with md := { (mode .m4 State.reset).md with armed := 8 } }
     s.md.mode = .m4 ∧ s.md.armedStart = 0 ∧ 8 ≤ s.md.armed) ∧
    ((mode .m4 State.reset).md.armed < 8 ∧ (mode .m3 State.reset).md.loading = false) := by decide

theorem witness_ModuleResets :
    (coreOn State.reset = true ∧ State.reset.pwr.vsysValid = true ∧ State.reset.pwr.failing = false ∧ State.reset.pwr.tripped = false) ∧
    (let s := power fun p => { p with tripped := true, trip := some 5 }; s.pwr.tripped = true ∧ s.pwr.trip = some 5) := by decide

theorem witness_ResetKeepsHistories :
    (coreOn State.reset = true ∧ State.reset.pwr.vsysValid = true ∧ State.reset.pwr.failing = false ∧ State.reset.flt.saved = []) ∧
    (let s := { mode .m11 State.reset with flt := { State.reset.flt with saved := [{}] } }; coreOn s = true ∧ s.flt.saved ≠ []) ∧
    (let s := power fun p => { p with vsysValid := false }; s.pwr.vsysValid = false ∧ s.pwr.failing = false) := by decide

/-! ### Packets (chapter 17) -/

theorem witness_WrongModeAnswers :
    (packetCtx (.sysConfig hostCtx []) = some hostCtx ∧ inModeList (mode .m5 State.reset) (packetModes (.sysConfig hostCtx [])) = false ∧
      (mode .m5 State.reset).md.recovery = false) ∧
    (let s := { mode .m9 State.reset with md := { (mode .m9 State.reset).md with recovery := true } }
     packetCtx (.getInfo hostCtx []) = some hostCtx ∧ inModeList s (packetModes (.getInfo hostCtx [])) = false ∧
      recoveryCommand (.getInfo hostCtx []) = false) := by decide

theorem witness_SystemAndSettingCommands :
    ((mode .m5 State.reset).md.recovery = false ∧ (mode .m5 State.reset).md.mode ≠ .m0) ∧
    setModeStatus (mode .m5 State.reset) [0xF] ≠ stAccepted ∧
    modeTarget [7] = some .m7 ∧ setModeStatus (mode .m5 State.reset) [7] = stAccepted ∧
    opsFull (mode .m5 State.reset) hostCtx = false ∧
    reservedBad 0x00010700#32 0x00FFFF00 = false ∧
    abortTarget hostCtx 0x00010700#32 (running 0x30 0 (mode .m3 State.reset)) = some (newOp hostCtx 0x30 0 0) ∧
    abortTarget hostCtx 0x00010700#32 (mode .m3 State.reset) = none ∧ reservedBad 1#32 1 = false ∧
    (inModeList (mode .m5 State.reset) [2, 3, 4, 5, 6, 7, 9, 10] = true ∧ reservedBad 2#32 3 = false ∧ field 2#32 0 2 ≠ 3) ∧
    (let s := { mode .m8 State.reset with pwr := { State.reset.pwr with reqByCmd := true } }
     s.md.mode = .m8 ∧ reservedBad 3#32 3 = false ∧ field 3#32 0 2 = 3 ∧ cancelAllowed s = true) ∧
    (mode .m3 State.reset).md.mode = .m3 ∧
    pairsApply sysParams (fun _ => true) (mode .m3 State.reset).sys [0x00010000, 0x00040A01, 1] 0 ≠ none ∧
    pairsApply sysParams (fun _ => true) (mode .m3 State.reset).sys [0x00010000, 0x00040A01, 2] 0 = none := by decide

/-- A module in CONFIGURE with a running DO cell, joined or not. -/
def config5 (m : Mode) (fn : Func) (joined : Bool) : State := mode m (cell5 fun c => { runs fn c with joined := joined })

theorem witness_ChannelConfiguration :
    (let s := config5 .m3 .dout false
     inModeList s modesConfig = true ∧ chOf (par [0x205#32] 1) = some 5 ∧ funcOfNum (field (par [0x205#32] 1) 8 4) = some .dout ∧
      .dout = (s.cell 5).accFunc ∧ pairsFit [0x205#32] 0x00000FFF = true ∧
      newConfig (s.cell 5).accFunc (s.cell 5).accPar .dout [0x205#32] = some [] ∧ chInUse s 5 = false ∧ opsFull s hostCtx = false ∧
      loadOk (acceptConfig 5 .dout [] s) = true ∧ cellUp s 5 = false) ∧
    cellUp (config5 .m3 .dout true) 5 = true ∧
    (let s := config5 .m3 .off true
     funcOfNum (field (par [0x005#32] 1) 8 4) = some .off ∧ s.md.mode = .m3 ∧ loadOk (acceptConfig 5 .off [] s) = true) ∧
    (inModeList (config5 .m5 .dout true) modesAll = true ∧ reservedBad 5#32 0xFF = false ∧ chOf 5#32 = some 5) := by decide

theorem witness_ChannelOperations :
    (let s := config5 .m5 .dout true
     chOf (par [0x205#32, 1] 1) = some 5 ∧ inModeList s modesConfig = true ∧ reservedBad (par [0x205#32, 1] 1) 0x3FF = false ∧
      wordCount [0x205#32, 1] 1 (field (par [0x205#32, 1] 1) 8 2 == 2).toNat 1 = true ∧ isOut (s.cell 5).accFunc = true ∧
      failsafeOf (s.cell 5).accFunc 2 1 = some (.value, 1)) ∧
    (let s := config5 .m10 .dout true
     inModeList s [10] = true ∧ chsOf (par [0x105#32, 1] 1) = some [5] ∧ (chsOf (par [0x1FF#32, 1] 1)).isSome = true ∧
      wordCount [0x105#32, 1] 1 1 2 = true ∧
      field (par [0x005#32] 1) 8 2 = 0 ∧ wordCount [0x005#32] 1 0 2 = true ∧ field (par [0x105#32, 1] 1) 8 2 = 1 ∧
      field (par [0x205#32, 1, 0xF] 1) 8 2 = 2 ∧ wordCount [0x205#32, 1, 0xF] 1 2 2 = true ∧
      reservedBad (par [0x205#32, 1, 0xF] 3) 0xF = false ∧ field (par [0x305#32] 1) 8 2 = 3 ∧ isOut (s.cell 5).cfgFunc = true) ∧
    isOut ((config5 .m10 .di true).cell 5).cfgFunc = false ∧
    (let s := config5 .m5 .dout true
     reservedBad (par [5#32, 4] 1) 0xFF = false ∧ [5#32, 4].length = 2 ∧
      reservedBad (par [5#32, 4] 2) (latchOptions (s.cell 5).cfgFunc) = false) := by decide

theorem witness_InputAndHartCommands :
    (let s := config5 .m5 .di true
     chOf (par [5#32] 1) = some 5 ∧ inModeList s modesConfig = true ∧ reservedBad (par [5#32] 1) 0xFF = false ∧ [5#32].length = 1 ∧
      (s.cell 5).cfgFunc = .di ∧ (s.cell 5).cal.busy = false) ∧
    (let s := mode .m5 (cell5 fun c => { runs .aiv c with cal := { c.cal with busy := true } })
     isAi (s.cell 5).cfgFunc = true ∧ (s.cell 5).cal.busy = true) ∧
    (let s := config5 .m5 .aiv true
     inModeList s modesAll = true ∧ reservedBad (par [0x705#32, 0x5555] 1) 0xFFF = false ∧ [0x705#32, 0x5555].length = 2 ∧
      reservedBad (par [0x705#32, 0x5555] 2) 0x7777 = false ∧ isAi (s.cell 5).cfgFunc = true ∧
      field (par [0x705#32, 0x5555] 1) 9 3 ≤ 3 ∧ (∀ i < 4, field (par [0x705#32, 0x5555] 2) (4 * i) 3 ≤ 5) ∧
      (s.cell 5).lane.state = .up) ∧
    ((State.reset.cell 5).lane.state ≠ .up) ∧
    (let s := mode .m5 (cell5 fun c => { runs .aoa c with cfgPar := [(0x000A0109, 1)] })
     inModeList s [4, 5, 6, 7, 9, 10] = true ∧ reservedBad (par [0x5#32, 0x80000000] 1) 0xFF01FF = false ∧
      isAo (s.cell 5).cfgFunc = true ∧ valueIn (funcParams (s.cell 5).cfgFunc) (s.cell 5).cfgPar 0x000A0109 = 1 ∧
      2 = (if bitOf (par [0x5#32, 0x80000000] 1) 8 then 5 else 1) + 1 + field (par [0x5#32, 0x80000000] 1) 16 8 ∧
      [0x5#32, 0x80000000].length = 1 + (2 + 3) / 4 ∧ (∀ b ∈ (([0x5#32, 0x80000000].drop 1).flatMap wordBytes).drop 2, b = 0)) ∧
    (reservedBad (par [0x105#32] 1) 0x1FF = false ∧ bitOf (par [0x105#32] 1) 8 = true ∧ bitOf (par [0x5#32] 1) 8 = false) := by decide

set_option maxRecDepth 8000 in
theorem witness_CalibrationCommands :
    (let s := config5 .m3 .aoa true
     s.md.recovery = false ∧ s.md.mode = .m3 ∧ inModeList s modesNo8 = true ∧ [0x20#32].length = 1 ∧
      (∀ k : Ch, bitOf (par [0x20#32] 1) k.val = true → selfcalBusy s k = false) ∧
      opsFull s hostCtx = false ∧ chOf (par [0x10305#32, 0, 0x40000000, 0, 0] 1) = some 5 ∧
      reservedBad (par [0x10305#32, 0, 0x40000000, 0, 0] 1) 0x1FFFF = false ∧
      entryNum (field (par [0x10305#32, 0, 0x40000000, 0, 0] 1) 8 8) = some 3 ∧ (3 : Fin 6) ≠ 4 ∧
      entryWithin 3 24000 (2 ^ 30) = true ∧ entryWithin 3 24001 (2 ^ 30) = false ∧ (s.cell 5).cal.busy = false ∧ chInUse s 5 = false ∧
      (s.cell 5).cal.entries[3].user = false ∧ bitOf (par [0x305#32] 1) 16 = false ∧ bitOf (par [0x10305#32] 1) 16 = true ∧
      findPart s 0x34 = none) ∧
    (let s := config5 .m5 .aoa true
     inModeList s modesAll = true ∧ reservedBad (par [0x305#32, 0, 240] 1) 0xFFFF = false ∧ [0x305#32, 0, 240].length = 3 ∧
      1 ≤ (par [0x305#32, 0, 240] 3).toNat ∧ (par [0x305#32, 0, 240] 3).toNat ≤ 240 ∧
      (par [0x305#32, 0, 240] 2).toNat < (exportRecord (acceptPacket hostCtx s) 5 3).length) ∧
    (field 0x10000#32 16 8 = [0#32].length ∧ field 0x10000#32 0 16 = 0 ∧ [0#32] ≠ [] ∧ reservedBad 0x10000#32 0xFFFFFF = false ∧
      [0#32].length ≤ 2) ∧
    (let s := mode .m3 (cell5 fun c => { runs .aoa c with cal := { c.cal with busy := true, trim := some ⟨refOf 0x33, 0, none, false, 0⟩ } })
     selfcalBusy s 5 = true ∧ inModeList s [3, 10] = true ∧ reservedBad (par [0x105#32, 0] 1) 0x103FF = false ∧
      wordCount [0x105#32, 0] 1 (trimReads [0x105#32, 0]).toNat 1 = true ∧ (s.cell 5).cal.trim = some ⟨refOf 0x33, 0, none, false, 0⟩ ∧
      field (par [0x105#32, 0] 1) 8 2 = 1 ∧ wordCount [0x5#32] 1 (trimReads [0x5#32]).toNat 1 = true ∧
      wordCount [0x205#32, 0] 1 (trimReads [0x205#32, 0]).toNat 1 = true ∧ wordCount [0x305#32] 1 (trimReads [0x305#32]).toNat 1 = true ∧
      field (par [0x5#32] 1) 8 2 = 0 ∧ field (par [0x205#32, 0] 1) 8 2 = 2 ∧ field (par [0x305#32] 1) 8 2 = 3) := by
  decide

/-- A mirror subscription's definition: two words, the first giving the record's length. -/
def noDef : List Word := [0x00000002, 0]

/-! ### Network, culvert, groups (chapters 13 and 14) -/

/-- The firmware runs with a network mode (0 INDEP single port, 1 INDEP, 2 HSR, 3 PRP) and both links up. -/
def net (m : Int) (md : Mode) : State := withNet [(0x000D0201, m)] (mode md State.reset)

theorem witness_NetworkPortsAndDefinitions :
    (let s := mode .m3 State.reset
     inModeList s [3] = true ∧ pairsApply netParams netOk s.net.cfg [0x00010000, 0x000D0201, 3] 0 = some [(0x000D0201, 3)] ∧
      opRuns s [0x50] = false ∧ opsFull s hostCtx = false ∧
      loadOk { acceptPacket hostCtx s with net := { s.net with cfg := [(0x000D0201, 3)], applied := true } } = true) ∧
    portUsed (net 3 .m5) .b = true ∧ portUp (net 3 .m5) .b = true ∧ (portOf (net 3 .m5).net .b).sgmii = false ∧
    portUsed (net 0 .m5) .b = false ∧ portUp (net 0 .m5) .b = false ∧ netSet (net 3 .m5) 0x000D0207 ≠ 1 ∧
    (let s := modPort .b (fun q => { q with sgmii := true }) (net 3 .m5)
     portUsed s .b = true ∧ (portOf s.net .b).sgmii = true ∧ (portOf s.net .b).link = true) ∧
    (let s := modPort .b (fun q => { q with sgmii := true, link := false }) (net 3 .m5)
     portUsed s .b = true ∧ (portOf s.net .b).link = false) ∧
    (reservedBad 0x13F00#32 0x13F07 = false ∧ field 0x13F00#32 0 3 ≤ 4 ∧ field 0x13F00#32 8 6 < kindCount (field 0x13F00#32 0 3) ∧
      bitOf 0x13F00#32 16 = true ∧ bitOf 0x00000#32 16 = false ∧ findPart (mode .m3 State.reset) 0x52 = none) ∧
    (reservedBad 0x20000#32 0xFFFFFF = false ∧ field 0x20000#32 0 16 = 0 ∧ noDef.length = field 0x20000#32 16 8 ∧ noDef.length ≤ 240 ∧
      field 0x00000002#32 0 16 = noDef.length ∧ noDef.length < field 0x00000003#32 0 16 ∧
      defOk (dropPart .host 0x52 (acceptPacket hostCtx (mode .m3 State.reset))) ⟨0, noDef⟩ 0 = false) ∧
    (inModeList (net 3 .m5) modesAll = true ∧ reservedBad 1#32 1 = false ∧ bitOf 0#32 0 = false ∧ bitOf 1#32 0 = true) ∧
    (let s := { net 3 .m5 with net := { (net 3 .m5).net with gpub := (net 3 .m5).net.gpub.set 3 { defn := some ⟨2, []⟩, first := false } } }
     modePublishes s.md.mode = true ∧ s.net.gpub[3].defn.isSome = true ∧ s.net.gpub[3].first = false ∧ s.net.gpub[4].defn = none) := by decide

/-- A ring frame on NETA. -/
def ring (src : BitVec 48) (toUs : Bool) : RingFrame := ⟨.a, src, 1, toUs, .none, 0, false, [], true, false, 0⟩

theorem witness_RedundancyAndForwarding :
    (redundant (net 2 .m5) = true ∧ (net 2 .m5).net.restarting = false ∧ ((net 2 .m5).fsrc 58).present = false ∧
      ((present 58 (net 2 .m5)).fsrc 58).present = true ∧ redundant (present 58 (net 2 .m5)) = true ∧ redundant (net 1 .m5) = false) ∧
    (netMode (net 2 .m5) = some 2 ∧ portUp (net 2 .m5) .a = true ∧ (ring 9 true).fcsOk = true ∧ (ring 9 true).src.toNat ≠ (net 2 .m5).fw.mac ∧
      isDup (countRx .a (net 2 .m5)) (some (BitVec.append (ring 9 true).src (ring 9 true).seq)) .a (fun e => e.fwd) = false ∧
      portUp (enterDup (some (BitVec.append (ring 9 false).src (ring 9 false).seq)) .a (countRx .a (net 2 .m5))) (otherPort .a) = true ∧
      (ring 0 true).src.toNat = (net 2 .m5).fw.mac ∧ netMode (net 1 .m5) ≠ some 2) ∧
    (let key : BitVec 64 := BitVec.append (ring 9 true).src (ring 9 true).seq
     let s := { net 2 .m5 with net := { (net 2 .m5).net with dups := [{ key := key.toNat, port := .b, verified := true }] } }
     isDup (countRx .a s) (some key) .a (fun e => e.fwd) = true) := by decide

/-- A GOOSE frame on NETA. -/
def goose (p : RxPhase) : GooseFrame :=
  ⟨.a, none, p, 0, 0, none, [], 0, false, false, false, false, 1, 0, 1000, 0, [], []⟩

theorem witness_Subscriptions :
    (portUp (net 1 .m5) (goose .words).port = true ∧ (goose .words).phase = .words ∧
      isDup (net 1 .m5).wakeCore (goose .words).key .a (fun e => e.loc) = false ∧
      (goose (.check true)).phase = .check true ∧ portUp (mode .m5 State.reset) (goose .words).port = false) ∧
    (let s := { net 2 .m5 with net := { (net 2 .m5).net with dups := [{ key := 7, port := .b, verified := true }] } }
     portUp s .a = true ∧ isDup s.wakeCore (some 7) .a (fun e => e.loc) = true) ∧
    (let f : MirrorFrame := ⟨.a, none, .check false, 0, 0, none, []⟩
     portUp (net 1 .m5) f.port = true ∧ isDup (net 1 .m5).wakeCore f.key f.port (fun e => e.loc) = false ∧ f.phase = .check false) ∧
    (let s := modSub (.mirror 15) (fun g => { g with valid := true, limit := 4 }) (modSpring (fun p => { p with tk := 5 }) (net 1 .m5))
     (subOf s (.mirror 15)).valid = true ∧ (subOf s (.mirror 15)).limit < s.spring.tk) ∧
    (subOf (net 1 .m5) (.mirror 15)).valid = false := by decide

/-- Management enabled with an owner. -/
def managed : State :=
  let s := withNet [(0x000D0201, 1), (0x000D020C, 1)] (mode .m5 State.reset)
  { s with fw := { s.fw with owner := some [] } }

theorem witness_ManagementAccess :
    (mgmtPort managed .a = true ∧ mgmtUp managed = true ∧ managed.fw.owner.isSome = true ∧ managed.fw.loopOpen = false ∧
      (managed.net.hsTimes.filter fun t => decide (managed.clk < t + 1000000000)).length < 8 ∧
      (⟨0, 1, 0⟩ : HsPart).idx = 0 ∧ (⟨0, 1, 0⟩ : HsPart).count = 1 ∧ (⟨0, 1, 0⟩ : HsPart).session = 0) ∧
    (mgmtPort State.reset .a = false ∧ mgmtUp State.reset = false ∧ State.reset.fw.owner = none ∧ State.reset.net.hs = none) ∧
    (let s := { managed with net := { managed.net with hs := some ⟨4, 0, [0, 1]⟩ } }
     s.net.hs = some ⟨4, 0, [0, 1]⟩ ∧ (⟨2, 3, 4⟩ : HsPart).session = 4 ∧ (⟨2, 3, 4⟩ : HsPart).idx < 3 ∧ s.fw.owner ≠ none ∧ s.fw.loopOpen = false ∧
      s.clk < 0 + 2000000000 ∧ [0, 1].contains 2 = false ∧ [0, 1].length = 2 ∧ [0].length < 2 ∧ s.net.hs.isSome = true) ∧
    sessionOver 60000000000 { id := 4, seq := 3, count := 0 } = true ∧ sessionOver 59999999999 { id := 4, seq := 3, count := 0 } = false := by decide

/-- An enabled culvert in a state, with a role; the straps give the index, 8 for CAS_M low. -/
def culvert (state role straps : Nat) : State :=
  let s := mode .m5 State.reset
  { s with cas := { s.cas with cfg := [(0x000E0101, 1)], state := state, role := role }, pwr := { s.pwr with straps := straps } }

theorem witness_CulvertTrainingAndMastership :
    (casOn (culvert 1 2 8) = true ∧ casOn State.reset = false ∧
      casConflict (ownReport (culvert 1 2 8) :: [⟨1, true, 0⟩]) (culvert 1 2 8).spring.code = true ∧
      casConflict (ownReport (culvert 1 2 8) :: [⟨1, false, (culvert 1 2 8).spring.code⟩]) (culvert 1 2 8).spring.code = false ∧
      ((culvert 1 2 8).fsrc 73).present = false ∧ ((present 73 (culvert 1 2 8)).fsrc 73).present = true ∧ casOn (present 73 (culvert 1 2 8)) = true ∧
      casConflict (ownReport (present 73 (culvert 1 2 8)) :: [⟨1, true, 0⟩]) (present 73 (culvert 1 2 8)).spring.code = true) ∧
    ((culvert 2 0 1).cas.state = 2 ∧ (culvert 2 0 1).cas.role ≠ 1 ∧ casIdx (culvert 2 0 1) = 1 ∧ (culvert 2 0 1).cas.noBkp = false) ∧
    ((culvert 2 0 2).cas.state = 2 ∧ casIdx (culvert 2 0 2) ≠ 1 ∧ (culvert 1 2 8).cas.state = 1 ∧ (culvert 0 0 8).cas.state ≠ 2) ∧
    ((culvert 2 1 1).cas.role = 1 ∧ casDefined (culvert 2 1 1) = false ∧ (culvert 2 1 1).cas.reclaim = none ∧
      casDefined (culvert 2 1 8) = true ∧ (culvert 2 1 8).cas.doubleM = false) ∧
    (modCas (fun c => { c with reclaim := some (refOf 0x60) }) (culvert 2 0 8)).cas.reclaim = some (refOf 0x60) := by decide

theorem witness_CulvertConfigurationAndImages :
    (inModeList (culvert 2 0 8) modesAll = true ∧ bitOf 0x80000000#32 31 = true ∧ reservedBad 0x80000000#32 0x80000000 = false) ∧
    (let s := mode .m3 State.reset
     let ws := [0x00010000#32, 0x000E0101, 1]
     inModeList s [3] = true ∧ bitOf (par ws 1) 31 = false ∧ pairsFit ws 0 = true ∧
      ((pairsOf (ws.drop 1)).any fun x => x.1 == 0x000E0104) = false ∧ checkPairs casParams (pairsOf (ws.drop 1)) = some [(0x000E0101, 1)] ∧
      mapOk s s.cas.map = true ∧ mapOk s [0xFFFFFFFF] = false ∧ pairsFit [0x00010000#32] 0 = false) ∧
    ((pairsOf ([0x00010000#32, 0x000E0104, 0].drop 1)).any fun x => x.1 == 0x000E0104) = true ∧
    State.reset.cas.state ≠ 2 ∧
    (let s := culvert 2 0 8
     s.cas.state = 2 ∧ (0 : Fin 8).val = imgSender ⟨.words, []⟩ ∧ imgCode ⟨.check true, []⟩ = s.spring.code ∧
      imgCode ⟨.check true, List.replicate 128 0xFFFFFFFF⟩ ≠ s.spring.code ∧ (s.fsrc 73).present = false ∧
      (⟨.check false, []⟩ : CasImage).phase = .check false ∧ (false && true) = false) := by decide

/-- A worker list with worker 62. -/
def manager : State :=
  let s := mode .m5 State.reset
  { s with grp := { s.grp with workers := [{ num := 62, batch := 0, culvert := false, casIdx := 0, udpPort := 0, serial := 0, ip := 0 }] } }

/-- A packet with no parameters and its CRC. -/
def packet0 (h : Word) : List Word := [h, crc32c [h]]

set_option maxRecDepth 4000 in
theorem witness_GroupActions :
    (inModeList (mode .m3 State.reset) [3] = true ∧ reservedBad 2#32 0x103 = false ∧ field 2#32 0 2 = 2 ∧ bitOf 2#32 8 = false ∧
      field 1#32 0 2 = 1 ∧ (List.replicate 11 1#32).length = 11 ∧ field 0#32 0 2 = 0 ∧ workersOf [] = some [] ∧
      noRepeat ([] : List Nat) = true) ∧
    (inModeList manager modesNo8 = true ∧ carriedOk (packet0 0x01000000) = true ∧ namedWorkers 0 0x40000000 = [62] ∧
      (∀ n ∈ namedWorkers 0 0x40000000, (findWorker manager n).isSome = true) ∧ bitOf 0x40000000#32 31 = false ∧
      ([0x90, 0x91, 0x95, 0x61].contains (field ((packet0 0x01000000).headD 0) 24 8) ||
        decide (0xF0 ≤ field ((packet0 0x01000000).headD 0) 24 8)) = false ∧
      ([0x90, 0x91, 0x95, 0x61].contains (field ((packet0 0x95000000).headD 0) 24 8) ||
        decide (0xF0 ≤ field ((packet0 0x95000000).headD 0) 24 8)) = true ∧
      reservedBad 0#32 3 = false ∧ bitOf 0#32 0 = false ∧ bitOf 0#32 1 = false ∧ manager.grp.act = none ∧ opsFull manager hostCtx = false) ∧
    (let a : GroupAct := ⟨refOf 0x62, .commit, true, true, 0, [], [62], [62], [], 0⟩
     ({ manager with grp := { manager.grp with act := some a } }).grp.act = some a ∧ a.step = .commit ∧ GroupStep.prepare ≠ .commit) ∧
    (({ manager with grp := { manager.grp with managed := true } }).grp.managed = true ∧ manager.grp.managed = false) ∧
    ((findWorker manager (62 : Fin 63).val).isSome = true ∧ (manager.fsrc 74).present = false ∧ findWorker State.reset 62 = none ∧
      ((present 74 manager).fsrc 74).present = true ∧ (findWorker (present 74 manager) 62).isSome = true) := by decide

/-! ### Time (chapter 5) -/

/-- The spring in a state. -/
def spring (st : SpringState) : State :=
  let s := mode .m5 State.reset
  { s with spring := { s.spring with state := st } }

/-- Time settings in force. -/
def ptp (l : List (Nat × Int)) : State :=
  let s := net 1 .m5
  { s with net := { s.net with ptp := l } }

theorem witness_SpringStates :
    (spring .locked).spring.state = .locked ∧ (spring .unsync).spring.state = .unsync ∧ (spring .freerun).spring.state = .freerun ∧
    (spring .acquiring).spring.state = .acquiring ∧
    (modSpring (fun p => { p with acqFrom := .holdover }) (spring .acquiring)).spring.acqFrom = .holdover ∧
    (modSpring (fun p => { p with acqFrom := .unsync }) (spring .acquiring)).spring.acqFrom ≠ .holdover ∧
    (let s := spring .holdover
     s.spring.state = .holdover ∧ holdEstMicro s.spring ≤ holdErrNs s * 1000000) ∧
    (let s := { spring .holdover with spring := { (spring .holdover).spring with holdSecs := 10000000 } }
     s.spring.state = .holdover ∧ holdErrNs s * 1000000 < holdEstMicro { s.spring with holdSecs := s.spring.holdSecs + 1 }) ∧
    (modSpring (fun p => { p with pendStep := some (-5) }) (spring .locked)).spring.pendStep = some (-5) ∧
    stackFollow (spring .locked) = false ∧ stackFollow { culvert 2 0 1 with cas := { (culvert 2 0 1).cas with localT := false } } = true ∧
    (spring .locked).spring.pendStep = none ∧
    (modSpring (fun p => { p with pendSlew := true }) (spring .locked)).spring.pendSlew = true ∧
    ((modSpring (fun p => { p with slewing := true, remain := 0 }) (spring .locked)).spring.slewing = true ∧
      (modSpring (fun p => { p with slewing := true, remain := 5 }) (spring .locked)).spring.remain ≠ 0) := by decide

theorem witness_ModuleTimeAdvances :
    State.reset.pending = [] ∧ State.reset.pwr.vsysValid = true ∧ State.reset.pwr.tripped = false ∧
    State.reset.spring.slewing = false ∧ State.reset.spring.freq = 0 ∧ State.reset.spring.frac < 1000000000 ∧
    (modSpring (fun p => { p with slewing := true, slewLeft := -3 }) State.reset).spring.slewing = true ∧ 0 ≤ slewPpm State.reset ∧
    (power fun p => { p with vsysValid := false }).pwr.vsysValid = false := by decide

theorem witness_PrecisionTime :
    (let s := modPort .a (fun q => { q with role := psSlave }) (ptp [])
     (portOf s.net .a).role = psSlave ∧ ptpPort s .a = true ∧ timeSrc s = 0) ∧
    (let s := modPort .a (fun q => { q with role := psSlave }) (ptp [(0x00050601, 2)])
     (portOf s.net .a).role = psSlave ∧ ptpPort s .a = true ∧ timeSrc s ≠ 0) ∧
    ptpPort State.reset .a = false ∧ ((0 : Nat) : Int) = ptpSet (ptp []) 0x000D0302 := by decide

theorem witness_SyncInputAndCalendar :
    (ptpSet (ptp [(0x00050D01, 1), (0x00050601, 1)]) 0x00050D01 = 1 ∧ timeSrc (ptp [(0x00050D01, 1), (0x00050601, 1)]) = 1 ∧
      ((ptp [(0x00050D01, 1), (0x00050601, 1)]).fsrc 51).present = false) ∧
    (ptpSet (ptp [(0x00050D01, 1)]) 0x00050D01 = 1 ∧ timeSrc (ptp [(0x00050D01, 1)]) ≠ 1) ∧
    (ptpSet (ptp [(0x00050D01, 2)]) 0x00050D01 = 2 ∧ true = (ptpSet (ptp [(0x00050D01, 2)]) 0x00050D02 == 0) ∧
      ptpSet (ptp []) 0x00050D01 ≠ 1 ∧ ptpSet (ptp []) 0x00050D01 ≠ 2) ∧
    State.reset.pwr.vsysValid = true ∧ (State.reset.fsrc 53).present = false ∧ ((present 53 State.reset).fsrc 53).present = true ∧
    State.reset.spring.freq.natAbs ≤ 90000 := by decide

theorem witness_TimeCommands :
    (let s := mode .m3 State.reset
     inModeList s [3] = true ∧ reservedBad 7#32 7 = false ∧ opsFull s hostCtx = false ∧ s.spring.next = none ∧ field 7#32 0 3 ≠ s.spring.code ∧
      field (BitVec.ofNat 32 s.spring.code) 0 3 = s.spring.code) ∧
    (let s := modSpring (fun p => { p with next := some ⟨7, 0, some (refOf 7)⟩, ticked := true, tk := 1000000000 }) (mode .m3 State.reset)
     s.spring.next = some ⟨7, 0, some (refOf 7)⟩ ∧ s.spring.ticked = true ∧ s.spring.stretched = false ∧ onGrid 7 s.spring.tk = true ∧
      0 + 20000 ≤ s.spring.tk ∧ onGrid 7 (s.spring.tk + 1) = false) ∧
    (let o := newOp hostCtx 0x07 0 0
     opsFull { mode .m3 State.reset with ops := List.replicate 8 o } hostCtx = true) ∧
    pairsApply ptpParams ptpOk State.reset.net.ptp [0x00010000, 0x00050605, 100] 0 = some [(0x00050605, 100)] ∧
    pairsApply ptpParams ptpOk State.reset.net.ptp [0x00010000, 0xFFFFFFFF, 100] 0 = none ∧
    (tsParse 0x475BCD15 0x1A13B869 = some (some 1750000037123456789) ∧ reservedBad 0x10000#32 0x1FFFF = false ∧
      inModeList (spring .unsync) modesAll = true ∧ (spring .unsync).spring.state = .unsync ∧ bitOf 0#32 16 = false ∧
      bitOf 0x10000#32 16 = true ∧ tsParse 0xFFFFFFFF 0xFFFFFFFF = some none) ∧
    ((spring .locked).spring.state ≠ .unsync ∧ (spring .locked).spring.state ≠ .freerun) := by decide

/-! ### Frame and engine (chapters 5 and 12) -/

theorem witness_FrameStart :
    ticking State.reset = false ∧ ticking (mode .m5 State.reset) = true ∧ (mode .m5 State.reset).spring.launched = false ∧
    (modSpring (fun p => { p with launched := true }) (mode .m5 State.reset)).spring.launched = true ∧
    (let s := modSpring (fun p => { p with ticked := true }) (mode .m5 State.reset)
     ticking s = true ∧ s.spring.ticked = true ∧ stackFollow s = false) ∧
    (((cell5 fun c => { c with hiz := some 0, newFunc := some .dout }).cell 5).hiz = some 0 ∧
      fsCrcOk (startFunction ((cell5 fun c => { c with hiz := some 0, newFunc := some .dout }).cell 5)).fs = true) ∧
    fsCrcOk (startFunction ((cell5 fun c => { c with hiz := some 0, newFunc := some .dout, fs := { func := .dout, crc := 0 } }).cell 5)).fs = false ∧
    (State.reset.cell 5).hiz ≠ some 0 := by decide +kernel

theorem witness_FrameStart_engine :
    (let s1 := frameSwitch (releaseEngine (expireSubs (goodCount 32 1000 true (allCh.foldl missingResult (mode .m5 State.reset)))))
     s1.eng.running = false) := by decide +kernel

/-- A program with nothing to do, for a TICK code. -/
def program (code : Nat) : Program :=
  { code := code, progId := 0, ver := 0, bind := 0, figures := [], binding := [], main := [], replay := [], dep := [], deferred := [], states := [],
    init := [], carry := [], carryBlk := [] }

/-- The engine in a frame whose cutoff has not come. -/
def engine (f : Engine → Engine) : State :=
  let s := modSpring (fun p => { p with tk := 1000000000 }) (mode .m5 State.reset)
  { s with eng := f { s.eng with active := some (program 0), running := true, window := true } }

theorem witness_EngineAndCommit :
    (let s := engine fun e => e
     s.eng.active = some (program 0) ∧ s.eng.window = true ∧ s.eng.firstDone = false ∧ afterCutoff s = false ∧
      noneSpeculative s.eng = true ∧ ∀ r ∈ s.eng.rems, r.want = r.use) ∧
    (let s := engine fun e => { e with firstDone := true, pass := true }; s.eng.firstDone = true ∧ s.eng.pass = true ∧ afterCutoff s = false) ∧
    afterCutoff (modSpring (fun p => { p with tk := 0, mtNs := 1000000000 }) (engine fun e => e)) = true ∧
    State.reset.eng.active = none ∧ ticking (mode .m7 State.reset) = true ∧ modeEngineRuns (mode .m7 State.reset).md.mode = false ∧
    (let s := engine fun e => { e with haveV := true }
     ticking s = true ∧ modeEngineRuns s.md.mode = true ∧ s.eng.running = true ∧ s.eng.window = true ∧ s.eng.haveV = true ∧ s.eng.eccBad = false) ∧
    canCommit (engine fun e => e) = false ∧ startedMidFrame (engine fun e => e) = false ∧
    (let s := engine fun e => { e with window := false, fresh := true }
     startedMidFrame { s with ti := { s.ti with work := { s.ti.work with tk := some s.spring.tk } } } = true) := by decide

/-! ### Programs, images, records (chapters 12, 19 and 20) -/

/-- LGP slot A (number 2) in a state. -/
def lgpSlot (m : Mode) (st : BitVec 4) : State :=
  let s := mode m State.reset
  { s with fw := { s.fw with slots := s.fw.slots.set 2 { state := st } } }

theorem witness_LogicPrograms :
    (inModeList (lgpSlot .m3 1) modesNo8 = true ∧ reservedBad 0#32 1 = false ∧ opRuns (lgpSlot .m3 1) [0x40, 0x41] = false ∧
      opRuns (running 0x40 0 (mode .m3 State.reset)) [0x40, 0x41] = true ∧
      opsFull (lgpSlot .m3 1) hostCtx = false ∧ slotVerified (slotOf (lgpSlot .m3 1) (2 + field 0#32 0 1)) = false ∧
      slotVerified (slotOf (lgpSlot .m3 2) (2 + field 0#32 0 1)) = true) ∧
    opByCode (running 0x40 0 (mode .m3 State.reset)) 0x40 = some (newOp hostCtx 0x40 0 0) ∧ opByCode (mode .m3 State.reset) 0x40 = none ∧
    (inModeList (mode .m7 State.reset) [3, 4, 7] = true ∧ (mode .m7 State.reset).eng.staged = none) ∧
    (let s := { mode .m7 State.reset with eng := { State.reset.eng with staged := some (program 0) } }
     s.eng.staged = some (program 0) ∧ onlineOk s false (program 0) = true ∧ (program 0).code = s.spring.code ∧ (program 1).code ≠ s.spring.code ∧
      recheckOk s (program 0) = true ∧ s.eng.running = false) ∧
    (let s := { mode .m7 State.reset with eng := { State.reset.eng with staged := some (program 0), running := true } }
     recheckOk s (program 0) = true ∧ s.eng.running = true) ∧
    (inModeList (mode .m5 State.reset) [5, 6, 10] = true ∧ bitOf 1#32 0 = true ∧ onlineOk (mode .m5 State.reset) true (program 0) = false) ∧
    inModeList (mode .m1 State.reset) [1, 2, 3, 4, 5, 6, 7, 8, 9, 10] = true ∧
    (let s := engine fun e => e
     inModeList s modesAll = true ∧ s.eng.active.isSome = true ∧ reservedBad 0x1FFF0000#32 0x1FFF0003 = false ∧
      (varValues s (field 0x1FFF0000#32 0 2) (field 0x1FFF0000#32 16 13) (1#32).toNat).isSome = true ∧
      varValues s (field 0x1FFF0000#32 0 2) (field 0x1FFF0000#32 16 13) (2#32).toNat = none) := by decide

/-- A service transfer of an LGP image into slot 3. -/
def transfer : State :=
  let s := mode .m9 State.reset
  { s with fw := { s.fw with xfer := some ⟨1, 3, 128, []⟩ } }

set_option maxRecDepth 100000 in
theorem witness_FirmwareImagesAndOwner :
    (let s := mode .m9 State.reset
     let ws := [1#32, 0x80000]
     imgModes s .service [9] (field (par ws 1) 0 2) = true ∧ reservedBad (par ws 1) 3 = false ∧ ws.length = 2 ∧ (par ws 2).toNat % 4096 = 0 ∧
      hostCtx.src ≠ .service ∧ svcCtx.src = .service ∧ field (par ws 1) 0 2 = 1 ∧ (par ws 2).toNat / 4096 ≤ slotBlocks 1 ∧
      slotBlocks 1 < (0x81000#32).toNat / 4096 ∧ (0x81000#32).toNat % 4096 = 0 ∧ s.fw.trial = false) ∧
    (let s := { mode .m9 State.reset with fw := { State.reset.fw with trial := true } }
     s.fw.trial = true ∧ s.fw.bootCfw = s.fw.actCfw ∧ field (par [0#32, 0x80000] 1) 0 2 = 0) ∧
    (transfer.fw.xfer = some ⟨1, 3, 128, []⟩ ∧ imgModes transfer .service [9] ((transfer.fw.xfer.map fun x => x.ty).getD 0) = true ∧
      (par [127#32, 0] 1).toNat < 128 ∧ reservedBad (par [127#32, 0] 2) 0xFFFFFF = false ∧ (mode .m9 State.reset).fw.xfer = none) ∧
    (imgModes (lgpSlot .m3 2) .host modesNo8 1 = true ∧ reservedBad (par [0x001#32] 1) 0x103 = false ∧ [0x001#32].length = 1 ∧
      opRuns (lgpSlot .m3 2) [0x92, 0x93] = false ∧ opsFull (lgpSlot .m3 2) hostCtx = false) ∧
    opByCode (running 0x92 1 (mode .m3 State.reset)) 0x92 = some (newOp hostCtx 0x92 0 1) ∧ opByCode (mode .m3 State.reset) 0x92 = none ∧
    (let s := lgpSlot .m3 2
     imgModes s .host [3, 7, 9] 1 = true ∧ slotVerified (slotOf (lgpSlot .m3 1) 2) = false ∧ slotVerified (slotOf s 2) = true ∧
      (slotDigest s 2).take 4 ≠ [1#32, 0, 0, 0, 0].drop 1 ∧ (1 :: (slotDigest s 2).take 4).length = 5 ∧ field (par [1#32, 0, 0, 0, 0] 1) 0 2 = 1) ∧
    (inModeList (mode .m9 State.reset) [9] = true ∧ reservedBad (par [0#32] 1) 0xFFFFFF = false) ∧
    (let s := { mode .m5 State.reset with fw := { State.reset.fw with report := some [0] } }
     inModeList s modesAll = true ∧ s.fw.reportCtx.isSome = false ∧ reservedBad (par [1#32, 0, 240] 1) 1 = false ∧ [1#32, 0, 240].length = 3 ∧
      bitOf (par [1#32, 0, 240] 1) 0 = true ∧ s.fw.report = some [0] ∧ 1 ≤ (par [1#32, 0, 240] 3).toNat ∧ (par [1#32, 0, 240] 3).toNat ≤ 240 ∧
      (par [1#32, 0, 240] 2).toNat < [0#32].length) ∧
    ((List.replicate 9 0#32).length = 9 ∧ bitOf (par (List.replicate 9 0#32) 1) 0 = false ∧ opsFull (mode .m5 State.reset) hostCtx = false) ∧
    (let s := { mode .m5 State.reset with fw := { State.reset.fw with reportCtx := some (refOf 0x94) } }; s.fw.reportCtx = some (refOf 0x94)) ∧
    State.reset.fw.reportCtx = none := by decide +kernel

/-- An open record, and a held one in slot 1. -/
def recording (post : Nat) : State :=
  let s := mode .m5 State.reset
  { s with recs := { s.recs with opened := some { num := 7 }, post := post, sums := [{ num := 6, held := true, slot := 1 }] } }

theorem witness_RecordsAndLifeCounters :
    (let s := mode .m3 State.reset
     let cfg := [(0x00130301, 1)]
     inModeList s [3] = true ∧ pairsApply recParams recOk s.recs.cfg [0x00010000, 0x00130301, 1] 0 = some cfg ∧
      loadOk (noteConfig hostCtx.src { acceptPacket hostCtx s with recs := { s.recs with cfg := cfg } }) = true ∧
      valueIn recParams cfg 0x00130302 = valueIn recParams s.recs.cfg 0x00130302 ∧
      valueIn recParams cfg 0x00130303 = valueIn recParams s.recs.cfg 0x00130303 ∧
      valueIn recParams cfg 0x00130304 = valueIn recParams s.recs.cfg 0x00130304) ∧
    (let s := mode .m3 State.reset
     let cfg := [(0x00130302, 2)]
     pairsApply recParams recOk s.recs.cfg [0x00010000, 0x00130302, 2] 0 = some cfg ∧
      loadOk (noteConfig hostCtx.src { acceptPacket hostCtx s with recs := { s.recs with cfg := cfg } }) = true ∧
      valueIn recParams cfg 0x00130302 ≠ valueIn recParams s.recs.cfg 0x00130302) ∧
    (inModeList (mode .m5 State.reset) [4, 5, 6, 7, 10] = true ∧ reservedBad 15#32 0xF = false) ∧
    ((recording 0).recs.opened = some { num := 7 } ∧ (recording 0).recs.post = 0 ∧ State.reset.recs.opened = none) ∧
    (let s := recording 0
     inModeList s modesAll = true ∧ reservedBad (par [6#32, 0, 240] 1) 0xFFFF = false ∧ 1 ≤ (par [6#32, 0, 240] 3).toNat ∧
      (par [6#32, 0, 240] 3).toNat ≤ 240 ∧ field (par [0#32, 0, 240] 1) 0 16 = 0 ∧ field (par [6#32, 0, 240] 1) 0 16 ≠ 0 ∧
      (heldSums s).find? (fun x => x.num == field (par [6#32, 0, 240] 1) 0 16) = some { num := 6, held := true, slot := 1 } ∧
      (∀ r ∈ s.recs.sums, r.held = true → r.num ≠ field (par [5#32, 0, 240] 1) 0 16)) ∧
    (reservedBad 1#32 1 = false ∧ reservedBad 0xFF#32 0xFF = false ∧ field 0xFF#32 0 8 = 0xFF ∧ chOf 31#32 = some 31) := by decide

theorem witness_MemoryRead :
    State.reset.scrub[1].bad = [] ∧
    (match exec (.memoryEccError .mram 8 true) State.reset with | .next s => decide (s.scrub[1].bad ≠ []) | _ => false) = true ∧
    (State.reset.cell 5).lane.state ≠ .up ∧ ((cell5 (runs .di)).cell 5).lane.state = .up ∧ (recording 1).recs.post ≠ 0 := by decide +kernel

/-! ### Faults, host port, other transports (chapters 15, 16 and 18) -/

theorem witness_FaultDetectorsAndHolds :
    (coreOn State.reset = true ∧ coreOn (power fun p => { p with heldReset := true }) = false ∧ (State.reset.xing[1]).stopped = false ∧
      (modXing 1 (fun x => { x with stopped := true, satF := true }) State.reset).xing[1].stopped = true ∧
      (modXing 1 (fun x => { x with stopped := true, satF := true }) State.reset).xing[1].satF = true ∧
      (modXing 1 (fun x => { x with stopped := true }) State.reset).xing[1].lossSeen = false ∧
      (modXing 1 (fun x => { x with stopped := true, lossSeen := true }) State.reset).xing[1].lossSeen = true ∧
      (1 : Fin 8).val ≠ 2 ∧ (1 : Fin 8).val ≠ 4 ∧ (State.reset.xing[2]).stopped = false) ∧
    (State.reset.flt.settle.any fun w => w.block == Block.network) = false ∧
    (({ State.reset with flt := { State.reset.flt with settle := [⟨.network, 0⟩] } }).flt.settle.any fun w => w.block == Block.network) = true ∧
    (let s := State.reset.modSrc 44 fun f => { f with holdFrom := some 0 }
     (s.fsrc 44).holdFrom.isSome = true ∧ (s.fsrc 44).present = false ∧ (s.fsrc 44).holdAcked = false) ∧
    (let s := { State.reset.modSrc 44 (fun f => { f with holdFrom := some 0, present := true, holdAcked := true }) with
       flt := { State.reset.flt with errLatch := true } }
     (s.fsrc 44).holdFrom.isSome = true ∧ (s.fsrc 44).present = true ∧ (s.fsrc 44).holdAcked = true ∧ s.flt.errLatch = true) := by decide

theorem witness_FaultAndServiceCommands :
    (let s := mode .m3 State.reset
     let ws := [0xF5C#32, 86400000, 0]
     inModeList s [3] = true ∧ fltConfigOk ws = true ∧ (92 : Fin 96).val = field (par ws 1) 0 7 ∧ fltConfigOk [] = false) ∧
    (fltConfigOk [0x028#32, 1, 0x3F3F] = true ∧ (40 : Fin 96).val = field (par [0x028#32, 1, 0x3F3F] 1) 0 7) ∧
    (inModeList (mode .m1 State.reset) modesAny = true ∧ reservedBad 0x20#32 0x803F1F7F = false ∧ (32 : Fin 96).val = field 0x20#32 0 7 ∧
      (fltReadWords (mode .m1 State.reset) 0x20).isSome = true ∧ fltReadWords (mode .m1 State.reset) 0x60 = none ∧
      reservedBad 0x803E0000#32 0x803F1F7F = false ∧ bitOf 0x803E0000#32 31 = true ∧ field 0x7F#32 0 7 = 0x7F ∧ bitOf 0x7F#32 31 = false ∧
      field 0x1F05#32 8 5 = 0x1F ∧ (5 : Ch).val = (5 : Fin 96).val ∧ (25 : Fin 26).val = field 0x1905#32 8 5) ∧
    (inModeList (mode .m5 State.reset) modesAll = true ∧ reservedBad 0x120#32 0x17F = false ∧ (32 : Fin 96).val = field 0x120#32 0 7 ∧
      bitOf 0x120#32 8 = true ∧ bitOf 0x20#32 8 = false ∧ 96 ≤ field 0x60#32 0 7 ∧ field 0x60#32 0 7 ≠ 0x7F ∧
      (State.reset.fsrc 32).present = false ∧ ((present 32 State.reset).fsrc 32).present = true) ∧
    ((mode .m5 State.reset).md.mode ≠ .m11 ∧ (mode .m11 State.reset).md.mode = .m11 ∧ (94 : Fin 96).val ≠ 95) ∧
    (tamperRuns State.reset = true ∧ coreOn State.reset = true ∧ State.reset.fw.tamper = false ∧
      coreOn (power fun p => { p with heldReset := true }) = false ∧ tamperRuns (power fun p => { p with heldReset := true }) = true ∧
      tamperRuns (power fun p => { p with vsysValid := false, vbatPresent := false }) = false ∧
      ({ State.reset with fw := { State.reset.fw with tamper := true } }).fw.tamper = true) ∧
    ((0x7A3C#32).toNat % 65536 = 0x7A3C ∧ (mode .m9 State.reset).md.mode = .m9 ∧ (0x7A3D#32).toNat % 65536 ≠ 0x7A3C) ∧
    (let s := { mode .m9 State.reset with fw := { State.reset.fw with svcOn := true } }
     s.md.mode = .m9 ∧ s.fw.svcOn = true ∧ (mode .m9 State.reset).fw.svcOn = false) := by decide

/-- A host frame of words, and one with its check word. -/
def frame (ws : List Word) : HostFrame := ⟨false, 32 * ws.length, ws, false, 0⟩
def checked (ws : List Word) : HostFrame := frame (ws ++ [crc32c ws])

set_option maxRecDepth 8000 in
theorem witness_HostFrames :
    ((mode .m5 State.reset).md.fwUp = true ∧ State.reset.md.fwUp = false ∧ (frame []).bits = 0 ∧ (frame [0]).bits ≠ 0) ∧
    frameVerdict (frame [0]) = (stOk, some .nop) ∧
    (frameVerdict (checked [0x30000000, 0]) = (stOk, some .regRead) ∧ hostCheckOk (checked [0x30000000, 0]).words = true ∧
      frameVerdict (frame [0x30000000, 0, 0]) = (stOk, some .regRead) ∧ hostCheckOk (frame [0x30000000, 0, 0]).words = false) ∧
    (frameVerdict (checked [0x38000510, 5]) = (stOk, some .regWrite) ∧ hostCheckOk (checked [0x38000510, 5]).words = true ∧
      frameVerdict (frame [0x38000510, 5, 0]) = (stOk, some .regWrite) ∧ hostCheckOk (frame [0x38000510, 5, 0]).words = false ∧
      frameVerdict (frame [0x38000510, 5]) = (stLenErr, none)) ∧
    (frameVerdict (frame [0x50000000, 0x01010200, crc32c [0x01010200]]) = (stOk, some .pkt) ∧ pktOk (mode .m5 State.reset) = true ∧
      runsFactory .host [0x01010200, crc32c [0x01010200]] (mode .m5 State.reset) = false ∧
      runsFactory .host [0xF0010200, crc32c [0xF0010200]] (mode .m11 State.reset) = true ∧
      pktOk ({ mode .m5 State.reset with hp := { State.reset.hp with inBuf := 2 } }) = false) ∧
    (frameVerdict (frame [0x90000000, 0]) = (stOk, some .rsp) ∧ bitOf ((frame [0x90000000, 0]).words.headD 0) 27 = false ∧
      frameVerdict (frame [0x98000000, 0]) = (stOk, some .rsp) ∧ bitOf ((frame [0x98000000, 0]).words.headD 0) 27 = true ∧
      ({ words := [1] } : QEntry).words.length ≤ (frame [0x90000000, 0]).words.length - 1 ∧
      (frame [0x90000000]).words.length - 1 < ({ words := [1] } : QEntry).words.length ∧ State.reset.hp.queue = [] ∧
      ({ mode .m5 State.reset with hp := { State.reset.hp with queue := [{ words := [1] }] } }).hp.queue = { words := [1] } :: []) ∧
    frameVerdict (frame [0x70000000]) = (stFrameErr, none) ∧ frameVerdict (frame [0, 0]) = (stLenErr, none) := by decide +kernel

theorem witness_RegisterEffects :
    isRsLo (0x310 : BitVec 16).toNat = true ∧ isRsLo (0x10C : BitVec 16).toNat = false ∧ (0xACE6#32).toNat % 65536 ≠ 0xACE5 ∧
    (0xACE5#32).toNat % 65536 = 0xACE5 ∧ (0xFC : BitVec 16).toNat < 0x100 := by decide

/-- The service port is up with SVC_EN_N low. -/
def service : State := { mode .m9 State.reset with fw := { State.reset.fw with svcOn := true } }

/-- Management with one open session that has taken datagram 3. -/
def session (count : Nat) : State :=
  { managed with net := { managed.net with sessions := [{ id := 4, seq := 3, count := count }] } }

theorem witness_OtherTransports :
    (svcPortUp service = true ∧ pktFits (packet0 0x01010200) = true ∧ runsFactory .service (packet0 0x01010200) service = false ∧
      runsFactory .service (packet0 0xF0010200) (mode .m11 service) = true ∧
      pktFits [0x01010201, 0] = false ∧ svcPortUp (mode .m9 State.reset) = false) ∧
    (mgmtUp (session 0) = true ∧ mgmtUp State.reset = false ∧
      ((session 0).net.sessions.find? fun y => y.id == (4 : BitVec 32).toNat && !sessionOver (session 0).clk y) = some { id := 4, seq := 3, count := 0 }) ∧
    (((session 1).net.sessions.find? fun y => y.id == (4 : BitVec 32).toNat && !sessionOver (session 1).clk y) = some { id := 4, seq := 3, count := 1 } ∧
      3 < (4 : BitVec 64).toNat ∧ (3 : BitVec 64).toNat ≤ 3 ∧
      (∀ y ∈ (session 1).net.sessions, y.id = (5 : BitVec 32).toNat → sessionOver (session 1).clk y = true)) ∧
    (let g : GroupMsg := ⟨9, 1, true, .commit [] 0⟩
     let s := { mode .m5 State.reset with grp := { State.reset.grp with managed := true, mgr := 9 } }
     g.tagOk = true ∧ forWorker g.body = true ∧ s.grp.managed = true ∧ g.serial = s.grp.mgr ∧ s.grp.rxSeq ≤ g.seq ∧
      ({ g with seq := 0 } : GroupMsg).seq < 1 ∧ ({ g with tagOk := false } : GroupMsg).tagOk = false ∧ manager.grp.managed = false ∧
      forWorker (.summary []) = false ∧ (manager.grp.workers.find? fun x => x.serial == 0).isSome = true ∧
      (manager.grp.workers.find? fun x => x.serial == 9) = none) ∧
    ((culvert 1 0 1).cas.state ≠ 2 ∧ (culvert 2 0 1).cas.state = 2 ∧ (1 : Fin 8).val = casIdx (culvert 2 0 1) ∧ (2 : Fin 8).val ≠ casIdx (culvert 2 0 1)) ∧
    (({ State.reset with grp := { State.reset.grp with coord := some ⟨[], some 5⟩ } }).grp.coord = some ⟨[], some 5⟩ ∧ State.reset.grp.coord = none ∧
      State.reset.now < 5 ∧ 0 ≤ State.reset.now) ∧
    ({ State.reset with grp := { State.reset.grp with coord := some ⟨[], none⟩ } }).grp.coord = some ⟨[], none⟩ := by decide +kernel

/-- VSYS and power over 1 ms, one value each. -/
def supplyOf (v io c w : Nat) : SupplyIn := ⟨v, v, v, io, c, w⟩

/-- A lane frame of seven payload bytes. -/
def shortLane : LaneRx := { laneWire (.cfgr 0) 0 with payload := List.replicate 7 0 }

theorem witness_CheckUnits :
    bitOf 1#32 0 = true ∧ bitOf 2#32 0 = false ∧ cuLow (cuWidth State.reset.cu[3]) 0 = cuResult State.reset.cu[3] ∧
    cuLow (cuWidth State.reset.cu[3]) 1 ≠ cuResult State.reset.cu[3] ∧ (0 : Byte) = State.reset.cu[3].expect ∧
    (0xFF : Byte) = State.reset.cu[3].expect - 1 ∧ (0x80 : Byte) ≠ State.reset.cu[3].expect := by decide

/-! ### The whole machine -/

theorem witness_StepRunsFront :
    State.reset.pending = [] ∧ ({ State.reset with pending := [.tiLock] }).pending = [.tiLock] := by decide

set_option maxRecDepth 4000 in
/-- The state after reset keeps the invariant; with the next theorem, the hypotheses of the two statements about every step. -/
theorem witness_StepKeepsInvariant :
    (∀ n : Fin 96, (eventOnly n = true ∨ n.val = 95) → (State.reset.fsrc n).present = false) ∧
    (∀ n : Fin 96, (n.val = 92 ∨ n.val = 93) → (State.reset.fsrc n).maskN &&& 0x18 = 0x18 ∧ (State.reset.fsrc n).maskS &&& 0x18 = 0x18) ∧
    (State.reset.pwr.limit ≤ 4 ∧ 60 ≤ State.reset.pwr.thWarn ∧ State.reset.pwr.thWarn ≤ 100) ∧
    (memWf State.reset.eng.memC = true ∧ memWf State.reset.eng.memV = true ∧ memWf State.reset.eng.memW = true) := by decide

theorem witness_IdentityAndRollback : step { State.reset with pending := [.tiUnlock] } = .next (tiLockOff State.reset) := rfl

/-! ### Ill-formed terms: one for each check of WellFormed -/

/-- A frame of two words in 63 bits. -/
def shortFrame : HostFrame := { mode3 := false, bits := 63, words := [0, 0], rdyViol := false, limitWord := 0 }
/-- A GOOSE frame, its members' types and values of lengths `n` and `k`. -/
def gooseOf (vlan : Option Nat) (n k : Nat) : GooseFrame :=
  { port := .a, key := none, phase := .check true, dst := 0, appid := 0, vlan := vlan, refs := [], confRev := 0, ndsCom := false
    security := false, sim := false, test := false, stNum := 1, sqNum := 0, ttlMs := 0, t := 0
    types := List.replicate n 0, vals := List.replicate k 0 }
/-- An Announce message with a domain, a variance and a grandmaster identity. -/
def announceOf (d v g : Nat) : Announce := ⟨d, 128, 6, 0x21, v, 128, g, 0, true, 37, false, false⟩
/-- Parameter words, one more than a packet holds. -/
def tooMany : List Word := List.replicate 251 0

theorem test_wf_power : (Instr.vsysValid 16999).wf = false ∧ (Instr.vsysValid 17000).wf = true ∧
    (Instr.powerAverageUpdate (supplyOf 65536 0 0 0)).wf = false ∧ (Instr.powerAverageUpdate (supplyOf 0 65536 0 0)).wf = false ∧
    (Instr.powerAverageUpdate (supplyOf 0 0 65536 0)).wf = false ∧ (Instr.powerAverageUpdate (supplyOf 0 0 0 65536)).wf = false ∧
    (Instr.powerAverageUpdate ⟨1, 2, 0, 0, 0, 0⟩).wf = false ∧ (Instr.powerAverageUpdate ⟨0, 1, 2, 0, 0, 0⟩).wf = false ∧
    (Instr.powerAverageUpdate (supplyOf 65535 0 0 0)).wf = true := by decide +kernel

theorem test_wf_reset : (Instr.moduleReset ⟨1, false, 0xFF⟩).wf = false ∧ (Instr.moduleReset ⟨9, false, 0xFF⟩).wf = false ∧
    (Instr.moduleReset ⟨3, false, 96⟩).wf = false ∧ (Instr.moduleReset ⟨6, false, 5⟩).wf = false ∧
    (Instr.moduleReset ⟨3, false, 92⟩).wf = true ∧ (Instr.cellReset 0 5).wf = false := by decide +kernel
theorem test_wf_announce : (Instr.ptpAnnounceReceived .a (announceOf 256 0 0)).wf = false ∧
    (Instr.ptpAnnounceReceived .a (announceOf 0 65536 0)).wf = false ∧
    (Instr.ptpAnnounceReceived .a (announceOf 0 0 (2 ^ 64))).wf = false ∧
    (Instr.ptpAnnounceReceived .a (announceOf 0 0 0)).wf = true := by decide +kernel
theorem test_wf_frames : (Instr.gooseFrameReceived (gooseOf (some 4096) 0 0)).wf = false ∧
    (Instr.gooseFrameReceived (gooseOf none 2 1)).wf = false ∧
    (Instr.mirrorFrameReceived { port := .a, key := none, phase := .words, dst := 0, etype := 0, vlan := some 4096, pdu := [] }).wf = false ∧
    (Instr.casImageReceived false ⟨.words, List.replicate 129 0⟩ true).wf = false ∧
    (Instr.casTrainingComplete ⟨List.replicate 8 ⟨0, false, 0⟩⟩).wf = false ∧
    (Instr.casTrainingComplete ⟨[⟨0, false, 8⟩]⟩).wf = false ∧
    (Instr.sluiceCommit ⟨0, List.replicate 33 {}⟩).wf = false := by decide +kernel
theorem test_wf_lane : (Instr.cfgwReceived 0 shortLane).wf = false ∧ (Instr.cfgrReceived 0 shortLane).wf = false ∧
    (Instr.applyReceived 0 shortLane).wf = false ∧ (Instr.holdoverReceived 0 shortLane).wf = false ∧
    (Instr.cfgaReceived 0 shortLane).wf = false ∧ (Instr.outFrameReceived 0 shortLane).wf = false ∧
    (Instr.ucodeReceived 0 shortLane false 0).wf = false ∧ (Instr.ucodeReceived 0 (laneWire (.ucode 0) 0) false (2 ^ 32)).wf = false ∧
    (Instr.cfgrReceived 0 (laneWire (.cfgr 0) 0)).wf = true ∧ (Instr.cellSelfcalComplete 0 [⟨0, 0, 2 ^ 32⟩]).wf = false := by decide +kernel

theorem test_wf_handshake : (Instr.udpHandshakeMsg1 ⟨2, 2, 0⟩).wf = false ∧ (Instr.udpHandshakeMsg3 ⟨2, 2, 0⟩ true).wf = false := by decide +kernel
theorem test_wf_hostFrames : (Instr.hpFrameNop shortFrame).wf = false ∧ (Instr.hpFrameRegRead shortFrame).wf = false ∧
    (Instr.hpFrameRegWrite shortFrame).wf = false ∧ (Instr.hpFramePkt shortFrame).wf = false ∧
    (Instr.hpFrameRsp shortFrame).wf = false ∧ (Instr.hrdyStretchLimit shortFrame).wf = false ∧
    (Instr.hpFrameMalformed shortFrame).wf = false := by decide +kernel
theorem test_wf_packets : (Instr.getInfo hostCtx tooMany).wf = false ∧ (Instr.ownerEnrol hostCtx tooMany true).wf = false ∧
    (Instr.calRestore hostCtx tooMany true).wf = false ∧ (Instr.chConfig hostCtx tooMany).wf = false := by
  decide +kernel

/-! ### The manual's own examples -/

/-- The bytes of "123456789" and its words for CU_IN32 and CU_IN8. -/
def digits : List Byte := [0x31, 0x32, 0x33, 0x34, 0x35, 0x36, 0x37, 0x38, 0x39]
/-- CU_RESULT of a unit with settings, over "123456789" (Table 16-5). -/
def cuOver (cfg : BitVec 7) (poly init xo : Word) : Word :=
  cuResult (digits.foldl cuFeed { cfg := cfg, poly := poly, init := init, xorout := xo, val := init })

/-- Table 16-5. -/
theorem test_table_16_5 : cuOver 0x7F 0x1EDC6F41 0xFFFFFFFF 0xFFFFFFFF = 0xE3069283 ∧
    cuOver 0x7F 0x04C11DB7 0xFFFFFFFF 0xFFFFFFFF = 0xCBF43926 ∧ cuOver 0x0F 0x1021 0xFFFF 0 = 0x29B1 ∧
    cuOver 0x6F 0x8005 0xFFFF 0 = 0x4B37 ∧ cuOver 0x07 0x07 0 0 = 0xF4 := by
  decide +kernel
/-- R365. -/
theorem test_crc32c : crcBytes digits = 0xE3069283 := by
  decide +kernel
/-- The worked example of chapter 16: CRC-16 on CU0, byte counter and match. -/
theorem test_cu0_example :
    (match (exec (.cuIn32 0 0x31323334) (cuWrite 0x0C 0 0 (cuWrite 0x10 0 0xFFFF (cuWrite 0x08 0 0xFFFF (cuWrite 0x04 0 0x1021
        (cuWrite 0x00 0 0x0F State.reset)))))) with
      | .next s => (let t := cuCheck 0 0x29B1 (cuIn 2 0 0x3839 (cuIn 2 0 0x3637 (cuIn 1 0 0x35 s)))
                    decide (t.cu[0].bytes = 9 ∧ t.cu[0].chk = 1 ∧ t.cu[0].chkFail = false))
      | _ => false) = true := by
  decide +kernel
/-- Chapter 16: with EXPECT = 0x42, a counter of 0x41 reads REPEAT and leaves EXPECT. -/
theorem test_alive_repeat : (let t := cuFold 0 0x41 (cuExpect 0 0x42 State.reset); t.cu[0].alive = 2 ∧ t.cu[0].expect = 0x42) := by
  decide +kernel
/-- The TS64 example of chapter 0. -/
theorem test_ts64 : tsHi (some 1750000037123456789) = 0x1A13B869 ∧ tsLo (some 1750000037123456789) = 0x475BCD15 ∧
    tsParse 0x475BCD15 0x1A13B869 = some (some 1750000037123456789) ∧ tsParse 0x3FFFFFFF 0 = none := by
  decide +kernel
/-- The step at first lock of chapter 5: old tick at 251,234,567 ns, no tick before T_k + P, new tick 3619. -/
theorem test_step_example : tickOffset 14400 3600 = 250000000 ∧ gridFrom 14400 (251234567 + tickPeriod 6) = 251319444 ∧
    tickOffset 14400 3619 = 251319444 := by
  decide +kernel
/-- Chapter 9: 7,500,420 µV with an offset of 312 µV and a gain of 0x40003A98 gives 7,500,213 µV. -/
theorem test_calibration_example : corrStage 7500420 312 0x40003A98 = 7500213 := by
  decide +kernel
/-- Chapter 11: the two-point trim with M1 = 4,000,850 nA and M2 = 20,001,650 nA. -/
theorem test_trim_example : trimEntry 4000850 20001650 = (-650, 0x3FFF2E4C) := by
  decide +kernel
/-- R265: DIV, MOD and division by zero. -/
theorem test_division : divOp (-7) 2 = (-3, 0) ∧ arithMod (-7) 2 = (-1, 0) ∧ arithMod 7 (-2) = (1, 0) ∧
    (divOp 5 0).1 = 0x7FFFFFFF ∧ (divOp (-5) 0).1 = 0x80000000 ∧ (arithMod 5 0).1 = 0 ∧
    (divOp 0x80000000 (-1)).1 = 0x7FFFFFFF ∧ (arithMod 0x80000000 (-1)).1 = 0 := by
  decide +kernel
/-- R265, IEEE 754 by hand: 1.0 + 1.0 = 2.0; 1.5 × 1.5 = 2.25; 1 / 3 rounds to 0x3EAAAAAB; the root of 2 is 0x3FB504F3;
F2I takes 2.5 to 2 and 3.5 to 4 (ties to even). -/
theorem test_float : fAdd 0x3F800000 0x3F800000 = (0x40000000, 0) ∧ fMul 0x3FC00000 0x3FC00000 = (0x40100000, 0) ∧
    (fDiv 0x3F800000 0x40400000).1 = 0x3EAAAAAB ∧ (fSqrt 0x40000000).1 = 0x3FB504F3 ∧ (f2i 0x40200000).1 = 2 ∧
    (f2i 0x40600000).1 = 4 := by
  decide +kernel
/-- SHA-512 of the empty message, from the standard that R468 names: its first two and last words. -/
theorem test_sha512_empty : (sha512 []).take 2 = [0xCF83E135, 0x7EEFB8BD] ∧ (sha512 []).getD 15 0 = 0xF927DA3E := by
  decide +kernel
/-- A well-formed command runs as the first one after reset, and leaves the queue empty. -/
theorem test_step_first : (match step { State.reset with pending := [.cuAliveSetExpect 0 7] } with | .next s => decide (s.pending = []) | _ => false) = true := by
  decide +kernel

end Sys2Proof.Tests
end

section
/-! PROOF. The gates of a packet and of a detector, once for all commands: what a gate that is open, or shut, does. -/

namespace Sys2Proof.Machine

open Sys2Proof

theorem modeGate_of_inModeList {s : State} {l : List Nat} (c : Ctx) (k : State → State) (h : inModeList s l = true) :
    modeGate l c k s = k s := by simp [modeGate, inModes, h]

theorem refuseIf_of_false {b : Bool} (status : Nat) (c : Ctx) (k : State → State) (s : State) (h : b = false) :
    refuseIf b status c k s = k s := by simp [refuseIf, h]

/-- A mode of a sublist is a mode of the list. -/
theorem inModeList_mono {s : State} {l m : List Nat} (hlm : l ⊆ m) (h : inModeList s l = true) : inModeList s m = true := by
  simp only [inModeList, Bool.and_eq_true, List.contains_iff_mem] at h ⊢
  exact ⟨h.1, hlm h.2⟩

theorem modeNum_mem_of_inModeList {s : State} {l : List Nat} (h : inModeList s l = true) : modeNum s.md.mode ∈ l := by
  simp only [inModeList, Bool.and_eq_true, List.contains_iff_mem] at h
  exact h.2

theorem whenCore_of_coreOn {s : State} (f : State → State) (h : coreOn s = true) : whenCore f s = f s := if_pos h

theorem whenCore_of_coreOff {s : State} (f : State → State) (h : coreOn s = false) : whenCore f s = s := by
  simp [whenCore, h]

end Sys2Proof.Machine
end

section
/-! PROOF. The start of a frame: marker, sluice commit, local image and function start (R18, R22, R23, R90, R119 to R127,
R269, R343). -/

namespace Sys2Proof.Machine

open Sys2Proof

section
variable {s : State}

/-! ### Without ticks (R78) -/

theorem execTickMarkerLaunch_idle (ht : ticking s = false) (n : Nat) : execTickMarkerLaunch n s = .next s := by
  simp [execTickMarkerLaunch, ht]

theorem sluiceCommit_idle (ht : ticking s = false) (x : SluiceIn) : sluiceCommit x s = s := by simp [sluiceCommit, ht]

theorem execLocalImageComplete_idle (ht : ticking s = false) (b : Bool) : execLocalImageComplete b s = .next s := by
  simp [execLocalImageComplete, ht]

theorem execCommitCutoff_idle (ht : ticking s = false) (x : CutoffIn) : execCommitCutoff x s = .next s := by
  simp [execCommitCutoff, ht]

/-! ### The marker (R18) -/

theorem execTickMarkerLaunch_onTime {n : Nat} (ht : ticking s = true) (hn : n ≤ 20) (hl : s.spring.launched = false) :
    execTickMarkerLaunch n s = .next (goodCount 52 1000 true
      { s with spring := { s.spring with launched := true, onTime := s.spring.onTime + 1 } }) := by
  simp [execTickMarkerLaunch, ht, hn, hl, modSpring]

/-- A marker is not on time when it is late, and also when the marker before it has not arrived. -/
theorem execTickMarkerLaunch_notOnTime {n : Nat} (ht : ticking s = true) (h : 20 < n ∨ s.spring.launched = true) :
    execTickMarkerLaunch n s = .next (goodCount 52 1000 false
      { s with spring := { s.spring with launched := true, onTime := 0 } }) := by
  have hbad : (decide (n ≤ 20) && !s.spring.launched) = false := by
    rcases h with h | h
    · simp [Nat.not_le.2 h]
    · simp [h]
  simp [execTickMarkerLaunch, ht, hbad, modSpring]

/-! ### The sluice commit (R22, R90, R91) -/

@[simp] theorem slewTick_ticked (ppm : Int) (p : Spring) : (slewTick ppm p).ticked = p.ticked := by unfold slewTick; split <;> rfl
@[simp] theorem slewTick_cnt (ppm : Int) (p : Spring) : (slewTick ppm p).cnt = p.cnt := by unfold slewTick; split <;> rfl

theorem advanceTick_tkTq : (advanceTick s).spring.tkTq = s.tq := rfl

theorem advanceTick_launched : (advanceTick s).spring.launched = false := rfl

/-- Outside a stack that follows, a tick after the first one is the next of the module's own grid. -/
theorem advanceTick_own (ht : s.spring.ticked = true) (hf : stackFollow s = false) :
    (advanceTick s).spring.tk = nextTick s ∧ (advanceTick s).spring.cnt = s.spring.cnt + 1 := by
  simp [advanceTick, ht, hf, tickAt]

theorem sluiceCommit_ticking (ht : ticking s = true) (x : SluiceIn) :
    sluiceCommit x s =
      (let s1 := soeTick (settleSetTick (advanceTick s))
       let s2 := modeCommit (discardOutputs (commitMode s1) s1)
       countCommit (subHealth (clearNew (refreshPeers (allCh.foldl (tickCell (s2.spring.cnt % 256) x) s2))))) := by
  simp [sluiceCommit, ht]

/-! ### The local image (R127, R269, R343) -/

/-- The frame at its image, before the image itself is built. -/
theorem execLocalImageComplete_ticking (ht : ticking s = true) (b : Bool) :
    execLocalImageComplete b s =
      (let s1 := frameSwitch (releaseEngine (expireSubs (goodCount 32 1000 b (allCh.foldl missingResult s))))
       let s2 := { s1 with ti := { s1.ti with work := buildImage s1 } }
       .next (sendCasImage (if s1.eng.running && modeEngineRuns s1.md.mode then firstEval (imageOf s2) s2 else s2))) := by
  simp [execLocalImageComplete, ht]

/-! ### Function start (R119) -/

section
variable {ch : Ch}

theorem execFunctionStart_storeGood (hz : (s.cell ch).hiz = some 0) (hc : fsCrcOk (startFunction (s.cell ch)).fs = true) :
    execFunctionStart ch s = .next (writeMarker ch (condOff ch cbFsStore (s.modCell ch startFunction))) := by
  simp [execFunctionStart, hz, hc]

theorem execFunctionStart_storeBad (hz : (s.cell ch).hiz = some 0) (hc : fsCrcOk (startFunction (s.cell ch)).fs = false) :
    execFunctionStart ch s = .next (writeMarker ch (s.modCell ch startFunction)) := by
  simp [execFunctionStart, hz, hc]

theorem execFunctionStart_idle (hz : (s.cell ch).hiz ≠ some 0) : execFunctionStart ch s = .next s := by
  simp [execFunctionStart, hz]

end

end

/-- Settles O45: nothing but a configuration load without ticks; with them, marker, commit and image one by one. -/
theorem frameStart : Obligations.FrameStart := by
  intro s
  refine ⟨fun ht => ⟨execTickMarkerLaunch_idle ht, fun x => ?_, execLocalImageComplete_idle ht, execCommitCutoff_idle ht⟩,
    fun ht => ⟨fun n => execTickMarkerLaunch_onTime ht, fun n => execTickMarkerLaunch_notOnTime ht, fun x => ?_, fun b => ?_⟩,
    fun ch => ⟨fun hz => ⟨execFunctionStart_storeGood hz, execFunctionStart_storeBad hz⟩, execFunctionStart_idle⟩⟩
  · exact congrArg (fun t => Host.Outcome.next (loadStep t)) (sluiceCommit_idle ht x)
  · exact ⟨_, _, _, congrArg (fun t => Host.Outcome.next (loadStep t)) (sluiceCommit_ticking ht x), rfl, rfl, rfl, advanceTick_tkTq,
      fun hticked hf => ⟨(advanceTick_own hticked hf).1, (advanceTick_own hticked hf).2, advanceTick_launched⟩⟩
  · have image := execLocalImageComplete_ticking ht b
    refine ⟨fun hr hm => image.trans ?_, fun hstop => image.trans ?_⟩
    · dsimp only
      rw [if_pos (by simp [hr, hm])]
    · dsimp only
      rw [if_neg (by rcases hstop with h | h <;> simp [h])]

end Sys2Proof.Machine
end

section
/-! PROOF. Records, the SOE log and the life counters: their commands (R441 to R446, R451, R453 to R455), and a read of a
memory that may hold a bad word (R11). -/

namespace Sys2Proof.Machine

open Sys2Proof

/-! ### REC_CONFIG and REC_TRIGGER (R441, R442) -/

/-- The settings that fix the slots and their lengths. -/
def recGeometry (l : List (Nat × Int)) : List Int := [0x00130302, 0x00130303, 0x00130304].map fun i => valueIn recParams l i

/-- The mark that a REC_CONFIG leaves on the summary of a record it discards. -/
def markReleased (r : RecSum) : RecSum := { r with released := true }

theorem markReleased_held (r : RecSum) : (markReleased r).held = r.held := rfl

section
variable {s : State} {c : Ctx} {ws : List Word} {cfg : List (Nat × Int)}

/-- REC_CONFIG with words that are good: refused by the load, in force, or in force with every waveform discarded. -/
theorem opRecConfig_of_good (hm : inModeList s [3] = true) (hp : pairsApply recParams recOk s.recs.cfg ws 0 = some cfg) :
    opRecConfig c ws s =
      (let s1 := noteConfig c.src { s with recs := { s.recs with cfg := cfg } }
       if !loadOk s1 then answer c stResource [] s
       else answer c stOk [] (noteBudget (if recGeometry cfg = recGeometry s.recs.cfg then s1
         else discardRecords markReleased s1))) := by
  rw [opRecConfig, modeGate_of_inModeList _ _ hm, hp]
  rfl

theorem discardRecords_slots (mark : RecSum → RecSum) (s : State) :
    (discardRecords mark s).recs.slots = Vector.replicate 16 [] := rfl

theorem discardRecords_opened (mark : RecSum → RecSum) (s : State) : (discardRecords mark s).recs.opened = none := rfl

theorem discardRecords_not_held {mark : RecSum → RecSum} (hmark : ∀ r, (mark r).held = r.held) (s : State) :
    ∀ r ∈ (discardRecords mark s).recs.sums, r.held = false := by
  intro r hr
  obtain ⟨q, -, rfl⟩ := List.mem_map.1 hr
  split
  case isTrue => exact hmark _
  case isFalse hq => simpa using hq

theorem opRecTrigger_of_good {w : Word} (hm : inModeList s [4, 5, 6, 7, 10] = true) (hw : reservedBad w 0xF = false) :
    opRecTrigger c [w] s = answer c stOk [] { s with recs := { s.recs with
      trigReq := s.recs.trigReq ||| BitVec.ofNat 16 (2 ^ field w 0 4) } } := by
  have hconf : inModeList s modesConfig = true := inModeList_mono (by decide) hm
  have hmode : (s.md.mode != .m3) = true := by
    have := modeNum_mem_of_inModeList hm
    rw [bne_iff_ne]
    intro h3
    rw [h3] at this
    exact absurd this (by decide)
  rw [opRecTrigger, modeGate_of_inModeList _ _ hconf, inModes, if_pos hmode, refuseIf_of_false]
  · rfl
  · simpa [par] using hw

end

/-! ### RECORD_CLOSE (R442) -/

theorem setSlot_eq (n : Nat) (l : List TickRec) (s : State) : setSlot n l s = { s with recs := (setSlot n l s).recs } := by
  unfold setSlot; split <;> rfl

@[simp] theorem setSlot_sums (n : Nat) (l : List TickRec) (s : State) : (setSlot n l s).recs.sums = s.recs.sums := by
  unfold setSlot; split <;> rfl

@[simp] theorem setSlot_opened (n : Nat) (l : List TickRec) (s : State) : (setSlot n l s).recs.opened = s.recs.opened := by
  unfold setSlot; split <;> rfl

/-- The summary of the open record `r` as it closes with the ticks `ts`. -/
def closedSum (trunc : Bool) (ts : List TickRec) (r : RecSum) (s : State) : RecSum :=
  { r with held := true, slot := s.recs.wslot, trunc := trunc, gap := hasGap ts
           tq := ts.foldl (fun m t => max m (recTq t)) 0
           firstT := (ts.getLastD ⟨0, r.trigT, 0, 0, Vector.replicate 32 0⟩).tk }

section
variable {s : State} {r : RecSum} (trunc : Bool)

theorem closeRecord_opened (hr : s.recs.opened = some r) : (closeRecord trunc s).recs.opened = none := by
  rw [closeRecord, hr]
  dsimp only
  split <;> simp

theorem closeRecord_sums (hr : s.recs.opened = some r) :
    (closeRecord trunc s).recs.sums =
      (closedSum trunc ((slotTicks s s.recs.wslot).take r.ticks) r s :: s.recs.sums).take 256 := by
  rw [closeRecord, hr]
  dsimp only
  split <;> simp [closedSum]

/-- A record that closes changes the records and nothing else. -/
theorem closeRecord_frame (hr : s.recs.opened = some r) : closeRecord trunc s = { s with recs := (closeRecord trunc s).recs } := by
  rw [closeRecord, hr]
  dsimp only
  split
  · rw [setSlot_eq _ [], setSlot_eq s.recs.wslot]
  · rw [setSlot_eq]

theorem execRecordClose_full (hr : s.recs.opened = some r) (hp : s.recs.post = 0) :
    execRecordClose s = .next (closeRecord false s) := by simp [execRecordClose, hr, hp]

theorem execRecordClose_idle (h : s.recs.opened = none ∨ s.recs.post ≠ 0) : execRecordClose s = .next s := by
  rcases h with h | h <;> simp [execRecordClose, h]

end

/-! ### REC_READ, SOE_READ and LIFE_READ (R445, R446, R451, R453) -/

section
variable {s : State} {c : Ctx}

/-- REC_READ with words in range: the summaries for record 0, the stream of a held record, else no record. -/
theorem opRecRead_of_good {ws : List Word} (hm : inModeList s modesAll = true) (hres : reservedBad (par ws 1) 0xFFFF = false)
    (hlen : ws.length = 3) (hlo : 1 ≤ (par ws 3).toNat) (hhi : (par ws 3).toNat ≤ 240) :
    opRecRead c ws s =
      (let num := field (par ws 1) 0 16
       let read := fun m stream after =>
         memoryRead m c 0x72 (answerStream c stream (par ws 2).toNat (par ws 3).toNat after) s
       if num = 0 then read 1 (s.recs.sums.flatMap fun r => (summaryWords r).flatMap wordBytes) id
       else ((heldSums s).find? fun r => r.num == num).elim (answer c stBadParam [] s) fun r =>
         read 0 (exportStream s r) (noteRead num (par ws 2).toNat (par ws 3).toNat (exportStream s r).length)) := by
  have hgood : (reservedBad (par ws 1) 0xFFFF || ws.length != 3 || (par ws 3).toNat = 0 || 240 < (par ws 3).toNat) = false := by
    rw [hres, hlen]
    simp [hhi, Nat.ne_of_gt hlo]
  rw [opRecRead, modeGate_of_inModeList _ _ hm]
  dsimp only
  rw [hgood]
  cases (heldSums s).find? fun r => r.num == field (par ws 1) 0 16 <;> rfl

theorem heldSums_find?_eq_none {n : Nat} (h : ∀ r ∈ s.recs.sums, r.held = true → r.num ≠ n) :
    (heldSums s).find? (fun r => r.num == n) = none := by
  rw [List.find?_eq_none]
  intro r hr
  obtain ⟨hmem, hheld⟩ := List.mem_filter.1 hr
  simpa using h r hmem hheld

/-- SOE_READ with good words reads the one log that bit 0 names. -/
theorem opSoeRead_of_good (hm : inModeList s modesAll = true) {w : Word} (a n : Word) (hres : reservedBad w 1 = false) :
    opSoeRead c [w, a, n] s =
      (let r := if bitOf w 0 then soeFrom s.soe.mlog (s.soe.midx % 2 ^ 32) a.toNat n.toNat
        else soeFrom s.soe.ring (s.soe.idx % 2 ^ 32) a.toNat n.toNat
       memoryRead (if bitOf w 0 then 1 else 0) c 0x73 (answer c stOk
        (BitVec.ofNat 32 r.1 :: BitVec.ofNat 32 (r.1 + r.2.length) :: r.2.flatMap soeWords)) s) := by
  rw [opSoeRead, modeGate_of_inModeList _ _ hm, refuseIf_of_false _ _ _ _ (by simpa [par] using hres)]
  cases hb : bitOf w 0 <;> simp [par, hb]

/-- SOE_READ answers at most the entries asked for, and at most 82. -/
theorem soeFrom_length_le (log : List SoeEntry) (next first n : Nat) :
    (soeFrom log next first n).2.length ≤ n ∧ (soeFrom log next first n).2.length ≤ 82 := by
  have h := List.length_take_le (min n 82) ((log.take (if (next + 2 ^ 32 - first % 2 ^ 32) % 2 ^ 32 ≤ log.length then
    (next + 2 ^ 32 - first % 2 ^ 32) % 2 ^ 32 else if 2 ^ 31 ≤ (next + 2 ^ 32 - first % 2 ^ 32) % 2 ^ 32 then 0
    else log.length)).reverse)
  exact Nat.le_min.1 h

/-- LIFE_READ with a good word counts first, then reads the counters of the module or of the channel. -/
theorem opLifeRead_of_good (hm : inModeList s modesAll = true) {w : Word} (hres : reservedBad w 0xFF = false) :
    opLifeRead c [w] s = memoryRead 1 c 0x74 (fun s1 =>
      if field w 0 8 = 0xFF then answer c stOk (pairWords s1.life.ctrs.toList) s1
      else withCh w c (fun ch s2 => answer c stOk (pairWords (s2.cell ch).life.toList) s2) s1) (lifeCount s) := by
  rw [opLifeRead, modeGate_of_inModeList _ _ hm, refuseIf_of_false _ _ _ _ (by simpa [par] using hres)]
  rfl

theorem withCh_of_chOf {w : Word} {ch : Ch} (k : Ch → State → State) (h : chOf w = some ch) : withCh w c k s = k ch s := by
  rw [withCh, h]

/-- A channel number is below 32, so it is not the number of the module's own counters. -/
theorem field_lt_of_chOf {w : Word} {ch : Ch} (h : chOf w = some ch) : field w 0 8 < 32 := by
  simp only [chOf] at h
  split at h
  case isTrue hn => exact hn
  case isFalse => cases h

end

/-! ### A read of a memory with a bad word (R11) -/

theorem memoryRead_of_good {m : Fin 3} {s : State} (c : Ctx) (op : Nat) (f : State → State) (h : s.scrub[m].bad = []) :
    memoryRead m c op f s = f s := by
  rw [memoryRead, if_pos (by rw [h]; rfl)]

theorem memoryRead_of_bad {m : Fin 3} {s : State} (c : Ctx) (op : Nat) (f : State → State) (h : s.scrub[m].bad ≠ []) :
    memoryRead m c op f s = answerFault c op rcEcc s.drawFree ∨ memoryRead m c op f s = f s.drawFree := by
  rw [memoryRead, if_neg (by simpa using h)]
  split
  · exact .inl rfl
  · exact .inr rfl

/-! ### Saving the life counters (R453 to R455) -/

theorem ctrAdd_frame (i n : Nat) (s : State) : ctrAdd i n s = { s with life := (ctrAdd i n s).life } := by
  unfold ctrAdd; split <;> rfl

/-- Counting the seconds changes the life counters and nothing else. -/
theorem lifeCount_frame (s : State) : lifeCount s = { s with life := (lifeCount s).life } := by
  unfold lifeCount
  dsimp only
  rw [ctrAdd_frame, ctrAdd_frame (tempBin _), ctrAdd_frame 0]

/-- What the save counts before it writes, the seconds and the words written to MRAM, changes the counters alone. -/
theorem lifeSave_counts (n : Nat) (s : State) :
    ∃ l, ctrAdd 16 n (lifeCount s).drawFree = { s with life := l, free := s.free + 1 } := by
  rw [ctrAdd_frame, lifeCount_frame]
  exact ⟨_, rfl⟩

/-- The save: the counters in MRAM are those of the core, and each cell's saved counters are its own. -/
theorem lifeSave_spec (s : State) :
    (lifeSave s).life.saved = (lifeSave s).life.ctrs ∧ (lifeSave s).life.savedAt = s.clk ∧
      (∀ ch, (lifeSave s).cell ch = { s.cell ch with lifeSaved := (s.cell ch).life }) ∧
      lifeSave s = { s with life := (lifeSave s).life, cells := (lifeSave s).cells, free := s.free + 1 } := by
  obtain ⟨l, hl⟩ := lifeSave_counts (Config.free s.free) s
  unfold lifeSave State.mapCells
  rw [hl]
  exact ⟨rfl, rfl, fun ch => by simp [State.cell], rfl⟩

theorem execLifeCellCopy_spec (s : State) : ∃ t, execLifeCellCopy s = .next t ∧ t = { s with cells := t.cells } ∧
    ∀ ch, t.cell ch = if (s.cell ch).lane.state = .up then { s.cell ch with lifeCopy := (s.cell ch).life } else s.cell ch :=
  ⟨_, rfl, rfl, fun ch => cell_mapCells _ _ ch⟩

/-! ### The parts of the obligation -/

section
variable {s : State} (c : Ctx) (ws : List Word)

/-- REC_CONFIG (R441). -/
theorem execRecConfig_spec {cfg : List (Nat × Int)} (hm : inModeList s [3] = true)
    (hp : pairsApply recParams recOk s.recs.cfg ws 0 = some cfg) :
    let p := acceptPacket c s
    let s1 := noteConfig c.src { p with recs := { s.recs with cfg := cfg } }
    (loadOk s1 = false → execRecConfig c ws s = .next (answer c stResource [] p)) ∧
    (loadOk s1 = true → recGeometry cfg = recGeometry s.recs.cfg →
      execRecConfig c ws s = .next (answer c stOk [] (noteBudget s1))) ∧
    (loadOk s1 = true → recGeometry cfg ≠ recGeometry s.recs.cfg → ∃ t, execRecConfig c ws s = .next (answer c stOk [] t) ∧
      t.recs.slots = Vector.replicate 16 [] ∧ t.recs.opened = none ∧ (∀ r ∈ t.recs.sums, r.held = false)) := by
  intro p s1
  have run : execRecConfig c ws s = .next (if !loadOk s1 then answer c stResource [] p
      else answer c stOk [] (noteBudget (if recGeometry cfg = recGeometry s.recs.cfg then s1
        else discardRecords markReleased s1))) :=
    congrArg _ (opRecConfig_of_good (s := p) hm hp)
  refine ⟨fun hload => ?_, fun hload hg => ?_, fun hload hg => ?_⟩
  · rw [run, hload]; rfl
  · rw [run, hload, if_pos hg]; rfl
  · rw [run, hload, if_neg hg]
    exact ⟨_, rfl, discardRecords_slots _ s1, discardRecords_opened _ s1, discardRecords_not_held markReleased_held s1⟩

/-- RECORD_CLOSE of a record whose POST ticks are written (R442). -/
theorem execRecordClose_spec {r : RecSum} (hr : s.recs.opened = some r) (hp : s.recs.post = 0) :
    ∃ t, execRecordClose s = .next t ∧ t.recs.opened = none ∧
      (∃ d, t.recs.sums.head? = some d ∧ d.held = true ∧ d.num = r.num ∧ d.mask = r.mask ∧ d.funcs = r.funcs ∧
        d.slot = s.recs.wslot) ∧ t = { s with recs := t.recs } := by
  refine ⟨closeRecord false s, execRecordClose_full hr hp, closeRecord_opened _ hr, ?_, closeRecord_frame _ hr⟩
  rw [closeRecord_sums _ hr]
  exact ⟨_, rfl, rfl, rfl, rfl, rfl, rfl⟩

/-- REC_READ with words in range (R445, R446). -/
theorem execRecRead_spec (hm : inModeList s modesAll = true) (hres : reservedBad (par ws 1) 0xFFFF = false)
    (hlen : ws.length = 3) (hlo : 1 ≤ (par ws 3).toNat) (hhi : (par ws 3).toNat ≤ 240) :
    let p := acceptPacket c s
    (field (par ws 1) 0 16 = 0 → execRecRead c ws s = .next (memoryRead 1 c 0x72 (answerStream c
      (s.recs.sums.flatMap fun r => (summaryWords r).flatMap wordBytes) (par ws 2).toNat (par ws 3).toNat id) p)) ∧
    (field (par ws 1) 0 16 ≠ 0 → (∀ r ∈ s.recs.sums, r.held = true → r.num ≠ field (par ws 1) 0 16) →
      execRecRead c ws s = .next (answer c stBadParam [] p)) ∧
    (∀ r, field (par ws 1) 0 16 ≠ 0 → (heldSums s).find? (fun x => x.num == field (par ws 1) 0 16) = some r →
      execRecRead c ws s = .next (memoryRead 0 c 0x72 (answerStream c (exportStream p r) (par ws 2).toNat (par ws 3).toNat
        (noteRead r.num (par ws 2).toNat (par ws 3).toNat (exportStream p r).length)) p)) := by
  intro p
  have run := congrArg (Host.Outcome.next (φ := Fault) (ρ := Refusal))
    (opRecRead_of_good (s := p) (c := c) hm hres hlen hlo hhi)
  refine ⟨fun h0 => run.trans ?_, fun h0 hnone => run.trans ?_, fun r h0 hsome => run.trans ?_⟩ <;> dsimp only
  · rw [if_pos h0]
    rfl
  · rw [if_neg h0, heldSums_find?_eq_none (s := p) hnone]
    rfl
  · have hnum : r.num = field (par ws 1) 0 16 := by simpa using List.find?_some hsome
    rw [if_neg h0, show (heldSums p).find? _ = some r from hsome, hnum]
    rfl

/-- LIFE_READ of the module or of one channel (R453). -/
theorem execLifeRead_spec {w : Word} (hm : inModeList s modesAll = true) (hres : reservedBad w 0xFF = false) :
    let p := acceptPacket c s
    (field w 0 8 = 0xFF → execLifeRead c [w] s = .next (memoryRead 1 c 0x74
      (fun s1 => answer c stOk (pairWords s1.life.ctrs.toList) s1) (lifeCount p))) ∧
    (∀ ch, chOf w = some ch → execLifeRead c [w] s = .next (memoryRead 1 c 0x74
      (fun s1 => answer c stOk (pairWords (s1.cell ch).life.toList) s1) (lifeCount p))) := by
  intro p
  have run := congrArg (Host.Outcome.next (φ := Fault) (ρ := Refusal)) (opLifeRead_of_good (s := p) (c := c) hm hres)
  refine ⟨fun hff => run.trans ?_, fun ch hch => run.trans ?_⟩
  · simp only [if_pos hff]
  · have hne : field w 0 8 ≠ 0xFF := by have := field_lt_of_chOf hch; omega
    simp only [if_neg hne, withCh_of_chOf _ hch]

end

/-- Settles O49: each command of the records, the log and the counters by its own law. -/
theorem recordsAndLifeCounters : Obligations.RecordsAndLifeCounters := by
  refine ⟨fun s c ws => ⟨fun hm cfg hp => execRecConfig_spec c ws hm hp, ?_, fun r hr => ⟨execRecordClose_spec hr, fun hp =>
    execRecordClose_idle (.inr hp)⟩, fun hr => execRecordClose_idle (.inl hr), execRecRead_spec c ws⟩,
    fun s c => ⟨fun hm w a n hres => ⟨congrArg _ (opSoeRead_of_good (s := acceptPacket c s) hm a n hres), ?_⟩, fun hm w hres => execLifeRead_spec c hm hres,
      fun m op f => ⟨memoryRead_of_good c op f, memoryRead_of_bad c op f⟩, fun hon => ⟨lifeSave s, ?_, lifeSave_spec s⟩,
      fun hoff => congrArg _ (whenCore_of_coreOff _ hoff), execLifeCellCopy_spec s⟩⟩
  · rintro hm w rfl hw
    exact congrArg _ (opRecTrigger_of_good (s := acceptPacket c s) hm hw)
  · split <;> exact soeFrom_length_le _ _ _ _
  · exact congrArg _ (whenCore_of_coreOn _ hon)

end Sys2Proof.Machine
end

section
/-! PROOF. The fault detectors, the error hold and the error pair (chapter 18, R11, R26, R424 to R433). -/

namespace Sys2Proof.Machine

open Sys2Proof

/-! ### Scrubbed memories (R11) -/

section
variable (i : Fin 3) (a : Nat) (s : State)

theorem markBad_bad : (markBad i a s).scrub[i].bad = a :: s.scrub[i].bad.filter (fun b => b != a) := by simp [markBad]

theorem markBad_frame : markBad i a s = { s with scrub := (markBad i a s).scrub } := rfl

theorem countSingle_bad : (countSingle i s).scrub[i].bad = s.scrub[i].bad := by simp [countSingle]

theorem countSingle_frame : countSingle i s = { s with scrub := (countSingle i s).scrub } := rfl

end

/-- The words a pass corrected are counted and kept for the next pass; each one the pass before corrected too raises. -/
theorem scrubPass_spec (m : ScrubMem) (l : List Nat) (s : State) :
    ∃ t, scrubPass m l s = (l.filter fun a => (s.scrub[scrubIdx m]).last.contains a).foldl
        (fun x a => raiseFault (scrubFs m) (a / 4 % 65536) x) t ∧
      (t.scrub[scrubIdx m]).last = l ∧ (t.scrub[scrubIdx m]).single = (s.scrub[scrubIdx m]).single + l.length ∧
      t = { s with scrub := t.scrub } :=
  ⟨_, rfl, by simp, by simp, rfl⟩

/-! ### Crossings (R26, R431 to R433) -/

theorem xingDetail_zero (row : Fin 8) : xingDetail row 0 = row.val + 1 := by
  simp only [xingDetail]
  omega

theorem hasHandshake_of_ne {row : Fin 8} (h2 : row.val ≠ 2) (h4 : row.val ≠ 4) : hasHandshake row = true := by
  simp [hasHandshake, h2, h4]

theorem hasHandshake_of_eq {row : Fin 8} (h : row.val = 2 ∨ row.val = 4) : hasHandshake row = false := by
  rcases h with h | h <;> simp [hasHandshake, h]

section
variable {row : Fin 8} {lost : Nat} {s : State} (reset : Bool)

/-- While the destination is stopped, what is lost raises FS35 at the first loss alone. -/
theorem crossingTimeout_stopped (hs : s.xing[row].stopped = true) :
    crossingTimeout row lost reset s = stoppedLoss row lost s := if_pos hs

theorem stoppedLoss_again (h : lost = 0 ∨ s.xing[row].lossSeen = true) : stoppedLoss row lost s = s := if_pos h

theorem stoppedLoss_first (hl : 0 < lost) (hs : s.xing[row].lossSeen = false) : stoppedLoss row lost s =
    raiseFault 35 (xingDetail row lost) (modXing row (fun x => { x with lossSeen := true }) s) :=
  if_neg (by rw [hs]; simp [Nat.ne_of_gt hl])

/-- A handshake that times out: FS33, and FS35 where words were lost or both sides reinitialise. -/
theorem crossingTimeout_handshake (hs : s.xing[row].stopped = false) (hh : hasHandshake row = true) :
    crossingTimeout row lost reset s =
      (let s1 := xingRequestTimeout row lost reset s
       if reset || decide (0 < lost) then raiseFault 35 (xingDetail row lost) s1 else s1) := by
  rw [crossingTimeout, hs]
  simp [hh]

/-- A crossing that is a FIFO alone loses words at most. -/
theorem crossingTimeout_fifo (hs : s.xing[row].stopped = false) (hh : hasHandshake row = false) :
    crossingTimeout row lost reset s = if 0 < lost then raiseFault 35 (xingDetail row lost) s else s := by
  rw [crossingTimeout, hs]
  simp [hh]

end

/-! ### The accumulator of a crossing (R431) -/

section
variable {row : Fin 8} {s : State}

theorem pulseSaturate_raises (hh : hasHandshake row = true) (hs : s.xing[row].stopped = false ∨ s.xing[row].satF = false) :
    pulseSaturate row s = raiseFault 34 (row.val + 1) (modXing row (fun x => { x with acc := 15, satF := true }) s) := by
  rw [pulseSaturate, xingDetail_zero, if_neg]
  rcases hs with hs | hs <;> rw [hh, hs] <;> simp

theorem pulseSaturate_idle (h : hasHandshake row = false ∨ (s.xing[row].stopped = true ∧ s.xing[row].satF = true)) :
    pulseSaturate row s = s := by
  rw [pulseSaturate, if_pos]
  rcases h with hh | ⟨hs, hf⟩
  · simp [hh]
  · rw [hs, hf]
    simp

end

/-! ### The end of an error hold (R426) -/

section
variable {s : State} {f : FltSrc}

theorem holdEnds_of_present (h : f.present = true) : holdEnds s f = false := by
  unfold holdEnds holdRipe
  split <;> simp [h]

theorem holdEnds_of_not_acked (hl : s.flt.errLatch = true) (ha : f.holdAcked = false) : holdEnds s f = false := by
  simp [holdEnds, hl, ha]

theorem holdEnds_of_passed (hf : f.holdFrom.isSome = true) (ht : f.holdPassed = true) (hp : f.present = false)
    (ha : s.flt.errLatch = false ∨ f.holdAcked = true) : holdEnds s f = true := by
  obtain ⟨t, hsome⟩ := Option.isSome_iff_exists.1 hf
  rcases ha with ha | ha <;> simp [holdEnds, holdRipe, hsome, ht, hp, ha]

end

section
variable (n : Fin 96) (s : State)

/-- The hold time of a source has passed where it is in a hold. -/
def holdTimePassed : State := s.modSrc n fun f => { f with holdPassed := f.holdFrom.isSome }

theorem execErrHoldExpire_eq : execErrHoldExpire n s = .next (endHold n (holdTimePassed n s)) := rfl

theorem endHold_fsrc_same : (endHold n s).fsrc n = if holdEnds s (s.fsrc n) then noHold (s.fsrc n) else s.fsrc n :=
  fsrc_modSrc_same s n _

theorem endHold_fsrc_ne {k : Fin 96} (h : k ≠ n) : (endHold n s).fsrc k = s.fsrc k := fsrc_modSrc_ne s n k _ h

theorem holdTimePassed_fsrc_same :
    (holdTimePassed n s).fsrc n = { s.fsrc n with holdPassed := (s.fsrc n).holdFrom.isSome } := fsrc_modSrc_same s n _

theorem holdTimePassed_fsrc_ne {k : Fin 96} (h : k ≠ n) : (holdTimePassed n s).fsrc k = s.fsrc k := fsrc_modSrc_ne s n k _ h

end

/-- ERR_HOLD_EXPIRE for a source in a hold (R426). -/
theorem execErrHoldExpire_spec {n : Fin 96} {s : State} (hf : (s.fsrc n).holdFrom.isSome = true) :
    ∃ t, execErrHoldExpire n s = .next t ∧
      ((s.fsrc n).present = false → (s.flt.errLatch = false ∨ (s.fsrc n).holdAcked = true) → (t.fsrc n).holdFrom = none) ∧
      ((s.fsrc n).present = true → (t.fsrc n).holdFrom = (s.fsrc n).holdFrom) ∧
      (s.flt.errLatch = true → (s.fsrc n).holdAcked = false → (t.fsrc n).holdFrom = (s.fsrc n).holdFrom) ∧
      (∀ k, k ≠ n → t.fsrc k = s.fsrc k) ∧ t = { s with srcs := t.srcs } := by
  have stays : holdEnds (holdTimePassed n s) ((holdTimePassed n s).fsrc n) = false →
      ((endHold n (holdTimePassed n s)).fsrc n).holdFrom = (s.fsrc n).holdFrom := fun h => by
    rw [endHold_fsrc_same, h, holdTimePassed_fsrc_same]
    rfl
  refine ⟨_, execErrHoldExpire_eq n s, fun hp ha => ?_, fun hp => stays ?_, fun hl ha => stays ?_, fun k hk => ?_, rfl⟩
  · have ends : holdEnds (holdTimePassed n s) ((holdTimePassed n s).fsrc n) = true := by
      rw [holdTimePassed_fsrc_same]
      exact holdEnds_of_passed hf hf hp ha
    rw [endHold_fsrc_same, ends]
    rfl
  · rw [holdTimePassed_fsrc_same]
    exact holdEnds_of_present hp
  · rw [holdTimePassed_fsrc_same]
    exact holdEnds_of_not_acked hl ha
  · rw [endHold_fsrc_ne _ _ hk, holdTimePassed_fsrc_ne _ _ hk]

/-! ### The error pair (R427) -/

/-- The dynamic mode takes its setting, and the phase turns where the pair alternates. -/
theorem dynToggle_eq (s : State) : dynToggle s = { s with flt := { s.flt with
    errDynNow := s.flt.errDyn
    errPhase := if s.flt.errDyn = true ∧ s.md.wdogBad = false ∧ s.md.lockBad = false then !s.flt.errPhase else s.flt.errPhase } } := by
  by_cases h : s.flt.errDyn = true ∧ s.md.wdogBad = false ∧ s.md.lockBad = false
  · obtain ⟨hd, hw, hl⟩ := h
    simp [dynToggle, errAlternates, hd, hw, hl]
  · have halt : errAlternates { s with flt := { s.flt with errDynNow := s.flt.errDyn } } = false := by
      simpa [errAlternates, and_assoc] using h
    simp only [dynToggle, halt, if_neg h]
    rfl

/-! ### The parts of the obligation -/

section
variable {s : State} (hon : coreOn s = true)
include hon

/-- MEMORY_ECC_ERROR while the core runs (R11, R263). -/
theorem execMemoryEccError_of_coreOn (m : MemKind) (a : Nat) (d : Bool) :
    execMemoryEccError m a d s = .next (memoryError m a d s) := congrArg _ (whenCore_of_coreOn _ hon)

theorem execCrossingTimeout_of_coreOn (row : Fin 8) (lost : Nat) (reset : Bool) :
    execCrossingTimeout row lost reset s = .next (crossingTimeout row lost reset s) := congrArg _ (whenCore_of_coreOn _ hon)

/-- CROSSING_TIMEOUT: a stopped destination, a handshake, and a FIFO alone (R26, R432, R433). -/
theorem execCrossingTimeout_spec (row : Fin 8) (lost : Nat) (reset : Bool) :
    (s.xing[row].stopped = true → lost = 0 ∨ s.xing[row].lossSeen = true → execCrossingTimeout row lost reset s = .next s) ∧
    (s.xing[row].stopped = true → 0 < lost → s.xing[row].lossSeen = false → execCrossingTimeout row lost reset s =
      .next (raiseFault 35 (xingDetail row lost) (modXing row (fun x => { x with lossSeen := true }) s))) ∧
    (s.xing[row].stopped = false → row.val ≠ 2 → row.val ≠ 4 →
      let s1 := raiseFault 33 (row.val + 1)
        (modXing row (fun x => { x with stopped := !reset, lossSeen := !reset && decide (0 < lost) }) s)
      (lost = 0 → reset = false → execCrossingTimeout row lost reset s = .next s1) ∧
      (0 < lost ∨ reset = true → execCrossingTimeout row lost reset s = .next (raiseFault 35 (xingDetail row lost) s1))) ∧
    (s.xing[row].stopped = false → row.val = 2 ∨ row.val = 4 →
      (lost = 0 → execCrossingTimeout row lost reset s = .next s) ∧
      (0 < lost → execCrossingTimeout row lost reset s = .next (raiseFault 35 (xingDetail row lost) s))) := by
  rw [execCrossingTimeout_of_coreOn hon]
  refine ⟨fun hs h => ?_, fun hs hl hseen => ?_, fun hs h2 h4 => ?_, fun hs hrow => ?_⟩
  · rw [crossingTimeout_stopped _ hs, stoppedLoss_again h]
  · rw [crossingTimeout_stopped _ hs, stoppedLoss_first hl hseen]
  · rw [crossingTimeout_handshake _ hs (hasHandshake_of_ne h2 h4), xingRequestTimeout, xingDetail_zero]
    refine ⟨?_, fun h => ?_⟩
    · rintro rfl rfl
      rfl
    · dsimp only
      rw [if_pos (by rcases h with h | h <;> simp [h])]
  · rw [crossingTimeout_fifo _ hs (hasHandshake_of_eq hrow)]
    exact ⟨fun h => by rw [h]; rfl, fun h => by rw [if_pos h]⟩

/-- CROSSING_PROBE: an answered probe ends a stoppage, and nothing else happens (R431, R433). -/
theorem execCrossingProbe_spec (row : Fin 8) :
    (s.xing[row].stopped = true → ∃ t, execCrossingProbe row true s = .next t ∧ t.xing[row].stopped = false ∧
      t = { s with xing := t.xing }) ∧
    (s.xing[row].stopped = false → execCrossingProbe row true s = .next s) ∧ execCrossingProbe row false s = .next s := by
  simp only [execCrossingProbe, whenCore_of_coreOn _ hon]
  refine ⟨fun hs => ⟨modXing row (fun _ => {}) s, ?_, ?_, rfl⟩, fun hs => ?_, ?_⟩
  · rw [hs]
    rfl
  · simp [modXing]
  · rw [hs]
    rfl
  · rw [Bool.and_false]
    rfl

/-- CROSSING_PULSE_SATURATE (R431). -/
theorem execCrossingPulseSaturate_spec (row : Fin 8) :
    (row.val ≠ 2 → row.val ≠ 4 → s.xing[row].stopped = false ∨ s.xing[row].satF = false →
      execCrossingPulseSaturate row s =
        .next (raiseFault 34 (row.val + 1) (modXing row (fun x => { x with acc := 15, satF := true }) s))) ∧
    (row.val = 2 ∨ row.val = 4 ∨ (s.xing[row].stopped = true ∧ s.xing[row].satF = true) →
      execCrossingPulseSaturate row s = .next s) := by
  rw [execCrossingPulseSaturate, whenCore_of_coreOn _ hon]
  refine ⟨fun h2 h4 hs => congrArg _ (pulseSaturate_raises (hasHandshake_of_ne h2 h4) hs), fun h => congrArg _ ?_⟩
  rw [← or_assoc] at h
  exact pulseSaturate_idle (h.imp_left hasHandshake_of_eq)

end

/-- What a memory error does while the core runs: in a scrubbed memory, in flash and in an engine memory (R11, R263). -/
theorem execMemoryEccError_spec {s : State} (hon : coreOn s = true) (a : Nat) :
    let mark := fun (i : Fin 3) (t : State) => t.scrub[i].bad = a :: s.scrub[i].bad.filter (fun b => b != a) ∧
      t = { s with scrub := t.scrub }
    (∃ t, execMemoryEccError .dram a false s = .next t ∧ t = { s with scrub := t.scrub } ∧ t.scrub[0].bad = s.scrub[0].bad) ∧
    (∃ t, execMemoryEccError .mram a false s = .next t ∧ t = { s with scrub := t.scrub } ∧ t.scrub[1].bad = s.scrub[1].bad) ∧
    (∃ t, execMemoryEccError .sram a false s = .next t ∧ t = { s with scrub := t.scrub } ∧ t.scrub[2].bad = s.scrub[2].bad) ∧
    (∃ t, execMemoryEccError .dram a true s = .next (raiseFault 81 (a / 4 % 65536) t) ∧ mark 0 t) ∧
    (∃ t, execMemoryEccError .mram a true s = .next (raiseFault 85 (a / 4 % 65536) t) ∧ mark 1 t) ∧
    (∃ t, execMemoryEccError .sram a true s = .next (raiseFault 87 (a / 4 % 65536) t) ∧ mark 2 t) ∧
    (∀ d, execMemoryEccError .flash a d s = .next (raiseFault 82 (a / 4 % 65536) s)) ∧
    execMemoryEccError .engine a true s = .next (raiseFault 64 0 { s with eng := { s.eng with eccBad := true } }) ∧
    execMemoryEccError .engine a false s = .next { s with eng := { s.eng with eccFix := s.eng.eccFix + 1 } } := by
  have run := execMemoryEccError_of_coreOn hon
  have single := fun i => And.intro (countSingle_frame i s) (countSingle_bad i s)
  have double := fun i => And.intro (markBad_bad i a s) (markBad_frame i a s)
  exact ⟨⟨_, run .dram a false, single 0⟩, ⟨_, run .mram a false, single 1⟩, ⟨_, run .sram a false, single 2⟩,
    ⟨_, run .dram a true, double 0⟩, ⟨_, run .mram a true, double 1⟩, ⟨_, run .sram a true, double 2⟩,
    fun d => run .flash a d, run .engine a true, run .engine a false⟩

/-- Settles O50: each detector while the core runs, nothing without it, the error hold and the pair. -/
theorem faultDetectorsAndHolds : Obligations.FaultDetectorsAndHolds := by
  refine ⟨fun s hon => ?_, fun s hoff => ?_, fun s => ⟨fun n => execErrHoldExpire_spec, fun hon => ?_⟩⟩
  · have run := fun f => congrArg (Host.Outcome.next (φ := Fault) (ρ := Refusal)) (whenCore_of_coreOn f hon)
    refine ⟨run _, run _, fun _ => run _, execMemoryEccError_spec hon, fun m l => ?_, execCrossingTimeout_spec hon, fun row => ?_,
      run _, run _, fun b hb => ?_, fun b _ => run _⟩
    · obtain ⟨t, hpass, hlast⟩ := scrubPass_spec m l s
      exact ⟨t, (run _).trans (congrArg _ hpass), hlast⟩
    · obtain ⟨hend, hidle, hno⟩ := execCrossingProbe_spec hon row
      obtain ⟨hraise, hquiet⟩ := execCrossingPulseSaturate_spec hon row
      exact ⟨hend, hidle, hno, hraise, hquiet⟩
    · exact (run _).trans (congrArg _ (if_neg (by simp [hb])))
  · have idle := fun f => congrArg (Host.Outcome.next (φ := Fault) (ρ := Refusal)) (whenCore_of_coreOff f hoff)
    exact ⟨⟨idle _, idle _, idle _⟩, fun _ => ⟨idle _, idle _⟩, fun _ _ _ => idle _, fun _ _ => idle _,
      fun _ _ _ => ⟨idle _, idle _, idle _⟩, fun _ => idle _⟩
  · refine ⟨dynToggle s, congrArg _ (whenCore_of_coreOn _ hon), ?_⟩
    rw [dynToggle_eq]
    exact ⟨rfl, rfl, rfl⟩

end Sys2Proof.Machine
end

section
/-! PROOF. SYNC_IN, the calendar, the RTC and the oscillator monitor: what each of their commands does, case by case (R28,
R108 to R117, R212). -/

namespace Sys2Proof.Machine

open Sys2Proof

theorem pulseOk_eq_false_iff {h l : Nat} : pulseOk h l = false ↔ h < 100 ∨ l < 100 := by
  simp only [pulseOk, Bool.and_eq_false_iff, decide_eq_false_iff_not, Nat.not_le]

theorem pulseOk_of_le {h l : Nat} (hh : 100 ≤ h) (hl : 100 ≤ l) : pulseOk h l = true := by simp [pulseOk, hh, hl]

/-! ### SYNC_IN by its role (R112) -/

section
variable {s : State} {h l : Nat} {e f : Int} (r : Bool)

theorem execSyncInEdge_narrow (hp : h < 100 ∨ l < 100) : execSyncInEdge r h l e f s = .next s := by
  simp [execSyncInEdge, pulseOk_eq_false_iff.2 hp]

theorem execSyncInEdge_pps (hh : 100 ≤ h) (hl : 100 ≤ l) (hr : ptpSet s 0x00050D01 = 1) :
    execSyncInEdge r h l e f s =
      .next (if !r || h < 1000 then s else if timeSrc s = 1 then ppsSource e f s else ppsMonitor e s) := by
  simp [execSyncInEdge, pulseOk_of_le hh hl, hr]

theorem execSyncInEdge_trigger (hh : 100 ≤ h) (hl : 100 ≤ l) (hr : ptpSet s 0x00050D01 = 2) :
    execSyncInEdge r h l e f s = .next (if r != (ptpSet s 0x00050D02 == 0) then s else sendTriggers (stampEdge s)) := by
  simp [execSyncInEdge, pulseOk_of_le hh hl, hr]

theorem execSyncInEdge_noRole (h1 : ptpSet s 0x00050D01 ≠ 1) (h2 : ptpSet s 0x00050D01 ≠ 2) :
    execSyncInEdge r h l e f s = .next s := by
  unfold execSyncInEdge
  split
  · rfl
  · split
    case h_1 hr => exact absurd hr h1
    case h_2 hr => exact absurd hr h2
    case h_3 => rfl

end

/-! ### A missing 1PPS, the RTC and the oscillator monitor (R28, R108, R114, R117) -/

section
variable {s : State}

theorem execPpsMissing_raise (h : timeSrc s = 1) (hp : (s.fsrc 51).present = false) :
    execPpsMissing s = .next (raiseFault 51 0 s) := congrArg _ (if_pos ⟨h, hp⟩)

theorem execPpsMissing_idle (h : timeSrc s ≠ 1 ∨ (s.fsrc 51).present = true) : execPpsMissing s = .next s := by
  rcases h with h | h <;> simp [execPpsMissing, h]

theorem execRtcDiscipline_supplied (hv : s.pwr.vsysValid = true) : execRtcDiscipline s = .next (clockGoodSecond
    (modSpring (fun p => countSecond { p with rtcNs := p.mtNs, rtcFrom := some s.clk }) s)) := by
  simp [execRtcDiscipline, hv]

theorem execRtcDiscipline_unsupplied (hv : s.pwr.vsysValid = false) : execRtcDiscipline s = .next s := by
  simp [execRtcDiscipline, hv]

/-- A failing monitor starts the good seconds of FS53 again, and raises it where it is not present. -/
theorem execOscillatorMonitorFail_bad :
    let s1 := (modSpring (fun p => { p with oscBad := true }) s).modSrc 53 fun f => { f with clearCount := 0 }
    ((s.fsrc 53).present = false → execOscillatorMonitorFail false s = .next (raiseFault 53 0 s1)) ∧
    ((s.fsrc 53).present = true → execOscillatorMonitorFail false s = .next s1) := by
  constructor <;> intro hp <;> simp [execOscillatorMonitorFail, hp]

theorem execOscillatorMonitorFail_clear (hp : (s.fsrc 53).present = true) (hf : s.spring.freq.natAbs ≤ 90000) :
    execOscillatorMonitorFail true s = .next (clearFault 53 (modSpring (fun p => { p with oscBad := false }) s)) := by
  simp [execOscillatorMonitorFail, hp, hf]

theorem execOscillatorMonitorFail_stay (h : (s.fsrc 53).present = false ∨ 90000 < s.spring.freq.natAbs) :
    execOscillatorMonitorFail true s = .next (modSpring (fun p => { p with oscBad := false }) s) := by
  have hn : ¬((s.fsrc 53).present = true ∧ s.spring.freq.natAbs ≤ 90000) := by
    rintro ⟨hp, hf⟩
    rcases h with h | h
    · rw [hp] at h
      cases h
    · omega
  simp only [execOscillatorMonitorFail, if_true, if_neg hn]

end

/-- Settles O43: SYNC_IN by its role and its edge, then each of the other commands by its guard. -/
theorem syncInputAndCalendar : Obligations.SyncInputAndCalendar := by
  intro s
  refine ⟨fun r h l e f hp => execSyncInEdge_narrow r hp, fun h l e f hh hl => ⟨fun hr => ?_, fun hr r => ?_, fun h1 h2 r =>
    execSyncInEdge_noRole r h1 h2⟩, execPpsMissing_raise, execPpsMissing_idle, rfl, execRtcDiscipline_supplied,
    execRtcDiscipline_unsupplied, execOscillatorMonitorFail_bad,
    execOscillatorMonitorFail_clear, execOscillatorMonitorFail_stay⟩
  · have pps := fun r => execSyncInEdge_pps (e := e) (f := f) r hh hl hr
    refine ⟨fun hw hs => (pps true).trans ?_, fun hw hs => (pps true).trans ?_, fun hw => (pps true).trans ?_, pps false⟩
    · rw [if_neg (by simpa using hw), if_pos hs]
    · rw [if_neg (by simpa using hw), if_neg hs]
    · simp [hw]
  · have edge := execSyncInEdge_trigger (e := e) (f := f) r hh hl hr
    exact ⟨fun hs => edge.trans (by simp [hs]), fun hs => edge.trans (by simp [hs])⟩

end Sys2Proof.Machine
end

section
/-! PROOF. Start-up from the presence wait to RUN, step by step (R63, R74, R78, R80, R84, R469 to R473). -/

namespace Sys2Proof.Machine

open Sys2Proof

section
variable {s : State}

/-! ### Boot ROM and firmware (R63, R78, R469, R471) -/

theorem execBootBegin_ready (h : bootReady s = true) (casM : Bool) (casId : BitVec 3) (cfw : BootCheck) :
    execBootBegin casM casId cfw s = .next (chooseSlot cfw (drawKeys
      { s with pwr := { s.pwr with straps := casM.toNat * 8 + casId.toNat, presSince := none, softStart := false }
               md := { s.md with bootRom := true } })) := congrArg _ (if_pos h)

theorem execBootBegin_idle (h : bootReady s = false) (casM : Bool) (casId : BitVec 3) (cfw : BootCheck) :
    execBootBegin casM casId cfw s = .next s := by simp [execBootBegin, h]

theorem execFirmwareStart_ready (h : firmwareReady s = true) (ct kt : Int) (vb : Nat) (cmc mram : Bool) :
    execFirmwareStart ct kt vb cmc mram s =
      (let s1 := stormCheck (exitCheck (slotCheck (startClock (bootRegs vb s))))
       .next (soeSystem (1 + 256) (temperatures ct kt
        (openPort (lifeBoot mram (cmcCheck cmc (vioCheck s1.pwr.vioOk s1))))))) := congrArg _ (if_pos h)

theorem execFirmwareStart_idle (h : firmwareReady s = false) (ct kt : Int) (vb : Nat) (cmc mram : Bool) :
    execFirmwareStart ct kt vb cmc mram s = .next s := by simp [execFirmwareStart, h]

/-! ### SELFCAL (R74, R83, R476) -/

theorem execStartupLanesUp_boot (hm : s.md.mode = .m1) (hf : s.md.fwUp = true) (hc : coreOn s = true)
    (hp : s.pwr.failing = false) :
    execStartupLanesUp s = .next ((enterMode .m2 0 s).mapCells fun _ c => startCal s c) :=
  congrArg _ (if_pos ⟨hm, hf, hc, hp⟩)

theorem execStartupLanesUp_idle
    (h : s.md.mode ≠ .m1 ∨ s.md.fwUp = false ∨ coreOn s = false ∨ s.pwr.failing = true) :
    execStartupLanesUp s = .next s := by
  rcases h with h | h | h | h <;> simp [execStartupLanesUp, h]

/-- SELFCAL leads to CONFIGURE; what migration made of the slot is loaded, or the boot falls back (R476, R477). -/
theorem execStartupSelfcalComplete_done (hm : s.md.mode = .m2) (hc : calDone s = true) (cfg : ImgCheck) :
    execStartupSelfcalComplete .none cfg s = .next (startLoad cfg (enterMode .m3 0 s)) ∧
    execStartupSelfcalComplete .migrated cfg s = .next (startLoad cfg (migrate (enterMode .m3 0 s))) ∧
    execStartupSelfcalComplete .failed cfg s = .next (migrationFails (enterMode .m3 0 s)) := by
  have ready : s.md.mode = .m2 ∧ calDone s = true := ⟨hm, hc⟩
  refine ⟨?_, ?_, ?_⟩ <;> rw [execStartupSelfcalComplete, if_pos ready]

theorem execStartupSelfcalComplete_idle (h : s.md.mode ≠ .m2 ∨ calDone s = false) (mig : MigResult) (cfg : ImgCheck) :
    execStartupSelfcalComplete mig cfg s = .next s := by
  rcases h with h | h <;> simp [execStartupSelfcalComplete, h]

/-! ### The end of the configuration load (R80, R473, R486) -/

theorem loadStep_idle (h : s.md.mode ≠ .m3 ∨ s.md.loading = false) : loadStep s = s := by
  rcases h with h | h <;> simp [loadStep, h]

theorem loadEnded_of_loadBad (h : s.md.loadBad = true) : loadEnded s = true := by simp [loadEnded, h]

section
variable (lgp : ImgCheck)

/-- While a load is under way and has not ended, CONFIG_LOAD_COMPLETE is a step of the load. -/
theorem execConfigLoadComplete_stays
    (h : (loadStep s).md.mode ≠ .m3 ∨ (loadStep s).md.loading = false ∨ loadEnded (loadStep s) = false) :
    execConfigLoadComplete lgp s = .next (loadStep s) := by
  rcases h with h | h | h <;> simp [execConfigLoadComplete, h]

variable (hm : (loadStep s).md.mode = .m3) (hl : (loadStep s).md.loading = true)
include hm hl

/-- A load whose packets are all complete puts the image in force. -/
theorem execConfigLoadComplete_good (he : loadEnded (loadStep s) = true) (hb : (loadStep s).md.loadBad = false) :
    execConfigLoadComplete lgp s =
      .next (endLoad true (lgpLoad lgp (configureCells (endSource (imageInForce (loadStep s)))))) := by
  simp only [execConfigLoadComplete, if_pos (And.intro hm (And.intro hl he)), hb]
  rfl

/-- A load that failed drops the image, and the module waits in CONFIGURE. -/
theorem execConfigLoadComplete_bad (hb : (loadStep s).md.loadBad = true) :
    execConfigLoadComplete lgp s = .next (waitForConfig (lgpLoad lgp (configureCells (endSource
      { dropImage (loadStep s) with fw := { (loadStep s).fw with cfgVer := 0 } })))) := by
  simp only [execConfigLoadComplete, if_pos (And.intro hm (And.intro hl (loadEnded_of_loadBad hb))), hb]
  rfl

end

/-! ### ARMED (R74) -/

theorem execArmedTicksElapsed_run (hm : s.md.mode = .m4) (hs : s.md.armedStart = 0) (ht : 8 ≤ s.md.armed) :
    execArmedTicksElapsed s = .next (decideMode .armedEnd s) := congrArg _ (if_pos ⟨hm, hs, ht⟩)

theorem execArmedTicksElapsed_idle (h : s.md.mode ≠ .m4 ∨ s.md.armedStart ≠ 0 ∨ s.md.armed < 8) :
    execArmedTicksElapsed s = .next s := by
  rcases h with h | h | h
  · simp [execArmedTicksElapsed, h]
  · simp [execArmedTicksElapsed, h]
  · simp [execArmedTicksElapsed, Nat.not_le.2 h]

end

/-- Settles O24: each step of start-up where its guard holds, and nothing where it does not. -/
theorem startup : Obligations.Startup := by
  refine ⟨fun s => ⟨execBootBegin_ready, execBootBegin_idle, execFirmwareStart_ready, execFirmwareStart_idle⟩,
    fun s => ⟨execStartupLanesUp_boot, execStartupLanesUp_idle, execStartupSelfcalComplete_done, execStartupSelfcalComplete_idle,
      fun _ _ lgp => ⟨execConfigLoadComplete_good lgp, execConfigLoadComplete_bad lgp, fun he => ?_⟩, fun h lgp => ?_,
      execArmedTicksElapsed_run, execArmedTicksElapsed_idle⟩⟩
  · exact execConfigLoadComplete_stays lgp (.inr (.inr he))
  · have hstep : loadStep s = s := loadStep_idle h
    have stays := execConfigLoadComplete_stays (s := s) lgp
    rw [hstep] at stays
    exact stays (by rw [← or_assoc]; exact .inl h)

end Sys2Proof.Machine
end

section
/-! PROOF. What an event may change in a cell: the cause bits and their records, and by a BLK reaction a cell reset or the
drop of its lane (R145, R412, R421, R422, Table 18-4). A property of a cell that none of these ends is kept by every event. -/

namespace Sys2Proof.Machine

open Sys2Proof

/-- A property of a cell that no report of a condition ends, nor a reset of the cell, nor the loss of its lane. -/
structure EventStable (P : Cell → Prop) : Prop where
  report : ∀ (c : Cell) (cause causeNow cond tickBits : BitVec 26) (hist : Vector Hist 26) (untagged : Bool) (tse : Option Nat),
    P c → P { c with cause := cause, causeNow := causeNow, cond := cond, tickBits := tickBits, causeHist := hist
                     tickUntagged := untagged, tse := tse }
  reset : ∀ c, P c → P (resetCell 1 c)
  drop : ∀ clk c, P c → P (dropLane clk c)

@[simp] theorem refreshLoss_cells (s : State) : (refreshLoss s).cells = s.cells := by
  unfold refreshLoss
  dsimp only
  split
  · rfl
  · split
    · exact decideMode_cells _ _
    · rfl

theorem onBit_keeps {Q : State → Prop} {s : State} {f : State → State} (m : BitVec 6) (i : Nat) (hf : ∀ v, Q v → Q (f v))
    (h : Q s) : Q (onBit m i f s) := by
  unfold onBit
  split
  · exact hf _ h
  · exact h

@[simp] theorem taggedEvent_cells (n : Fin 96) (s : State) : (taggedEvent n s).cells = s.cells := by
  unfold taggedEvent
  exact onBit_keeps (Q := fun v => v.cells = s.cells) _ _ (fun v hv => (reactInt_cells v n).trans hv) rfl

@[simp] theorem diesTagged_cells (up : List Ch) (s : State) : (diesTagged up s).cells = s.cells := by
  unfold diesTagged
  exact List.foldlRecOn (motive := fun v : State => v.cells = s.cells) _ _ rfl fun v hv d _ => (taggedEvent_cells _ _).trans hv

section
variable {P : Cell → Prop} {s t : State} {k : Ch}

theorem cell_keeps_of_cells (hc : t.cells = s.cells) (h : P (s.cell k)) : P (t.cell k) := by rwa [cell_congr hc]

theorem cell_keeps_modCell {f : Cell → Cell} (ch : Ch) (hf : ∀ c, P c → P (f c)) (h : P (s.cell k)) :
    P ((s.modCell ch f).cell k) := by
  by_cases hk : k = ch
  · subst hk
    rw [cell_modCell_same]
    exact hf _ h
  · rwa [cell_modCell_ne _ _ _ _ hk]

namespace EventStable

variable (hP : EventStable P) (h : P (s.cell k))
include hP h

theorem resetBlock (b : Block) : P ((resetBlock s b).cell k) := by
  cases b
  case cell c => exact cell_keeps_modCell c hP.reset h
  case headgate =>
    refine cell_keeps_of_cells (s := s.mapCells fun _ c => dropLane s.clk c) rfl ?_
    rw [cell_mapCells]
    exact hP.drop _ _ h
  all_goals exact h

theorem laneTagged (ch : Ch) : P ((laneTagged s ch).cell k) := by
  unfold Machine.laneTagged
  dsimp only
  generalize hm : s.modCell ch _ = m
  have bits : P ((m.setPresent (cellFs ch) true).cell k) := by
    subst hm
    exact cell_keeps_of_cells (State.setPresent_cells _ _ _)
      (cell_keeps_modCell ch (fun c hc => hP.report c _ _ _ _ _ _ _ hc) h)
  split
  · exact cell_keeps_of_cells (taggedEvent_cells _ _) bits
  · exact bits

theorem headgateFell (up : List Ch) : P ((headgateFell up s).cell k) :=
  cell_keeps_of_cells (diesTagged_cells _ _)
    (List.foldlRecOn (motive := fun v : State => P (v.cell k)) up _ h fun _ hv ch _ => hP.laneTagged hv ch)

theorem reactBlk (n : Fin 96) : P ((reactBlk n s).cell k) := by
  unfold Machine.reactBlk
  split
  · exact h
  · split
    · exact h
    · have opened := fun b => cell_keeps_of_cells (openWindow_cells (Machine.resetBlock s b) b) (hP.resetBlock h b)
      refine cell_keeps_of_cells (refreshLoss_cells _) ?_
      split
      · exact hP.headgateFell (opened _) _
      · exact opened _

/-- Of the reactions BLK alone touches a cell. -/
theorem applyReactions (n : Fin 96) (m : BitVec 6) (inj : Bool) : P ((applyReactions n m inj s).cell k) := by
  have noCells := fun (f : State → State) (hf : ∀ v, (f v).cells = v.cells) (i : Nat) (v : State) =>
    onBit_keeps (Q := fun v => P (v.cell k)) (s := v) m i (fun w => cell_keeps_of_cells (hf w))
  unfold Machine.applyReactions
  dsimp only
  have woken : P ((if m &&& 3 = 0 then s else s.wakeCore).cell k) := by split <;> exact h
  have told := noCells _ (reactErr_cells · n) 4 _ (noCells _ (reactTrap_cells · n) 1 _ (noCells _ (reactInt_cells · n) 0 _ woken))
  generalize onBit m 4 (reactErr n) _ = a at told ⊢
  have chip : P ((if inj then a else onBit m 3 (reactChip n) a).cell k) := by
    split
    · exact told
    · exact noCells _ (reactChip_cells · n) 3 _ told
  generalize (if inj = true then a else _) = b at chip ⊢
  have blk : P ((if b.flt.chipDecided then b else onBit m 2 (Machine.reactBlk n) b).cell k) := by
    split
    · exact chip
    · exact onBit_keeps (Q := fun v => P (v.cell k)) m 2 (fun v hv => hP.reactBlk hv n) chip
  generalize (if b.flt.chipDecided = true then b else _) = d at blk ⊢
  split
  · exact blk
  · exact noCells _ reactSafe_cells 5 _ blk

theorem handleEvent (e : FaultEv) : P ((handleEvent e s).cell k) := by
  unfold Machine.handleEvent
  split
  · exact h
  · dsimp only
    refine hP.applyReactions ?_ _ _ _
    exact h

theorem compositeEvent (ch : Ch) (bit : Fin 26) (tagged inj : Bool) : P ((compositeEvent ch bit tagged inj s).cell k) := by
  unfold Machine.compositeEvent
  dsimp only
  split
  · exact hP.handleEvent h _
  · split
    · exact h
    · refine hP.applyReactions ?_ _ _ _
      exact h

theorem causeEvent (ch : Ch) (bit : Fin 26) (inj : Bool) : P ((causeEvent ch bit inj s).cell k) := by
  unfold Machine.causeEvent causeEventAs
  dsimp only
  refine cell_keeps_modCell ch (fun c hc => hP.report c _ _ _ _ _ _ _ hc) (hP.compositeEvent ?_ _ _ _ _)
  exact cell_keeps_modCell ch (fun c hc => hP.report c _ _ _ _ _ _ _ hc) h

theorem causeOn (ch : Ch) (bit : Fin 26) : P ((causeOn ch bit s).cell k) := by
  unfold Machine.causeOn
  split
  · exact h
  · refine hP.causeEvent (cell_keeps_of_cells (State.setPresent_cells _ _ _) ?_) ch bit false
    exact cell_keeps_modCell ch (fun c hc => hP.report c _ _ _ _ _ _ _ hc) h

theorem condOn (ch : Ch) (bit : Fin 26) : P ((condOn ch bit s).cell k) := by
  unfold Machine.condOn
  dsimp only
  generalize hm : s.modCell ch _ = m
  have known : P (m.cell k) := by
    subst hm
    exact cell_keeps_modCell ch (fun c hc => hP.report c _ _ _ _ _ _ _ hc) h
  split
  · exact hP.causeOn known ch bit
  · exact known

end EventStable

end

/-- A cell without outputs stays one: its function keeps or, after a reset, is OFF. -/
theorem eventStable_noOutput : EventStable fun c => isOut c.func = false where
  report _ _ _ _ _ _ _ _ h := h
  reset _ _ := rfl
  drop clk c h := by
    unfold dropLane keepRegs
    split <;> exact h

end Sys2Proof.Machine
end

section
/-! PROOF. A cell's power-up, its resets, the loss of its supply, its power state, its watchdog and its OUT frames (R41, R49 to
R52, R124, R128, R133, R136, R137, R143, R232). -/

namespace Sys2Proof.Machine

open Sys2Proof

/-- A change of one cell is known by what it makes of that cell. -/
theorem modCell_congr {s : State} {ch : Ch} {f g : Cell → Cell} (h : f (s.cell ch) = g (s.cell ch)) :
    s.modCell ch f = s.modCell ch g := by
  have hc : f s.cells[ch] = g s.cells[ch] := h
  rw [State.modCell, State.modCell, hc]

section
variable {s : State} {ch : Ch}

/-! ### Power-up (R49, R50, R52, R232) -/

theorem execCellPowerUp_field (ha : sourceAllowed (s.cell ch) 1 = true) :
    execCellPowerUp ch true s = .next (powerUpCell ch 1 s) := by simp [execCellPowerUp, ha]

theorem execCellPowerUp_field_idle (ha : sourceAllowed (s.cell ch) 1 = false) : execCellPowerUp ch true s = .next s := by
  simp [execCellPowerUp, ha]

theorem execCellPowerUp_coupler (ha : sourceAllowed (s.cell ch) 0 = true) (hc : s.pwr.couplers = true) :
    execCellPowerUp ch false s = .next (powerUpCell ch 0 s) := by simp [execCellPowerUp, ha, hc]

theorem execCellPowerUp_coupler_idle (h : sourceAllowed (s.cell ch) 0 = false ∨ s.pwr.couplers = false) :
    execCellPowerUp ch false s = .next s := by
  rcases h with h | h <;> simp [execCellPowerUp, h]

theorem execAopLoopPowerUp_loop (ha : sourceAllowed (s.cell ch) 2 = true) :
    execAopLoopPowerUp ch s = .next (powerUpCell ch 2 s) := by simp [execAopLoopPowerUp, ha]

theorem execAopLoopPowerUp_idle (ha : sourceAllowed (s.cell ch) 2 = false) : execAopLoopPowerUp ch s = .next s := by
  simp [execAopLoopPowerUp, ha]

/-! ### Resets and the loss of a supply (R41, R49, R133, R136) -/

/-- Whatever the cause's bit did before, the cell is then as its reset leaves it. -/
theorem cell_cellResets (hp : (s.cell ch).powered = true) (why : Nat) :
    ∃ c, (cellResets ch why s).cell ch = resetCell why c := by
  rw [cellResets, hp, if_neg (by decide), cell_congr (refreshLoss_cells _), cell_modCell_same]
  exact ⟨_, rfl⟩

/-- CELL_RESET of a powered cell. -/
theorem execCellReset_spec (hp : (s.cell ch).powered = true) (why : BitVec 4) :
    ∃ t, execCellReset ch why s = .next t ∧ (t.cell ch).running = false ∧ (t.cell ch).sw.on = false ∧
      (t.cell ch).committed = false ∧ (t.cell ch).wd = .normal ∧ (t.cell ch).rstFlag = true ∧
      (t.cell ch).whyNext = why.toNat ∧ (t.cell ch).func = .off := by
  obtain ⟨c, hc⟩ := cell_cellResets hp why.toNat
  refine ⟨_, rfl, ?_⟩
  rw [hc]
  exact ⟨rfl, rfl, rfl, rfl, rfl, rfl, rfl⟩

/-- WD_SEQ_EXPIRE of a powered cell. -/
theorem execWdSeqExpire_spec (hp : (s.cell ch).powered = true) :
    ∃ t, execWdSeqExpire ch s = .next t ∧ (t.cell ch).running = false ∧ (t.cell ch).whyNext = 2 ∧
      (t.cell ch).rstFlag = true := by
  obtain ⟨c, hc⟩ := cell_cellResets hp 2
  refine ⟨_, rfl, ?_⟩
  rw [hc]
  exact ⟨rfl, rfl, rfl⟩

/-- CELL_SUPPLY_LOSS of a powered cell that is not on INT. -/
theorem execCellSupplyLoss_spec (hp : (s.cell ch).powered = true) (hs : (s.cell ch).src ≠ 0) :
    ∃ t, execCellSupplyLoss ch s = .next t ∧ (t.cell ch).powered = false ∧ (t.cell ch).whyNext = 3 ∧
      (t.cell ch).committed = false := by
  obtain ⟨c, hc⟩ := cell_cellResets hp 3
  refine ⟨_, congrArg Host.Outcome.next (if_neg hs), ?_⟩
  rw [cell_modCell_same, hc]
  exact ⟨rfl, rfl, rfl⟩

theorem execCellSupplyLoss_int (hs : (s.cell ch).src = 0) : execCellSupplyLoss ch s = .next s := congrArg _ (if_pos hs)

theorem execCellPowerStateEnter_running (hr : (s.cell ch).running = true) (h : Nat) :
    execCellPowerStateEnter ch h s = .next (s.modCell ch fun c =>
      { c with pstate := if h < 1000 then 1 else if h < 20000 then 2 else 3 }) :=
  congrArg Host.Outcome.next (modCell_congr (if_pos hr))

/-! ### The watchdog (R137, R143) -/

theorem execWdLaneExpire_normal (hr : (s.cell ch).running = true) (hw : (s.cell ch).wd = .normal) :
    execWdLaneExpire ch s = .next (wdExpire ch s) := by simp [execWdLaneExpire, hr, hw]

theorem execWdLaneExpire_idle (hw : (s.cell ch).wd ≠ .normal) : execWdLaneExpire ch s = .next s := by
  simp [execWdLaneExpire, hw]

theorem execHoldoverExpire_holdover (hr : (s.cell ch).running = true) (hw : (s.cell ch).wd = .holdover) :
    execHoldoverExpire ch s = .next (wdExpire ch s) := by simp [execHoldoverExpire, hr, hw]

theorem execHoldoverExpire_idle (hw : (s.cell ch).wd ≠ .holdover) : execHoldoverExpire ch s = .next s := by
  simp [execHoldoverExpire, hw]

/-- The expiry at a cell without outputs is its state and WD_LANE alone: what WD_LANE sets off gives the cell no output. -/
theorem wdExpire_of_noOutput (ho : isOut (s.cell ch).func = false) :
    wdExpire ch s = condOn ch cbWdLane (s.modCell ch fun c => { c with wd := .expired, pstate := 0 }) := by
  have hstill := eventStable_noOutput.condOn (k := ch)
    (s := s.modCell ch fun c => { c with wd := .expired, pstate := 0 }) (by rwa [cell_modCell_same]) ch cbWdLane
  rw [wdExpire, if_neg (by rw [hstill]; decide)]

/-! ### OUT frames (R124, R128) -/

theorem execOutFrameReceived_good {r : LaneRx} {o : OutFrame} (hf : rxFrame r = some (.out o))
    (hr : (s.cell ch).running = true) (hu : (s.cell ch).lane.state = .up) :
    execOutFrameReceived ch r s = .next (s.modCell ch fun c => { c with out := some o, pstate := 0 }) := by
  refine congrArg _ (modCell_congr ?_)
  rw [hf]
  exact if_pos ⟨hr, hu⟩

theorem execOutFrameReceived_bad {r : LaneRx} (hf : rxFrame r = none) :
    execOutFrameReceived ch r s = .next (s.modCell ch fun c => c) := by
  refine congrArg _ (modCell_congr ?_)
  rw [hf]

end

/-- Settles O12: power-up by its source, resets and supply loss by what a reset leaves of the cell, then the watchdog and OUT. -/
theorem cellPowerAndWatchdog : Obligations.CellPowerAndWatchdog := by
  refine ⟨fun s ch => ⟨execCellPowerUp_field, execCellPowerUp_coupler, execCellPowerUp_coupler_idle, execCellPowerUp_field_idle,
      execAopLoopPowerUp_loop, execAopLoopPowerUp_idle,
      fun hp => ⟨execCellReset_spec hp, execWdSeqExpire_spec hp, execCellSupplyLoss_spec hp⟩,
      execCellSupplyLoss_int, execCellPowerStateEnter_running⟩,
    fun s ch hr => ⟨execWdLaneExpire_normal hr, execHoldoverExpire_holdover hr, execWdLaneExpire_idle, execHoldoverExpire_idle,
      wdExpire_of_noOutput, fun r o hf => execOutFrameReceived_good hf hr, fun r => execOutFrameReceived_bad⟩⟩

end Sys2Proof.Machine
end

section
/-! PROOF. The states of a lane, its loss, and the HELLO of a cell on a lane that is not UP (R60, R123, R125 to R127). -/

namespace Sys2Proof.Machine

open Sys2Proof

/-- The lane is DOWN with no frame in flight to the cell, and the cell's image value is not valid. -/
def laneOff (c : Cell) : Prop := c.lane.state = .down ∧ c.lane.tx = none ∧ c.valid = false

theorem laneOff_dropLane (clk : Nat) (c : Cell) : laneOff (dropLane clk c) := ⟨rfl, rfl, rfl⟩

/-- Neither a cell reset nor another event brings a lane back that is DOWN. -/
theorem eventStable_laneOff : EventStable laneOff where
  report _ _ _ _ _ _ _ _ h := h
  reset c h := by
    obtain ⟨hstate, htx, -⟩ := h
    unfold resetCell fieldSideReset keepRegs
    split <;> exact ⟨hstate, htx, rfl⟩
  drop clk c _ := laneOff_dropLane clk c

theorem EventStable.raiseFault {P : Cell → Prop} (hP : EventStable P) {s : State} {k : Ch} (h : P (s.cell k)) (n : Fin 96)
    (detail : Nat) : P ((raiseFault n detail s).cell k) := by
  unfold Machine.raiseFault
  refine hP.handleEvent ?_ _
  split
  · exact h
  · exact cell_keeps_of_cells (State.setPresent_cells _ _ _) h

section
variable {s : State} {ch : Ch}

theorem laneOff_laneDown : laneOff ((laneDown ch s).cell ch) := by
  refine cell_keeps_of_cells (refreshLoss_cells _) (eventStable_laneOff.causeOn ?_ ch cbLane)
  rw [cell_modCell_same]
  exact laneOff_dropLane _ _

/-- What the loss sets off, LANE and FS38, leaves the lane DOWN. -/
theorem laneOff_laneLost (h : (s.cell ch).lane.state ≠ .down) : laneOff ((laneLost ch s).cell ch) := by
  unfold laneLost
  rw [if_neg h]
  dsimp only
  generalize hd : (if ((s.cell ch).lane.state == .up) = true then laneDown ch s else s.modCell ch (dropLane s.clk)) = d
  have down : laneOff (d.cell ch) := by
    subst hd
    split
    · exact laneOff_laneDown
    · rw [cell_modCell_same]
      exact laneOff_dropLane _ _
  split
  · refine eventStable_laneOff.raiseFault ?_ 38 0
    exact down
  · exact down

theorem execLaneCommaDetected_down (hp : (s.cell ch).powered = true) (hl : (s.cell ch).lane.state = .down) :
    execLaneCommaDetected ch s = .next (modLane ch (fun l => { l with state := .train, trainAt := s.clk }) s.wakeCore) :=
  congrArg _ (if_pos ⟨hp, hl⟩)

theorem execLaneCommaDetected_idle (h : (s.cell ch).powered = false ∨ (s.cell ch).lane.state ≠ .down) :
    execLaneCommaDetected ch s = .next s := by
  rcases h with h | h <;> simp [execLaneCommaDetected, h]

theorem execLaneTrainTimeout_train (hl : (s.cell ch).lane.state = .train) :
    execLaneTrainTimeout ch s = .next (modLane ch (fun l => { l with state := .down }) s.wakeCore) := congrArg _ (if_pos hl)

theorem execLaneTrainTimeout_idle (hl : (s.cell ch).lane.state ≠ .train) : execLaneTrainTimeout ch s = .next s :=
  congrArg _ (if_neg hl)

theorem execLaneSymbolLoss_spec (hl : (s.cell ch).lane.state ≠ .down) : ∃ t, execLaneSymbolLoss ch s = .next t ∧
    (t.cell ch).lane.state = .down ∧ (t.cell ch).lane.tx = none ∧ (t.cell ch).valid = false :=
  ⟨_, rfl, laneOff_laneLost (s := s.wakeCore) hl⟩

theorem execLaneSymbolLoss_down (hl : (s.cell ch).lane.state = .down) : execLaneSymbolLoss ch s = .next s.wakeCore :=
  congrArg _ (if_pos hl)

theorem execHelloRepeat_notUp (hp : (s.cell ch).powered = true) (hl : (s.cell ch).lane.state ≠ .up) :
    execHelloRepeat ch s = .next (modLane ch (fun l => { l with up := some ⟨.hello, 0, 1, s.clk⟩ }) s) :=
  congrArg _ (if_pos ⟨hp, hl⟩)

theorem execHelloRepeat_idle (h : (s.cell ch).powered = false ∨ (s.cell ch).lane.state = .up) :
    execHelloRepeat ch s = .next s := by
  rcases h with h | h <;> simp [execHelloRepeat, h]

end

/-- Settles O14: each lane command in the lane state it acts in, and in the others. -/
theorem laneStates : Obligations.LaneStates := fun _ _ =>
  ⟨execLaneCommaDetected_down, execLaneCommaDetected_idle, execLaneTrainTimeout_train, execLaneTrainTimeout_idle,
    execLaneSymbolLoss_spec, execLaneSymbolLoss_down, execHelloRepeat_notUp, execHelloRepeat_idle⟩

end Sys2Proof.Machine
end

section
/-! PROOF. Supplies and presence, and the end of the power-fail sequence (R45, R63, R66, R67, R82, Table 2-5). -/

namespace Sys2Proof.Machine

open Sys2Proof

section
variable {s : State}

/-! ### The hold in reset (R66, Table 2-5) -/

/-- What a module holds itself in reset with: a closed host port, no sequence, and of MRAM all that stood there. -/
theorem holdCore_spec (m : Mode) (s : State) :
    (holdCore m s).pwr = { corePwr s.pwr with heldReset := true } ∧ (holdCore m s).md.mode = m ∧
      (holdCore m s).md.fwUp = false ∧ (holdCore m s).hp = {} ∧ (holdCore m s).life.saved = s.life.saved ∧
      (holdCore m s).soe.mlog = s.soe.mlog := ⟨rfl, rfl, rfl, rfl, rfl, rfl⟩

/-- A reset gives a source its default settings; its history stays (R417). -/
theorem holdCore_fsrc (m : Mode) (s : State) (n : Fin 96) : (holdCore m s).fsrc n = coreSrc n.val (s.fsrc n) := by
  change (Vector.ofFn fun i : Fin 96 => coreSrc i.val s.srcs[i])[n] = _
  simp [State.fsrc]

/-- Supplies and pins stand outside the reset. -/
theorem holdReset_supply (s : State) :
    (holdReset s).pwr.vsysValid = s.pwr.vsysValid ∧ (holdReset s).pwr.presLow = s.pwr.presLow := ⟨rfl, rfl⟩

/-! ### The end of the sequence (R66, R67) -/

/-- What the flush leaves: with its completion marker the counters are saved, without it nothing is changed. -/
def afterFlush (inTime : Bool) (s : State) : State :=
  if inTime || s.pwr.holdupOk then modPwr (fun p => { p with marker := true }) (lifeSave s) else s

theorem afterFlush_pwr (inTime : Bool) (s : State) :
    (afterFlush inTime s).pwr = { s.pwr with marker := inTime || s.pwr.holdupOk || s.pwr.marker } := by
  obtain ⟨-, -, -, saved⟩ := lifeSave_spec s
  unfold afterFlush
  split
  case isTrue h => rw [h, modPwr_pwr, saved, Bool.true_or]
  case isFalse h => rw [Bool.eq_false_iff.2 h, Bool.false_or]

theorem afterFlush_logs (inTime : Bool) (s : State) :
    (afterFlush inTime s).soe = s.soe ∧ (afterFlush inTime s).srcs = s.srcs := by
  obtain ⟨-, -, -, saved⟩ := lifeSave_spec s
  unfold afterFlush
  split
  · rw [modPwr_soe, modPwr_srcs, saved]
    exact ⟨rfl, rfl⟩
  · exact ⟨rfl, rfl⟩

theorem endPowerFail_eq (inTime : Bool) (s : State) : endPowerFail inTime s =
    if s.pwr.vsysValid && s.pwr.presLow then powerOnReset (if s.pwr.failByPres then 1 else 0) (holdReset (afterFlush inTime s))
    else holdReset (afterFlush inTime s) := by
  obtain ⟨hvsys, hpres⟩ := holdReset_supply (afterFlush inTime s)
  have vsys : (holdReset (afterFlush inTime s)).pwr.vsysValid = s.pwr.vsysValid := hvsys.trans (by rw [afterFlush_pwr])
  have pres : (holdReset (afterFlush inTime s)).pwr.presLow = s.pwr.presLow := hpres.trans (by rw [afterFlush_pwr])
  rw [← vsys, ← pres]
  rfl

/-- The module that holds itself in reset at the end of the sequence. -/
theorem holdReset_afterFlush (inTime : Bool) (s : State) :
    let t := holdReset (afterFlush inTime s)
    t.pwr.heldReset = true ∧ t.pwr.failing = false ∧ t.pwr.marker = (inTime || s.pwr.holdupOk || s.pwr.marker) ∧
      t.md.fwUp = false ∧ t.hp = {} ∧ t.md.mode = (if s.pwr.vbatPresent then Mode.m0 else Mode.m1) ∧
      t.life.saved = (afterFlush inTime s).life.saved ∧ t.soe.mlog = s.soe.mlog ∧
      ∀ n : Fin 96, (t.fsrc n).hist = (s.fsrc n).hist := by
  obtain ⟨soe, srcs⟩ := afterFlush_logs inTime s
  have pwr := afterFlush_pwr inTime s
  obtain ⟨hpwr, hmode, hup, hhp, hlife, hsoe⟩ :=
    holdCore_spec (if (afterFlush inTime s).pwr.vbatPresent then .m0 else .m1) (afterFlush inTime s)
  dsimp only [holdReset]
  refine ⟨by rw [hpwr], by rw [hpwr]; rfl, by rw [hpwr, pwr]; rfl, hup, hhp, by rw [hmode, pwr], hlife, by rw [hsoe, soe],
    fun n => ?_⟩
  rw [holdCore_fsrc, ← fsrc_congr srcs]
  rfl

theorem execPowerFailComplete_failing (hf : s.pwr.failing = true) (inTime : Bool) :
    execPowerFailComplete inTime s = .next (endPowerFail inTime s) := congrArg _ (if_pos hf)

theorem execPowerFailComplete_idle (hf : s.pwr.failing = false) (inTime : Bool) :
    execPowerFailComplete inTime s = .next s := by simp [execPowerFailComplete, hf]

end

/-- Settles O21: the flush, then the hold in reset, and a boot where VSYS and PRES_N are back. -/
theorem powerFailEnds : Obligations.PowerFailEnds := by
  intro s inTime
  refine ⟨fun hf => execPowerFailComplete_idle hf inTime, fun hf => ?_⟩
  have ends := execPowerFailComplete_failing hf inTime
  rw [endPowerFail_eq] at ends
  refine ⟨fun hb => ⟨_, ends.trans (congrArg _ (if_neg ?_)), rfl, holdReset_afterFlush inTime s⟩,
    fun hv hp => ends.trans (congrArg _ (if_pos ?_))⟩
  · rcases hb with hb | hb <;> simp [hb]
  · simp [hv, hp]

section
variable {s : State}

/-! ### VSYS (R45, R47, R66) -/

/-- What comes back with VSYS does not end a sequence that runs. -/
theorem vsysBack_failing (s : State) : (vsysBack s).pwr.failing = s.pwr.failing := by
  unfold vsysBack leapAfter
  dsimp only
  split <;> rfl

theorem execVsysValid_boots {mv : Nat} (hv : s.pwr.vsysValid = false) (hm : 17000 ≤ mv) (hf : s.pwr.failing = false) :
    execVsysValid mv s = .next (powerOnReset 0 (vsysBack s)) := by
  simp [execVsysValid, hv, Nat.not_lt.2 hm, vsysBack_failing, hf]

theorem execVsysValid_failing {mv : Nat} (hv : s.pwr.vsysValid = false) (hm : 17000 ≤ mv) (hf : s.pwr.failing = true) :
    execVsysValid mv s = .next (vsysBack s) := by
  simp [execVsysValid, hv, Nat.not_lt.2 hm, vsysBack_failing, hf]

theorem execVsysValid_idle {mv : Nat} (h : s.pwr.vsysValid = true ∨ mv < 17000) : execVsysValid mv s = .next s := by
  rcases h with h | h <;> simp [execVsysValid, h]

theorem losePower_starts (why : Nat) (hf : s.pwr.failing = false) (hh : isHeld s = false) (hq : s.pwr.qack = false) :
    losePower why s = startPowerFail why s := by simp [losePower, hf, hh, hq]

theorem losePower_holds (why : Nat) (hf : s.pwr.failing = false) (hh : isHeld s = false) (hq : s.pwr.qack = true) :
    losePower why s = holdAfterQack s := by simp [losePower, hf, hh, hq]

theorem losePower_idle (why : Nat) (h : s.pwr.failing = true ∨ isHeld s = true) : losePower why s = s := by
  rcases h with h | h <;> simp [losePower, h]

theorem execVsysPowerFail_valid (hv : s.pwr.vsysValid = true) (mv : Nat) :
    execVsysPowerFail mv s = .next (losePower 2 (freeRtc (modPwr (noteVbat mv) s))) := congrArg _ (if_pos hv)

theorem execVsysPowerFail_idle (hv : s.pwr.vsysValid = false) (mv : Nat) : execVsysPowerFail mv s = .next s := by
  simp [execVsysPowerFail, hv]

/-! ### PRES_N (R63, R66) -/

theorem execPresNLow_boots (hp : s.pwr.presLow = false) (hv : s.pwr.vsysValid = true) (hh : isHeld s = true)
    (hf : s.pwr.failing = false) : execPresNLow s = .next (powerOnReset 1 (presDown s)) := by
  simp [execPresNLow, hp, hv, hh, hf]

theorem execPresNLow_waits (hp : s.pwr.presLow = false) (hh : isHeld s = false) (ha : awaitsPresence s = true) :
    execPresNLow s = .next { s with
      pwr := { s.pwr with presLow := true, presSince := some s.clk }, md := { s.md with cause := 1 } } := by
  simp [execPresNLow, hp, hh, ha, modMd, modPwr, presWait, presDown]

theorem execPresNLow_wakes (hp : s.pwr.presLow = false) (hh : isHeld s = false) (ha : awaitsPresence s = false) :
    execPresNLow s = .next (presDown s).wakeCore := by simp [execPresNLow, hp, hh, ha]

theorem execPresNLow_idle (hp : s.pwr.presLow = true) : execPresNLow s = .next s := by simp [execPresNLow, hp]

theorem execPresNRelease_idle (hp : s.pwr.presLow = false) : execPresNRelease s = .next s := by simp [execPresNRelease, hp]

/-- The pin does not decide whether the module still waits. -/
theorem execPresNRelease_low (hp : s.pwr.presLow = true) :
    execPresNRelease s =
      (let s1 := { s with pwr := { s.pwr with presLow := false, presSince := none, pstate := 0, wakeAt := none } }
       .next (if awaitsPresence s then s1 else losePower 1 s1)) := by
  rw [execPresNRelease, hp]
  rfl

end

/-- Settles O20: VSYS, the hold-up store and PRES_N, edge by edge; loss of either is the one operation `losePower`. -/
theorem supplyAndPresence : Obligations.SupplyAndPresence := by
  intro s
  refine ⟨fun hv mv hm => ⟨execVsysValid_boots hv hm, execVsysValid_failing hv hm⟩, fun mv => execVsysValid_idle,
    fun hv mv => ?_, execVsysPowerFail_idle, rfl, rfl,
    fun hp => ⟨execPresNLow_boots hp, execPresNLow_waits hp, execPresNLow_wakes hp⟩, execPresNLow_idle, execPresNRelease_idle,
    fun hp => ?_⟩
  · have lost := execVsysPowerFail_valid hv mv
    exact ⟨fun hf hh hq => lost.trans (congrArg _ (losePower_starts 2 hf hh hq)),
      fun hf hh hq => lost.trans (congrArg _ (losePower_holds 2 hf hh hq)),
      fun h => lost.trans (congrArg _ (losePower_idle 2 h))⟩
  · have released := execPresNRelease_low hp
    refine ⟨fun ha => released.trans (congrArg _ (if_pos ha)), fun ha hf hh => released.trans (congrArg _ ?_),
      fun ha h => released.trans (congrArg _ ?_)⟩
    · rw [ha, if_neg Bool.false_ne_true]
      split
      case isTrue hq => exact losePower_holds 1 hf hh hq
      case isFalse hq => exact losePower_starts 1 hf hh (Bool.eq_false_iff.2 hq)
    · rw [ha, if_neg Bool.false_ne_true]
      exact losePower_idle 1 h

end Sys2Proof.Machine
end

section
/-! PROOF. The supply and temperature monitors (R46, R47, R57, R68, R69, Table 3-10). -/

namespace Sys2Proof.Machine

open Sys2Proof

section
variable {s : State}

theorem execVbatBrownout_absent (hv : s.pwr.vsysValid = false) :
    execVbatBrownout s = .next { s with pwr := { s.pwr with brown := true } } := by simp [execVbatBrownout, hv, modPwr]

theorem execVbatBrownout_idle (hv : s.pwr.vsysValid = true) : execVbatBrownout s = .next s := congrArg _ (if_pos hv)

theorem execVioRangeChange_core (mv : Nat) (hc : coreOn s = true) (hv : s.pwr.vsysValid = true) :
    execVioRangeChange mv s =
      .next (levelFault 42 (!vioInside mv) (vioInside mv) { s with pwr := { s.pwr with vioOk := vioInside mv } }) := by
  simp [execVioRangeChange, hc, hv, vioCheck, modPwr]

theorem execVioRangeChange_noCore (mv : Nat) (h : coreOn s = false ∨ s.pwr.vsysValid = false) :
    execVioRangeChange mv s = .next { s with pwr := { s.pwr with vioOk := vioInside mv } } := by
  rcases h with h | h <;> simp [execVioRangeChange, h, modPwr]

section
variable (hm : monitors s = true)
include hm

theorem execVbatCheck_monitors (mv : Nat) : execVbatCheck mv s = .next (levelFault 43 (decide (mv < 2000)) (decide (2100 ≤ mv))
    { s with pwr := { s.pwr with vbatMv := mv, vbatOk := decide (2000 ≤ mv), vbatPresent := decide (0 < mv) } }) :=
  congrArg _ (if_pos hm)

theorem execVsysSample_monitors (mv : Nat) : execVsysSample mv s = .next (levelFault 41 (decide (37000 < mv))
    (!decide (36500 < mv) && decide (s.pwr.inMw ≤ 40000)) { s with pwr := { s.pwr with vHigh := decide (36500 < mv) } }) :=
  congrArg _ (if_pos hm)

/-- FS40 first, then FS42 where VIO left its range, FS41 on the state they leave, and FS47. -/
theorem execPowerAverageUpdate_monitors (x : SupplyIn) : execPowerAverageUpdate x s =
    (let s1 := { s with pwr := { s.pwr with vsysMv := x.vsysMv, vioMv := x.vioMv, cplMw := x.cplMw, inMw := x.inMw } }
     let s2 := levelFault 40 (decide (x.vsysMax < 18000)) (decide (18200 ≤ x.vsysMin)) s1
     let s3 := if 1620 ≤ x.vioMv ∧ x.vioMv ≤ 3600 then s2
       else levelFault 42 true false { s2 with pwr := { s2.pwr with vioOk := false } }
     .next (levelFault 47 (decide (26000 < x.cplMw)) (decide (x.cplMw ≤ 26000)) (inputFault (decide (40000 < x.inMw)) s3))) := by
  rw [execPowerAverageUpdate, if_pos hm]
  simp only [vioInside, decide_eq_true_eq]
  rfl

theorem execTemperatureThreshold_monitors (ct kt : Int) :
    execTemperatureThreshold ct kt s = .next (temperatures ct kt s) := congrArg _ (if_pos hm)

end

section
variable (hm : monitors s = false)
include hm

theorem execVbatCheck_idle (mv : Nat) : execVbatCheck mv s = .next s := by simp [execVbatCheck, hm]

theorem execVsysSample_idle (mv : Nat) : execVsysSample mv s = .next s := by simp [execVsysSample, hm]

theorem execPowerAverageUpdate_idle (x : SupplyIn) : execPowerAverageUpdate x s = .next s := by
  simp [execPowerAverageUpdate, hm]

theorem execTemperatureThreshold_idle (ct kt : Int) : execTemperatureThreshold ct kt s = .next s := by
  simp [execTemperatureThreshold, hm]

end

end

/-- Settles O22: the brown-out latch and VIO by their own guards, every other monitor by `monitors`. -/
theorem supplyMonitors : Obligations.SupplyMonitors := fun _ =>
  ⟨execVbatBrownout_absent, execVbatBrownout_idle, fun mv => ⟨execVioRangeChange_core mv, execVioRangeChange_noCore mv⟩,
    fun hm => ⟨execVbatCheck_monitors hm, execVsysSample_monitors hm, execPowerAverageUpdate_monitors hm,
      execTemperatureThreshold_monitors hm⟩,
    fun hm => ⟨fun mv => ⟨execVbatCheck_idle hm mv, execVsysSample_idle hm mv⟩, execPowerAverageUpdate_idle hm,
      execTemperatureThreshold_idle hm⟩⟩

end Sys2Proof.Machine
end

section
/-! PROOF. The core's power states and the planned removal (R58 to R60, R64, R65, R404, Table 3-6). -/

namespace Sys2Proof.Machine

open Sys2Proof

/-! ### Power states (R58, Table 3-6) -/

theorem stateFor_le_one {h : Nat} (m : Mode) (hh : h < 2000) : stateFor m h ≤ 1 :=
  Nat.le_of_eq (if_pos hh)

theorem stateFor_le_two {h : Nat} (m : Mode) (hh : h < 40000) : stateFor m h ≤ 2 := by
  by_cases h2 : h < 2000
  · exact Nat.le_trans (stateFor_le_one m h2) (by decide)
  · exact Nat.le_of_eq ((if_neg h2).trans (if_pos hh))

theorem stateFor_le_four (m : Mode) (h : Nat) : stateFor m h ≤ 4 := by
  unfold stateFor
  split
  · decide
  · split
    · decide
    · split <;> decide

/-- Outside CONFIGURE, SAFE_HOLD and SERVICE the deepest state is Nap (Table 3-6). -/
theorem stateFor_le_three {m : Mode} (hm : ¬(m = .m3 ∨ m = .m7 ∨ m = .m9)) (h : Nat) : stateFor m h ≤ 3 := by
  unfold stateFor
  rw [if_pos (Or.inr hm)]
  split
  · decide
  · split <;> decide

theorem mode_of_stateFor_eq_four {m : Mode} {h : Nat} (h4 : stateFor m h = 4) : m = .m3 ∨ m = .m7 ∨ m = .m9 :=
  Decidable.byContradiction fun hm => absurd (h4 ▸ stateFor_le_three hm h) (by decide)

section
variable {s : State}

theorem execPowerStateEnter_core (hc : coreOn s = true) (h : Nat) :
    let st := min (stateFor s.md.mode h) s.pwr.limit
    execPowerStateEnter h s = .next { s with pwr := { s.pwr with
      pstate := st, wakeAt := if st = 0 then none else some (s.clk + h - exitLead st) } } := congrArg _ (if_pos hc)

theorem execPowerStateEnter_idle (hc : coreOn s = false) (h : Nat) : execPowerStateEnter h s = .next s := by
  simp [execPowerStateEnter, hc]

/-! ### Planned removal (R64, R65, R404) -/

theorem execRemovalRequest_decides (hr : removable s.md.mode = true) (hp : s.md.pend.contains .removal = false) :
    execRemovalRequest s = .next (decideMode .removal { s with pwr := { s.pwr with
      pstate := 0, wakeAt := none, qreqLow := true, reqByCmd := false, polHold := sysSet s 2 == 1, reqAt := s.clk
      flushed := false, qackTime := 0 } }) :=
  congrArg _ (if_pos (by rw [hr, hp]; rfl))

theorem execRemovalRequest_noted (h : removable s.md.mode = false ∨ s.md.pend.contains .removal = true) :
    execRemovalRequest s = .next { s with pwr := { s.pwr with qreqLow := true, pstate := 0, wakeAt := none } } := by
  refine congrArg _ (if_neg ?_)
  rcases h with h | h <;> rw [h] <;> simp

theorem execRemovalCancel_low (hq : s.pwr.qreqLow = true) :
    execRemovalCancel s =
      .next (cancelRemoval { s with pwr := { s.pwr with qreqLow := false, pstate := 0, wakeAt := none } }) :=
  congrArg _ (if_pos hq)

theorem execRemovalCancel_idle (hq : s.pwr.qreqLow = false) : execRemovalCancel s = .next s := by simp [execRemovalCancel, hq]

end

/-- Settles O23: the power state is the lower of horizon and limit, so every bound of `stateFor` bounds it; then the removal. -/
theorem powerStatesAndRemoval : Obligations.PowerStatesAndRemoval := by
  refine ⟨fun s h => ⟨rfl, fun hc => execPowerStateEnter_idle hc h, fun hc => ?_⟩, fun s =>
    ⟨execRemovalRequest_decides, execRemovalRequest_noted, rfl, execRemovalCancel_low, execRemovalCancel_idle⟩⟩
  have lower : min (stateFor s.md.mode h) s.pwr.limit ≤ stateFor s.md.mode h := Nat.min_le_left _ _
  refine ⟨_, execPowerStateEnter_core hc h, Nat.min_le_right _ _, rfl, fun hh => Nat.le_trans lower (stateFor_le_one _ hh),
    fun hh => Nat.le_trans lower (stateFor_le_two _ hh), fun h4 => mode_of_stateFor_eq_four (h := h) ?_⟩
  exact Nat.le_antisymm (stateFor_le_four _ _) (h4 ▸ lower)

end Sys2Proof.Machine
end

section
/-! PROOF. The frames of the host port by the verdict of the transport checks (R357 to R367, R375, R376). -/

namespace Sys2Proof.Machine

open Sys2Proof

section
variable {s : State} {f : HostFrame}

/-! ### Frames that have not occurred (R39, R358) -/

theorem hostFrame_idle (h : s.md.fwUp = false ∨ f.bits = 0) : hostFrame f s = s := by
  rcases h with h | h <;> simp [hostFrame, h]

theorem stretchFrame_idle (h : s.md.fwUp = false ∨ f.bits = 0) : stretchFrame f s = s := by
  rcases h with h | h <;> simp [stretchFrame, h]

theorem frameFactory_idle (h : s.md.fwUp = false ∨ f.bits = 0) : frameFactory f s = false := by
  rcases h with h | h <;> simp [frameFactory, h]

/-! ### Factory commands (R434) -/

theorem frameFactory_of_verdict_ne (hv : frameVerdict f ≠ (stOk, some .pkt)) : frameFactory f s = false := by
  simp [frameFactory, hv]

theorem frameFactory_of_pktOk (hu : s.md.fwUp = true) (hb : f.bits ≠ 0) (hv : frameVerdict f = (stOk, some .pkt))
    (hp : pktOk s = true) : frameFactory f s = runsFactory .host (f.words.drop 1) s := by
  simp [frameFactory, hu, hb, hv, hp]

theorem frameFactory_of_noRoom (hp : pktOk s = false) : frameFactory f s = false := by simp [frameFactory, hp]

/-! ### Frames that have (R363, R364) -/

section
variable (hu : s.md.fwUp = true) (hb : f.bits ≠ 0)
include hu hb

theorem hostFrame_of_kind {e : Nat} {k : FrameKind} (hv : frameVerdict f = (e, some k)) :
    hostFrame f s = kindFrame k f (statusWord s) s := by simp [hostFrame, hu, hb, hv]

theorem hostFrame_of_reject {e : Nat} (hv : frameVerdict f = (e, none)) :
    hostFrame f s = rejectFrame e (statusWord s) (countViol f (countFrame f s)) := by simp [hostFrame, hu, hb, hv]

theorem stretchFrame_of_reject {e : Nat} (hv : frameVerdict f = (e, none)) :
    stretchFrame f s = rejectFrame e (statusWord s) (countViol f (countFrame f s)) := by simp [stretchFrame, hu, hb, hv]

theorem stretchFrame_of_regRead {e : Nat} (hv : frameVerdict f = (e, some .regRead)) :
    stretchFrame f s = busyEvent (endFrame stBusy
      (stretchOut (statusWord s) (readRun (regCount (f.words.headD 0)) (regAddr (f.words.headD 0)) s).1 f.limitWord)
      (modHp (fun h => { h with eStretch := satAdd 16 h.eStretch 1 }) (countFrame f s))) := by
  simp [stretchFrame, hu, hb, hv]

/-- Only a register read meets the stretch limit (R59). -/
theorem stretchFrame_of_ne_regRead {e : Nat} {k : FrameKind} (hv : frameVerdict f = (e, some k)) (hk : k ≠ .regRead) :
    stretchFrame f s = s := by
  cases k
  case regRead => exact absurd rfl hk
  all_goals simp [stretchFrame, hu, hb, hv]

end

/-! ### A frame of each kind (R366, R367, R375, R376) -/

theorem readFrame_good (hc : hostCheckOk f.words = true) (st : Word) (s : State) :
    readFrame f st s =
      (let r := readRun (regCount (f.words.headD 0)) (regAddr (f.words.headD 0)) s
       countQuiet (endFrame stOk (readOut st r.1)
        ((frameAddrs (regAddr (f.words.headD 0)) (regCount (f.words.headD 0))).foldl (fun s a => endEffect a s)
          (countFrame f r.2)))) := if_pos hc

theorem readFrame_bad (hc : hostCheckOk f.words = false) (st : Word) (s : State) :
    readFrame f st s = checkFailFrame
      (readOut st (readRun (regCount (f.words.headD 0)) (regAddr (f.words.headD 0)) s).1) (countFrame f s) := by
  simp [readFrame, hc]

section
variable {ws : List Word} (st : Word) (s : State)

theorem writeFrame_good (hc : hostCheckOk ws = true) :
    writeFrame st ws s = countQuiet (endFrame stOk (st :: List.replicate (ws.length - 1) 0)
      (writeRun (regAddr (ws.headD 0)) (ws.drop 1).dropLast s)) := if_pos hc

theorem writeFrame_bad (hc : hostCheckOk ws = false) :
    writeFrame st ws s = checkFailFrame (st :: List.replicate (ws.length - 1) 0) s := by simp [writeFrame, hc]

theorem rspFrame_again (ha : bitOf (ws.headD 0) 27 = true) :
    rspFrame st ws s = countQuiet (endFrame stOk (st :: entryOut s.hp.again (ws.length - 1)) s) := if_pos ha

end

section
variable {ws : List Word} (st : Word) {s : State}

theorem pktFrame_room (hp : pktOk s = true) : pktFrame st ws s = countQuiet (runPacket .host (ws.drop 1)
    (endFrame stOk (st :: List.replicate (ws.length - 1) 0) s.wakeCore)) := if_pos hp

theorem pktFrame_noRoom (hp : pktOk s = false) :
    pktFrame st ws s = busyEvent (endFrame stBusy (st :: List.replicate (ws.length - 1) 0)
      (modHp (fun h => { h with eRefused := satAdd 16 h.eRefused 1 }) s.wakeCore)) :=
  if_neg (ne_true_of_eq_false hp)

variable (ha : bitOf (ws.headD 0) 27 = false)
include ha

theorem rspFrame_empty (hq : s.hp.queue = []) :
    rspFrame st ws s = countQuiet (endFrame stOk (st :: entryOut none (ws.length - 1)) s) := by
  simp only [rspFrame, ha, hq, Bool.false_eq_true, if_false, List.head?_nil]

theorem rspFrame_whole {e : QEntry} {r : List QEntry} (hq : s.hp.queue = e :: r) (hn : e.words.length ≤ ws.length - 1) :
    rspFrame st ws s = countQuiet (endFrame stOk (st :: entryOut (some e) (ws.length - 1))
      (modHp (fun h => { h with queue := r, again := some e }) s)) := by
  simp only [rspFrame, ha, hq, hn, Bool.false_eq_true, if_false, if_true, List.head?_cons]

theorem rspFrame_part {e : QEntry} {r : List QEntry} (hq : s.hp.queue = e :: r) (hn : ws.length - 1 < e.words.length) :
    rspFrame st ws s = countQuiet (endFrame stOk (st :: entryOut (some e) (ws.length - 1)) s) := by
  simp only [rspFrame, ha, hq, Nat.not_le.2 hn, Bool.false_eq_true, if_false, List.head?_cons]

end

/-! ### The commands

Every frame command carries out the frame that its words spell. -/

/-- The meaning that the six frame commands have in common. -/
def frameOutcome (f : HostFrame) (s : State) : Outcome :=
  if frameFactory f s then .refused .factoryOpcodeNotDescribed else .next (hostFrame f s)

theorem exec_hpFrame (f : HostFrame) (s : State) :
    exec (.hpFrameNop f) s = frameOutcome f s ∧ exec (.hpFrameRegRead f) s = frameOutcome f s ∧
      exec (.hpFrameRegWrite f) s = frameOutcome f s ∧ exec (.hpFramePkt f) s = frameOutcome f s ∧
      exec (.hpFrameRsp f) s = frameOutcome f s ∧ exec (.hpFrameMalformed f) s = frameOutcome f s :=
  ⟨rfl, rfl, rfl, rfl, rfl, rfl⟩

theorem frameOutcome_next (hf : frameFactory f s = false) : frameOutcome f s = .next (hostFrame f s) := by
  simp [frameOutcome, hf]

theorem frameOutcome_idle (h : s.md.fwUp = false ∨ f.bits = 0) : frameOutcome f s = .next s := by
  rw [frameOutcome_next (frameFactory_idle h), hostFrame_idle h]

section
variable (hu : s.md.fwUp = true) (hb : f.bits ≠ 0)
include hu hb

theorem frameOutcome_of_kind {k : FrameKind} (hv : frameVerdict f = (stOk, some k)) (hk : k ≠ .pkt) :
    frameOutcome f s = .next (kindFrame k f (statusWord s) s) := by
  rw [frameOutcome_next (frameFactory_of_verdict_ne (by simp [hv, hk])), hostFrame_of_kind hu hb hv]

theorem frameOutcome_of_reject {e : Nat} (hv : frameVerdict f = (e, none)) :
    frameOutcome f s = .next (rejectFrame e (statusWord s) (countViol f (countFrame f s))) := by
  rw [frameOutcome_next (frameFactory_of_verdict_ne (by simp [hv])), hostFrame_of_reject hu hb hv]

theorem frameOutcome_of_pkt (hv : frameVerdict f = (stOk, some .pkt)) (hf : frameFactory f s = false) :
    frameOutcome f s = .next (pktFrame (statusWord s) f.words (countFrame f s)) := by
  rw [frameOutcome_next hf, hostFrame_of_kind hu hb hv, kindFrame]

theorem frameOutcome_of_factory (hv : frameVerdict f = (stOk, some .pkt)) (hp : pktOk s = true)
    (hf : runsFactory .host (f.words.drop 1) s = true) : frameOutcome f s = .refused .factoryOpcodeNotDescribed :=
  if_pos (by rw [frameFactory_of_pktOk hu hb hv hp, hf])

end

end

/-- Settles O52: the six frame commands are one, so each clause is the frame of the verdict's kind; the stretch limit apart. -/
theorem hostFrames : Obligations.HostFrames := by
  intro s f
  obtain ⟨hnop, hread, hwrite, hpkt, hrsp, hmal⟩ := exec_hpFrame f s
  rw [hnop, hread, hwrite, hpkt, hrsp, hmal]
  refine ⟨fun h => ?_, fun hu hb => ⟨fun hv => ?_, fun hv => ?_, fun k hv hk => ?_, fun hv => ?_, fun hv => ?_, fun hv => ?_,
    fun e hv => ?_⟩⟩
  · have idle := frameOutcome_idle h
    exact ⟨idle, idle, idle, idle, idle, idle, congrArg Host.Outcome.next (stretchFrame_idle h)⟩
  · exact frameOutcome_of_kind hu hb hv (by decide)
  · have frame := frameOutcome_of_kind hu hb hv (by decide)
    exact ⟨fun hc => frame.trans (congrArg _ (readFrame_bad hc _ _)),
      fun hc => frame.trans (congrArg _ (readFrame_good hc _ _)),
      congrArg Host.Outcome.next (stretchFrame_of_regRead hu hb hv)⟩
  · exact congrArg Host.Outcome.next (stretchFrame_of_ne_regRead hu hb hv hk)
  · have frame := frameOutcome_of_kind hu hb hv (by decide)
    exact ⟨fun hc => frame.trans (congrArg _ (writeFrame_good _ _ hc)),
      fun hc => frame.trans (congrArg _ (writeFrame_bad _ _ hc))⟩
  · refine ⟨fun hp hf => ?_, frameOutcome_of_factory hu hb hv, fun hp => ?_⟩
    · have frame := frameOutcome_of_pkt hu hb hv ((frameFactory_of_pktOk hu hb hv hp).trans hf)
      exact frame.trans (congrArg _ (pktFrame_room (s := countFrame f s) _ hp))
    · have frame := frameOutcome_of_pkt hu hb hv (frameFactory_of_noRoom hp)
      exact frame.trans (congrArg _ (pktFrame_noRoom (s := countFrame f s) _ hp))
  · have frame := frameOutcome_of_kind hu hb hv (by decide)
    exact ⟨fun ha => frame.trans (congrArg _ (rspFrame_again _ _ ha)), fun ha =>
      ⟨fun hq => frame.trans (congrArg _ (rspFrame_empty _ ha hq)), fun e r hq =>
        ⟨fun hn => frame.trans (congrArg _ (rspFrame_whole _ ha hq hn)),
          fun hn => frame.trans (congrArg _ (rspFrame_part _ ha hq hn))⟩⟩⟩
  · exact ⟨frameOutcome_of_reject hu hb hv, congrArg Host.Outcome.next (stretchFrame_of_reject hu hb hv)⟩

end Sys2Proof.Machine
end

section
/-! PROOF. The state after reset (R63, R417, Table 18-2). -/

namespace Sys2Proof.Machine

open Sys2Proof

theorem fsrc_reset (n : Fin 96) : State.reset.fsrc n = defaultSrc n.val := by
  change (Vector.ofFn fun i : Fin 96 => defaultSrc i.val)[n] = _
  simp

theorem cell_reset (ch : Ch) : State.reset.cell ch = {} := by
  change (Vector.replicate 32 ({} : Cell))[ch] = _
  simp

/-- Each row of Table 18-2 gives settings alone. -/
theorem defaultSrc_eq_dfltSrc (i : Nat) :
    defaultSrc i = dfltSrc (defaultSrc i).n (defaultSrc i).w (defaultSrc i).maskN (defaultSrc i).maskS := by
  unfold defaultSrc
  (repeat' split) <;> rfl

theorem defaultSrc_absent (i : Nat) :
    (defaultSrc i).present = false ∧ (defaultSrc i).severe = false ∧ (defaultSrc i).hist.count = 0 := by
  rw [defaultSrc_eq_dfltSrc]
  exact ⟨rfl, rfl, rfl⟩

/-- FS92 and FS93 start with ERR and CHIP (R419). -/
theorem masksOk_reset : masksOk State.reset := by
  intro n hn
  rw [fsrc_reset]
  rcases hn with hn | hn <;> rw [hn] <;> decide

theorem inv_reset : Inv State.reset where
  sources n _ := by
    rw [fsrc_reset]
    exact (defaultSrc_absent n.val).1
  masks := masksOk_reset
  pwr := by unfold pwrOk; decide
  mem := ⟨rfl, rfl, rfl, fun _ h => nomatch h⟩

/-- Settles O57: the cells and the sources by their reset value, every other record by its default. -/
theorem resetState : Obligations.ResetState := by
  refine ⟨inv_reset, rfl, rfl, rfl, rfl, fun ch => ?_, fun n => ?_, rfl, rfl, rfl⟩
  · rw [cell_reset]
    exact ⟨rfl, rfl, rfl⟩
  · rw [fsrc_reset]
    exact defaultSrc_absent n.val

end Sys2Proof.Machine
end

section
/-! PROOF. A HELLO that brings a lane UP, and what it makes of the cell's microcode (R81, R83, R123, R133, R134). -/

namespace Sys2Proof.Machine

open Sys2Proof

/-- The core after a HELLO has brought the lane UP, before it looks at the cell's microcode. -/
def helloTaken (ch : Ch) (s : State) : State :=
  let s1 := modLane ch (fun l => { l with state := .up, up := none, upWait := [], tx := none, txHeld := none, fails := 0 }) s.wakeCore
  dieBack ch (reportConds ch (causeOff ch cbLane (if (s.cell ch).rstFlag then helloReset ch s1 else helloResume ch s1)))

section
variable {s : State} {ch : Ch}

@[simp] theorem cell_modLane_same (f : Lane → Lane) :
    (modLane ch f s).cell ch = { s.cell ch with lane := f (s.cell ch).lane } := cell_modCell_same _ _ _

theorem microcodeOld_of_notRunning (hr : (s.cell ch).running = false) : microcodeOld s ch = false := by
  simp [microcodeOld, hr]

theorem execHelloReceived_idle {ok : Bool} (h : ok = false ∨ (s.cell ch).powered = false ∨ (s.cell ch).lane.state = .down ∨
    ((s.cell ch).lane.state = .up ∧ (s.cell ch).rstFlag = false)) : execHelloReceived ch ok s = .next s := by
  refine congrArg _ (if_pos ?_)
  rcases h with rfl | hp | hl | ⟨hl, hr⟩
  · rfl
  · simp [hp]
  · simp [hl]
  · simp [hl, hr]

section
variable (hp : (s.cell ch).powered = true)
  (hl : (s.cell ch).lane.state = .train ∨ ((s.cell ch).lane.state = .up ∧ (s.cell ch).rstFlag = true))
include hp hl

theorem execHelloReceived_taken : execHelloReceived ch true s = .next (refreshLoss
    (if microcodeOld (helloTaken ch s) ch then reloadCell ch (helloTaken ch s)
      else if ((helloTaken ch s).cell ch).running then (rejoinLate ch (helloTaken ch s)).modCell ch (cellLaunch s.clk)
      else (helloTaken ch s).modCell ch (startUcode s.clk))) := by
  have hnew : ¬(!(true && (s.cell ch).powered) || (s.cell ch).lane.state == .down ||
      ((s.cell ch).lane.state == .up && !(s.cell ch).rstFlag)) = true := by
    rcases hl with hl | ⟨hl, hr⟩
    · simp [hp, hl]
    · simp [hp, hl, hr]
  refine congrArg _ ((if_neg hnew).trans ?_)
  dsimp only
  rw [cell_modLane_same]
  rfl

theorem execHelloReceived_old (ho : microcodeOld (helloTaken ch s) ch = true) :
    execHelloReceived ch true s = .next (refreshLoss (reloadCell ch (helloTaken ch s))) := by
  rw [execHelloReceived_taken hp hl, if_pos ho]

theorem execHelloReceived_current (ho : microcodeOld (helloTaken ch s) ch = false)
    (hr : ((helloTaken ch s).cell ch).running = true) :
    execHelloReceived ch true s = .next (refreshLoss ((rejoinLate ch (helloTaken ch s)).modCell ch (cellLaunch s.clk))) := by
  rw [execHelloReceived_taken hp hl, ho, if_neg Bool.false_ne_true, if_pos hr]

theorem execHelloReceived_unloaded (hr : ((helloTaken ch s).cell ch).running = false) :
    execHelloReceived ch true s = .next (refreshLoss ((helloTaken ch s).modCell ch (startUcode s.clk))) := by
  rw [execHelloReceived_taken hp hl, microcodeOld_of_notRunning hr, if_neg Bool.false_ne_true, hr, if_neg Bool.false_ne_true]

end

end

/-- Settles O15: a HELLO that is not taken, then one that is, by the microcode the cell shows. -/
theorem helloBringsLaneUp : Obligations.HelloBringsLaneUp := fun _ _ =>
  ⟨fun _ => execHelloReceived_idle, fun hp hl =>
    ⟨execHelloReceived_old hp hl, execHelloReceived_current hp hl, execHelloReceived_unloaded hp hl⟩⟩

end Sys2Proof.Machine
end

section
/-! PROOF. The cell end of a configuration write, and its microcode load (R83, R125, R130, R131, R143). -/

namespace Sys2Proof.Machine

open Sys2Proof

section
variable {s : State} {ch : Ch} {r : LaneRx}

/-! ### Frames that are not taken (R124, R125) -/

section
variable (h : rxFrame r = none ∨ hears (s.cell ch) = false)
include h

theorem execHoldoverReceived_idle : execHoldoverReceived ch r s = .next s := by
  unfold execHoldoverReceived
  split
  case h_1 secs hf => simp [h.resolve_left (by simp [hf])]
  case h_2 => rfl

theorem execCfgwReceived_idle : execCfgwReceived ch r s = .next (s.modCell ch id) := by
  refine congrArg _ (modCell_congr ?_)
  split
  case h_1 a d hf => simp [h.resolve_left (by simp [hf])]
  case h_2 => rfl

theorem execCfgrReceived_idle : execCfgrReceived ch r s = .next (s.modCell ch id) := by
  refine congrArg _ (modCell_congr ?_)
  split
  case h_1 a hf => simp [h.resolve_left (by simp [hf])]
  case h_2 => rfl

theorem execApplyReceived_idle : execApplyReceived ch r s = .next (s.modCell ch id) := by
  refine congrArg _ (modCell_congr ?_)
  split
  case h_1 n hf => simp [h.resolve_left (by simp [hf])]
  case h_2 => rfl

end

/-! ### Frames that are (R130, R131, R143) -/

section
variable (hh : hears (s.cell ch) = true)
include hh

theorem execCfgwReceived_taken {a : Nat} {d : BitVec 32} (hf : rxFrame r = some (.cfgw a d)) :
    execCfgwReceived ch r s = .next (s.modCell ch fun c => sendCfga s.clk (rxSeq r) a d (onceBySeq (rxSeq r) (fun c => { c with
      shadow := some ⟨assocSet a d ((c.shadow.map Shadow.regs).getD []), false⟩ }) c)) := by
  refine congrArg _ (modCell_congr ?_)
  rw [hf]
  exact if_pos hh

theorem execCfgrReceived_taken {a : Nat} (hf : rxFrame r = some (.cfgr a)) :
    execCfgrReceived ch r s =
      .next (s.modCell ch fun c => sendCfga s.clk (rxSeq r) a (cellReg c a) (onceBySeq (rxSeq r) id c)) := by
  refine congrArg _ (modCell_congr ?_)
  rw [hf]
  exact if_pos hh

theorem execApplyReceived_taken {n : Nat} (hf : rxFrame r = some (.apply n)) :
    execApplyReceived ch r s =
      .next (s.modCell ch fun c => sendCfga s.clk (rxSeq r) n 0 (onceBySeq (rxSeq r) applyShadow c)) := by
  refine congrArg _ (modCell_congr ?_)
  rw [hf]
  exact if_pos hh

theorem execHoldoverReceived_new {secs : Nat} (hf : rxFrame r = some (.holdover secs))
    (hq : (s.cell ch).lane.seqRx ≠ some (rxSeq r)) :
    execHoldoverReceived ch r s = .next ((enterHold ch secs s).modCell ch (onceBySeq (rxSeq r) id)) := by
  simp [execHoldoverReceived, hf, hh, hq]

end

theorem execHoldoverReceived_repeated {secs : Nat} (hf : rxFrame r = some (.holdover secs))
    (hq : (s.cell ch).lane.seqRx = some (rxSeq r)) : execHoldoverReceived ch r s = .next s := by
  simp [execHoldoverReceived, hf, hq]

/-! ### Microcode blocks (R83, R125) -/

theorem execUcodeReceived_idle (h : (s.cell ch).powered = false ∨ (s.cell ch).running = true ∨
    (s.cell ch).lane.state ≠ .up ∨ rxFrame r = none) (last : Bool) (crc : Nat) :
    execUcodeReceived ch r last crc s = .next s := by
  unfold execUcodeReceived
  split
  case h_1 n hf =>
    refine congrArg _ (if_pos ?_)
    rcases h with hp | hr | hu | hnone
    · simp [hp]
    · simp [hr]
    · simp [hu]
    · exact absurd hf (by simp [hnone])
  case h_2 => rfl

theorem execUcodeReceived_repeated {n : Nat} (hf : rxFrame r = some (.ucode n))
    (hq : (s.cell ch).lane.seqRx = some (rxSeq r)) (last : Bool) (crc : Nat) :
    execUcodeReceived ch r last crc s = .next s := by
  simp [execUcodeReceived, hf, hq]

/-- A new block is written, and the last one ends the load. -/
theorem execUcodeReceived_new {n : Nat} (hf : rxFrame r = some (.ucode n)) (hp : (s.cell ch).powered = true)
    (hr : (s.cell ch).running = false) (hu : (s.cell ch).lane.state = .up) (hq : (s.cell ch).lane.seqRx ≠ some (rxSeq r))
    (last : Bool) (crc : Nat) :
    execUcodeReceived ch r last crc s =
      (let s1 := s.modCell ch fun c => { c with
        ucodeBlocks := c.ucodeBlocks + 1, lane := { c.lane with seqRx := some (rxSeq r) }, pstate := 0 }
       .next (if last then ucodeLoaded ch crc s1 else s1)) := by
  have block : s.modCell ch (onceBySeq (rxSeq r) fun c => { c with ucodeBlocks := c.ucodeBlocks + 1 }) =
      s.modCell ch fun c => { c with
        ucodeBlocks := c.ucodeBlocks + 1, lane := { c.lane with seqRx := some (rxSeq r) }, pstate := 0 } :=
    modCell_congr (if_neg hq)
  simp [execUcodeReceived, hf, hp, hr, hu, hq, block]

theorem ucodeLoaded_good {crc : Nat} (hc : crc = s.fw.cmcCrc) :
    ucodeLoaded ch crc s = condOff ch cbUcode (s.modCell ch fun c =>
      let c := { c with ucodeBlocks := 0, ucode := crc, running := true }
      if !c.joined && decide (1 < modeNum s.md.mode) then selfcalBegin c else c) := if_pos hc

theorem ucodeLoaded_bad {crc : Nat} (hc : crc ≠ s.fw.cmcCrc) :
    ucodeLoaded ch crc s = condOn ch cbUcode (s.modCell ch fun c => { c with ucodeBlocks := 0 }) := if_neg hc

end

/-- Settles O17: the frames a cell hears, those it does not, then its microcode. -/
theorem cellConfigurationFrames : Obligations.CellConfigurationFrames := by
  intro s ch r
  refine ⟨fun hh => ⟨fun a d => execCfgwReceived_taken hh, fun a => execCfgrReceived_taken hh, fun n => execApplyReceived_taken hh,
      fun secs hf => ⟨execHoldoverReceived_new hh hf, execHoldoverReceived_repeated hf⟩⟩,
    fun h => ⟨execHoldoverReceived_idle h, execCfgwReceived_idle h, execCfgrReceived_idle h, execApplyReceived_idle h⟩,
    fun hp hr hu n last crc hf => ⟨fun hq => execUcodeReceived_repeated hf hq last crc, fun hq => ?_⟩,
    fun h last crc => execUcodeReceived_idle h last crc⟩
  have block := fun last => execUcodeReceived_new hf hp hr hu hq last crc
  exact ⟨block false, fun hc => (block true).trans (congrArg _ (ucodeLoaded_good hc)),
    fun hc => (block true).trans (congrArg _ (ucodeLoaded_bad hc))⟩

end Sys2Proof.Machine
end

section
/-! PROOF. The system commands and SYS_CONFIG (Table 17-2, R64, R74, R75, R88, R379, R403, R404). -/

namespace Sys2Proof.Machine

open Sys2Proof

theorem inModeList_of_mode {s : State} {m : Mode} {l : List Nat} (hr : s.md.recovery = false) (hm : s.md.mode = m)
    (hl : modeNum m ∈ l) : inModeList s l = true := by
  simp [inModeList, hr, hm, hl]

theorem inModeList_modesAny {s : State} (hr : s.md.recovery = false) (hm : s.md.mode ≠ .m0) : inModeList s modesAny = true := by
  refine inModeList_of_mode hr rfl ?_
  cases hmode : s.md.mode
  case m0 => exact absurd hmode hm
  all_goals decide

section
variable {s : State} (c : Ctx)

@[simp] theorem par_singleton (w : Word) : par [w] 1 = w := rfl

/-! ### In every mode but OFF (R379, R403) -/

section
variable (hm : inModeList s modesAny = true)
include hm

theorem opQuery_of_good (payload : State → List Word) : opQuery c [] payload s = answer c stOk (payload s) s :=
  modeGate_of_inModeList c _ hm

theorem opAbort_of_good {w : Word} (hw : reservedBad w 0x00FFFF00 = false) :
    opAbort c [w] s = (abortTarget c w s).elim (answer c (if abortDone c w s then stAlreadyDone else stBadParam) [] s)
      fun o => abortOp o (answer c stOk [] s) := by
  rw [opAbort, modeGate_of_inModeList _ _ hm, refuseIf_of_false _ _ _ _ (by simpa using hw), par_singleton]
  cases abortTarget c w s <;> rfl

theorem opReset_of_good {w : Word} (hw : reservedBad w 1 = false) :
    opReset c [w] s = dueReset ⟨if s.md.mode = .m11 then 8 else 2, bitOf w 0, 0xFF⟩ (answer c stOk [] s) := by
  rw [opReset, modeGate_of_inModeList _ _ hm, refuseIf_of_false _ _ _ _ (by simpa using hw)]
  rfl

end

theorem dueReset_frame (r : RstReq) (s : State) :
    { dueReset r s with md := { (dueReset r s).md with rstDue := s.md.rstDue } } = s := rfl

theorem execReset_spec {w : Word} (hm : inModeList s modesAny = true) (hw : reservedBad w 1 = false) :
    ∃ t, execReset c [w] s = .next t ∧
      t.md.rstDue = (s.md.rstDue <|> some ⟨if s.md.mode = .m11 then 8 else 2, bitOf w 0, 0xFF⟩) ∧
      { t with md := { t.md with rstDue := s.md.rstDue } } = answer c stOk [] (acceptPacket c s) := by
  have hmd : (answer c stOk [] (acceptPacket c s)).md = s.md := (answer_md _ _ _ _).trans (acceptPacket_md _ _)
  refine ⟨_, congrArg Host.Outcome.next (opReset_of_good (s := acceptPacket c s) c hm hw), ?_, ?_⟩
  · change ((answer c stOk [] (acceptPacket c s)).md.rstDue <|> _) = _
    rw [hmd]
    rfl
  · rw [← hmd]
    exact dueReset_frame _ _

/-! ### SET_MODE (R74, R75) -/

section
variable {ws : List Word}

theorem opSetMode_refused (hv : setModeStatus s ws ≠ stAccepted) : opSetMode c ws s = answer c (setModeStatus s ws) [] s :=
  if_pos hv

theorem opSetMode_accepted {t : Mode} (ht : modeTarget ws = some t) (hv : setModeStatus s ws = stAccepted) :
    opSetMode c ws s = if opsFull s c then answer c stBusy [] s
      else decideMode (.set t (ctxRef c 0x02)) (startOp c (newOp c 0x02 0 (par ws 1)) s) := by
  rw [opSetMode]
  simp only [hv, ne_eq, not_true, if_false, refuseIf, startSetMode, ht]

end

/-! ### QUIESCE (R64, R404) -/

section
variable {w : Word} (hw : reservedBad w 3 = false)
include hw

theorem opQuiesce_request (hm : inModeList s [2, 3, 4, 5, 6, 7, 9, 10] = true) (hcode : field w 0 2 ≠ 3)
    (hfull : opsFull s c = false) :
    opQuiesce c [w] s = requestRemoval true (policyHold s (field w 0 2)) (startOp c (newOp c 0x06 0 w) s) := by
  rw [opQuiesce, if_neg (by simpa using hcode), modeGate_of_inModeList _ _ hm,
    refuseIf_of_false _ _ _ _ (by simpa using hw), quiesceRequest, refuseIf_of_false _ _ _ _ hfull]
  rfl

theorem opQuiesce_cancel (hm : inModeList s [8] = true) (hcode : field w 0 2 = 3) (ha : cancelAllowed s = true) :
    opQuiesce c [w] s = cancelRemoval (answer c stOk [] s) := by
  rw [opQuiesce, if_pos (by simpa using hcode), modeGate_of_inModeList _ _ hm,
    refuseIf_of_false _ _ _ _ (by simpa using hw), quiesceCancel, inModes, if_pos ha]

end

/-! ### SYS_CONFIG (R88) -/

section
variable {ws : List Word} (hm : inModeList s [3] = true)
include hm

theorem opSysConfig_good {cfg : List (Nat × Int)} (hp : pairsApply sysParams (fun _ => true) s.sys ws 0 = some cfg) :
    opSysConfig c ws s = answer c stOk [] (noteConfig c.src (endHolds (applyErrCtl { s with sys := cfg }))) := by
  rw [opSysConfig, modeGate_of_inModeList _ _ hm, hp]

theorem opSysConfig_bad (hp : pairsApply sysParams (fun _ => true) s.sys ws 0 = none) :
    opSysConfig c ws s = answer c stBadParam [] s := by
  rw [opSysConfig, modeGate_of_inModeList _ _ hm, hp]

end

end

/-- Settles O28: every command by its law at the state that has accepted the packet, whose modes and settings are those of `s`. -/
theorem systemAndSettingCommands : Obligations.SystemAndSettingCommands := by
  refine ⟨fun s c hr hm0 => ?_, fun s c w hr => ?_⟩
  · have hm : inModeList (acceptPacket c s) modesAny = true := inModeList_modesAny hr hm0
    refine ⟨congrArg _ (opQuery_of_good c hm _), congrArg _ (opQuery_of_good c hm _),
      fun ws hv => congrArg _ (opSetMode_refused (s := acceptPacket c s) c hv),
      fun ws t ht hv => congrArg _ (opSetMode_accepted (s := acceptPacket c s) c ht hv), fun w hw => ?_,
      fun w hw => execReset_spec c hm hw⟩
    have run : execAbort c [w] s = .next _ := congrArg Host.Outcome.next (opAbort_of_good c hm hw)
    refine ⟨fun o ho => run.trans ?_, fun ho => run.trans ?_⟩
    · rw [show abortTarget c w (acceptPacket c s) = some o from ho]
      rfl
    · rw [show abortTarget c w (acceptPacket c s) = none from ho]
      rfl
  · refine ⟨fun hm hw hcode hfull => congrArg _ (opQuiesce_request (s := acceptPacket c s) c hw hm hcode hfull),
      fun hm hw hcode ha => congrArg _
        (opQuiesce_cancel (s := acceptPacket c s) c hw (inModeList_of_mode hr hm (by decide)) hcode ha), fun hm ws => ?_⟩
    have h3 : inModeList (acceptPacket c s) [3] = true := inModeList_of_mode hr hm (by decide)
    exact ⟨fun cfg hp => congrArg _ (opSysConfig_good c h3 hp), fun hp => congrArg _ (opSysConfig_bad c h3 hp)⟩

end Sys2Proof.Machine
end

section
/-! PROOF. Module time and the spring: one CLK_TB cycle (R98, R106), HOLDOVER and FREERUN (R100, R101), steps and slews (R97, R103
to R106). -/

namespace Sys2Proof.Machine

open Sys2Proof

/-! ### One CLK_TB cycle (R98, R106) -/

section
variable {ppm : Int} {p : Spring}

theorem slewCycle_idle (h : p.slewing = false) : slewCycle ppm p = 0 := by simp [slewCycle, h]

/-- A slew goes towards nothing left and never past it. -/
theorem slewCycle_left_le (h : p.slewing = true) (hppm : 0 ≤ ppm) :
    (p.slewLeft - slewCycle ppm p).natAbs ≤ p.slewLeft.natAbs := by
  rw [slewCycle, if_pos h]
  split <;> omega

/-- A slew takes at most SLEW_RATE. -/
theorem slewCycle_natAbs_le (h : p.slewing = true) (hppm : 0 ≤ ppm) : (slewCycle ppm p).natAbs ≤ (8000 * ppm).natAbs := by
  rw [slewCycle, if_pos h]
  split <;> omega

theorem advanceTime_mtNs_plain (hs : p.slewing = false) (hf : p.freq = 0) (hfrac : p.frac < 1000000000) :
    (advanceTime ppm p).mtNs = p.mtNs + 8 := by
  simp only [advanceTime, slewCycle_idle hs, hf]
  omega

theorem advanceTime_slewLeft : (advanceTime ppm p).slewLeft = p.slewLeft - slewCycle ppm p := rfl

theorem mtNs_le_advanceTime : p.mtNs ≤ (advanceTime ppm p).mtNs := Nat.le_add_right _ _

end

section
variable {s : State}

theorem idleCycle_powered (hv : s.pwr.vsysValid = true) (ht : s.pwr.tripped = false) :
    idleCycle s = { s with clk := s.clk + 8, spring := advanceTime (slewPpm s) s.spring } :=
  if_pos (by simp [hv, ht])

theorem idleCycle_unpowered (h : s.pwr.vsysValid = false ∨ s.pwr.tripped = true) : idleCycle s = { s with clk := s.clk + 8 } :=
  if_neg (by rcases h with h | h <;> simp [h])

end

/-- Settles O41: the powered cycle is `advanceTime`, whose slew stays within its bounds and whose advance is a natural number. -/
theorem moduleTimeAdvances : Obligations.ModuleTimeAdvances := by
  intro s hq
  rw [step_nil s hq]
  refine ⟨fun hv ht => ⟨_, congrArg _ (idleCycle_powered hv ht), rfl, advanceTime_mtNs_plain, fun hs hppm => ?_,
    mtNs_le_advanceTime, rfl⟩, fun h => congrArg _ (idleCycle_unpowered h)⟩
  simp only [advanceTime_slewLeft, Int.sub_sub_self]
  exact ⟨slewCycle_left_le hs hppm, slewCycle_natAbs_le hs hppm⟩

/-! ### A source that falls silent, and the seconds of HOLDOVER (R100, R101) -/

section
variable {s : State}

theorem execPtpSourceTimeout_locked (h : s.spring.state = .locked) : execPtpSourceTimeout s = .next (enterHoldover s) := by
  simp [execPtpSourceTimeout, h]

theorem execPtpSourceTimeout_acquiring (h : s.spring.state = .acquiring) :
    execPtpSourceTimeout s = .next (setSpring s.spring.acqFrom (if s.spring.acqFrom = .holdover then modSpring noteHoldEst s else s)) := by
  simp [execPtpSourceTimeout, h]

theorem execPtpSourceTimeout_idle (h : s.spring.state = .unsync ∨ s.spring.state = .freerun ∨ s.spring.state = .holdover) :
    execPtpSourceTimeout s = .next s := by
  rcases h with h | h | h <;> simp [execPtpSourceTimeout, h]

/-- The spring after one more second in HOLDOVER at a case temperature. -/
def holdSecond (caseT : Int) (p : Spring) : Spring :=
  noteHoldEst { p with holdSecs := p.holdSecs + 1, holdDT := max p.holdDT (caseT - p.holdT0).natAbs }

theorem execHoldoverUpdate_holdover (h : s.spring.state = .holdover) :
    execHoldoverUpdate s =
      (let s1 := modSpring (holdSecond s.pwr.caseT) s
       .next (if holdErrNs s * 1000000 < holdEstMicro s1.spring then raiseFault 49 0 (setSpring .freerun s1) else s1)) :=
  congrArg _ (if_pos h)

theorem execHoldoverUpdate_idle (h : s.spring.state ≠ .holdover) : execHoldoverUpdate s = .next s := congrArg _ (if_neg h)

end

/-! ### Steps and slews (R97, R103 to R106) -/

/-- The state in which a step of `d` ns has taken effect, before FS50. -/
def steppedBy (d : Int) (s : State) : State :=
  modSpring (fun p => (if stackFollow s then stepFollower d else stepTick d) (stepTime d p)) s

section
variable {s : State} {d : Int}

theorem execStepApply_decided (h : s.spring.pendStep = some d) : execStepApply s = .next (raiseFault 50 0 (steppedBy d s)) := by
  simp only [execStepApply, h, steppedBy]

theorem execStepApply_idle (h : s.spring.pendStep = none) : execStepApply s = .next s := by simp only [execStepApply, h]

theorem steppedBy_own (h : stackFollow s = false) : (steppedBy d s).spring = stepTick d (stepTime d s.spring) := by
  simp [steppedBy, h]

theorem steppedBy_follower (h : stackFollow s = true) : (steppedBy d s).spring = stepFollower d (stepTime d s.spring) := by
  simp [steppedBy, h]

/-- A step moves module time, ends a slew and is decided no longer, whoever leads the tick. -/
theorem steppedBy_time (d : Int) (s : State) :
    (steppedBy d s).spring.mtNs = (s.spring.mtNs + d).toNat ∧ (steppedBy d s).spring.pendStep = none ∧
      (steppedBy d s).spring.slewing = false ∧ (steppedBy d s).spring.ptpMt = s.spring.ptpMt + d := by
  cases h : stackFollow s
  · rw [steppedBy_own h]
    exact ⟨rfl, rfl, rfl, rfl⟩
  · rw [steppedBy_follower h]
    exact ⟨rfl, rfl, rfl, rfl⟩

theorem execSlewStart_decided (h : s.spring.pendSlew = true) :
    execSlewStart s = .next { s with spring := { s.spring with
      pendSlew := false, slewing := true, slewCnt := satAdd 16 s.spring.slewCnt 1
      slewLeft := slewPart (slewPpm s) s.spring.code s.spring.remain } } := congrArg _ (if_pos h)

theorem execSlewStart_idle (h : s.spring.pendSlew = false) : execSlewStart s = .next s := congrArg _ (if_neg (by simp [h]))

theorem execSlewEnd_removed (hs : s.spring.slewing = true) (hr : s.spring.remain = 0) :
    execSlewEnd s = .next { s with spring := { s.spring with slewing := false, slewLeft := 0 } } := congrArg _ (if_pos ⟨hs, hr⟩)

theorem execSlewEnd_idle (h : s.spring.slewing = false ∨ s.spring.remain ≠ 0) : execSlewEnd s = .next s :=
  congrArg _ (if_neg (by rcases h with h | h <;> simp [h]))

end

/-- Settles O40: each command of the spring by its guard; a step by who leads the tick. -/
theorem springStates : Obligations.SpringStates := by
  intro s
  refine ⟨execPtpSourceTimeout_locked, fun ha => ⟨fun hf => ?_, fun hf => ?_⟩, execPtpSourceTimeout_idle,
    fun hh => ⟨fun hover => ?_, fun hin => ?_⟩, execHoldoverUpdate_idle, fun d hd => ?_, execStepApply_idle,
    execSlewStart_decided, execSlewStart_idle, execSlewEnd_removed, execSlewEnd_idle⟩
  · exact (execPtpSourceTimeout_acquiring ha).trans (by rw [if_pos hf, hf])
  · exact (execPtpSourceTimeout_acquiring ha).trans (by rw [if_neg hf])
  · exact (execHoldoverUpdate_holdover hh).trans (congrArg _ (if_pos hover))
  · exact (execHoldoverUpdate_holdover hh).trans (congrArg _ (if_neg (Nat.not_lt.2 hin)))
  · obtain ⟨hmt, hpend, hslew, hptp⟩ := steppedBy_time d s
    refine ⟨steppedBy d s, execStepApply_decided hd, hmt, hpend, hslew, hptp, rfl, fun hown => ?_, fun hfollow => ?_⟩
    · rw [steppedBy_own hown]
      exact ⟨rfl, rfl, rfl⟩
    · rw [steppedBy_follower hfollow]
      exact ⟨rfl, rfl, rfl⟩

end Sys2Proof.Machine
end

section
/-! PROOF. Precision time on the network: Sync, Announce, Pdelay and the master's second (R114, R306 to R310). -/

namespace Sys2Proof.Machine

open Sys2Proof

/-- The Announce a port holds becomes `a`, none with `none`. -/
def setAnnounce (p : NetPort) (a : Option Announce) (s : State) : State :=
  { s with net := (match p with
    | .a => { s.net with annA := a }
    | .b => { s.net with annB := a }) }

section
variable {s : State} {p : NetPort}

/-! ### Sync (R306, R307) -/

theorem execPtpSyncReceived_slave (o f : Int) (hr : (portOf s.net p).role = psSlave) (hp : ptpPort s p = true) :
    execPtpSyncReceived p o f s =
      (let s1 := modSpring (fun x => { x with ptpAlive := true, ptpMt := o - latRx s p }) s.wakeCore
       .next (if timeSrc s = 0 then measure (o - latRx s p) (noteFreq f s1) else s1)) := congrArg _ (if_pos ⟨hr, hp⟩)

theorem execPtpSyncReceived_idle (o f : Int) (h : (portOf s.net p).role ≠ psSlave ∨ ptpPort s p = false) :
    execPtpSyncReceived p o f s = .next s := congrArg _ (if_neg (by rcases h with h | h <;> simp [h]))

/-! ### Announce (R114, R306, R309) -/

section
variable {a : Announce}

theorem execPtpAnnounceReceived_heard (hp : ptpPort s p = true) (hd : (a.domain : Int) = ptpSet s 0x000D0302) :
    execPtpAnnounceReceived p a s =
      (let s1 := selectMaster (setAnnounce p (some a) s)
       .next (if (portOf s1.net p).role = psSlave then takeUtc a s1 else s1)) := congrArg _ (if_pos (by simp [hp, hd]))

theorem execPtpAnnounceReceived_idle (h : ptpPort s p = false ∨ (a.domain : Int) ≠ ptpSet s 0x000D0302) :
    execPtpAnnounceReceived p a s = .next s := congrArg _ (if_neg (by rcases h with h | h <;> simp [h]))

end

theorem execAnnounceReceiptTimeout_eq (p : NetPort) (s : State) :
    execAnnounceReceiptTimeout p s =
      (let s1 := selectMaster (setAnnounce p none s)
       .next (if (bestPort s1).isNone then { s1 with spring := { s1.spring with ptpAlive := false } } else s1)) := rfl

/-! ### Pdelay (R306, R307) -/

theorem execPtpPdelayMessage_request (hp : ptpPort s p = true) :
    execPtpPdelayMessage p .request s = .next (sendOn [p] .ptpPdelay s.wakeCore) := congrArg _ (if_pos hp)

theorem execPtpPdelayMessage_response (hp : ptpPort s p = true) (d : Int) :
    execPtpPdelayMessage p (.response d) s =
      .next (modPort p (fun q => { q with pdelay := (d - (latRx s p + latTx s p) / 2).toNat }) s.wakeCore) := congrArg _ (if_pos hp)

theorem execPtpPdelayMessage_idle (hp : ptpPort s p = false) (m : PdelayMsg) : execPtpPdelayMessage p m s = .next s :=
  congrArg _ (if_neg (by simp [hp]))

end

/-- Settles O42: each message by its port, its domain and the source in force. -/
theorem precisionTime : Obligations.PrecisionTime := by
  intro s p
  refine ⟨fun o f hr hp => ⟨fun hsrc => ?_, fun hsrc => ?_⟩, execPtpSyncReceived_idle,
    fun a hp hd => ?_, fun a => execPtpAnnounceReceived_idle,
    ⟨_, rfl, execAnnounceReceiptTimeout_eq p s⟩,
    fun hp => ⟨execPtpPdelayMessage_request hp, execPtpPdelayMessage_response hp⟩, execPtpPdelayMessage_idle, rfl⟩
  · exact (execPtpSyncReceived_slave o f hr hp).trans (congrArg _ (if_pos hsrc))
  · exact (execPtpSyncReceived_slave o f hr hp).trans (congrArg _ (if_neg hsrc))
  · cases p
    case a => exact ⟨_, rfl, execPtpAnnounceReceived_heard hp hd⟩
    case b => exact ⟨_, rfl, execPtpAnnounceReceived_heard hp hd⟩

end Sys2Proof.Machine
end

section
/-! PROOF. The time commands: SET_TICK and RATE_CHANGE (R92 to R94, R105, R204), PTP_CONFIG (R107) and CLOCK_SET (R115). -/

namespace Sys2Proof.Machine

open Sys2Proof

section
variable {s : State} (c : Ctx)

/-! ### SET_TICK (R92, R93) -/

/-- The change of the TICK code that waits once a SET_TICK with code `n` is accepted: none where the code is in force. -/
def tickChange (c : Ctx) (n : Nat) (s : State) : Option TickReq :=
  if n = s.spring.code then none else some ⟨n, s.now, some (ctxRef c 0x07)⟩

section
variable {w : Word} (hm : inModeList s [3] = true) (hw : reservedBad w 7 = false)
include hm hw

theorem opSetTick_full (hfull : opsFull s c = true) : opSetTick c [w] s = answer c stBusy [] s := by
  simp [opSetTick, modeGate_of_inModeList _ _ hm, show reservedBad w 7#32 = false from hw, hfull]

/-- SET_TICK that is accepted puts its change in the place of the one that waited, which is given up. -/
theorem opSetTick_accepted (hfull : opsFull s c = false) :
    opSetTick c [w] s = finishOpt (s.spring.next.bind fun r => r.ref) stAborted 0 []
      { startOp c (newOp c 0x07 0 w) (noteConfig c.src s) with
        spring := { s.spring with next := tickChange c (field w 0 3) s } } := by
  simp [opSetTick, modeGate_of_inModeList _ _ hm, show reservedBad w 7#32 = false from hw, hfull, modSpring, tickChange]

end

/-! ### RATE_CHANGE (R92 to R94, R105, R204) -/

theorem execRateChange_none (h : s.spring.next = none) : execRateChange s = .next s := by simp [execRateChange, h]

section
variable {r : TickReq} (hr : s.spring.next = some r)
include hr

theorem execRateChange_due (ht : s.spring.ticked = true) (hs : s.spring.stretched = false)
    (hg : onGrid r.code s.spring.tk = true) (ha : r.accepted + 20000 ≤ s.spring.tk) :
    execRateChange s = .next ((finishOpt r.ref stOk 0 [] (deactivateFor r.code { s with spring := { s.spring with
      code := r.code, num := gridIndex (tickRate r.code) s.spring.tk, next := none } })).mapCells fun _ x => aiRestart 0 x) := by
  simp [execRateChange, hr, ht, hs, hg, ha, modSpring]

theorem execRateChange_notDue (h : s.spring.ticked = false ∨ s.spring.stretched = true ∨
    onGrid r.code s.spring.tk = false ∨ s.spring.tk < r.accepted + 20000) : execRateChange s = .next s := by
  have hnot : ¬(s.spring.ticked = true ∧ s.spring.stretched = false ∧ onGrid r.code s.spring.tk = true ∧
      r.accepted + 20000 ≤ s.spring.tk) := by
    rintro ⟨ht, hs, hg, ha⟩
    rcases h with h | h | h | h
    · simp [h] at ht
    · simp [h] at hs
    · simp [h] at hg
    · omega
  simp only [execRateChange, hr, if_neg hnot]

end

/-! ### PTP_CONFIG (R107) -/

section
variable {ws : List Word} (hm : inModeList s [3] = true)
include hm

theorem opPtpConfig_good {cfg : List (Nat × Int)} (hp : pairsApply ptpParams ptpOk s.net.ptp ws 0 = some cfg) :
    opPtpConfig c ws s = answer c stOk [] (selectMaster (noteConfig c.src { s with net := { s.net with ptp := cfg } })) := by
  rw [opPtpConfig, modeGate_of_inModeList _ _ hm, hp]

theorem opPtpConfig_bad (hp : pairsApply ptpParams ptpOk s.net.ptp ws 0 = none) : opPtpConfig c ws s = answer c stBadParam [] s := by
  rw [opPtpConfig, modeGate_of_inModeList _ _ hm, hp]

end

/-! ### CLOCK_SET (R105, R115) -/

/-- The spring once CLOCK_SET has decided the step to the time `t` and set the RTC. -/
def clockStep (t : Nat) (s : State) : Spring :=
  { s.spring with rtcNs := t, rtcFrom := some s.clk, pendStep := some ((t : Int) - s.now), pendSlew := false }

/-- The UTC offset of CLOCK_SET's last word, taken where that word marks it as given. -/
def takeUtcWord (w : Word) (p : Spring) : Spring :=
  if bitOf w 16 then { p with utcOfs := signedOf 16 (field w 0 16), utcValid := true } else p

section
variable {a b w : Word} (hm : inModeList s modesAll = true)
include hm

theorem opClockSet_noTime (ht : ∀ t, tsParse a b ≠ some (some t)) : opClockSet c [a, b, w] s = answer c stBadParam [] s := by
  rw [opClockSet, modeGate_of_inModeList _ _ hm]
  split
  case h_1 t h => exact absurd h (ht t)
  case h_2 => rfl

section
variable {t : Nat} (ht : tsParse a b = some (some t)) (hw : reservedBad w 0x1FFFF = false)
include ht hw

theorem opClockSet_denied (hs : ¬(s.spring.state = .unsync ∨ s.spring.state = .freerun)) :
    opClockSet c [a, b, w] s = answer c stDenied [] s := by
  simp [opClockSet, modeGate_of_inModeList _ _ hm, par, ht, show reservedBad w 131071#32 = false from hw, hs]

theorem opClockSet_accepted (hs : s.spring.state = .unsync ∨ s.spring.state = .freerun) :
    opClockSet c [a, b, w] s = answer c stOk [] { s with spring := takeUtcWord w (clockStep t s) } := by
  cases hb : bitOf w 16 <;>
    simp [opClockSet, modeGate_of_inModeList _ _ hm, par, ht, show reservedBad w 131071#32 = false from hw, hs, hb, decideStep,
      modSpring, clockStep, takeUtcWord]

end

end

end

/-- Settles O44: every command by its law at the state that has accepted the packet, whose spring and settings are those of `s`. -/
theorem timeCommands : Obligations.TimeCommands := by
  intro s c p
  refine ⟨fun w hm hw => ?_,
    fun r hr => ⟨fun ht hs hg ha => ⟨_, execRateChange_due hr ht hs hg ha, rfl⟩, execRateChange_notDue hr⟩, execRateChange_none,
    fun ws hm => ⟨fun cfg hp => congrArg _ (opPtpConfig_good (s := p) c hm hp),
      fun hp => congrArg _ (opPtpConfig_bad (s := p) c hm hp)⟩,
    fun a b w hm => ⟨fun t ht hw => ⟨fun hs => ?_, fun hu hf => ?_⟩,
      fun ht => congrArg _ (opClockSet_noTime (s := p) c hm ht)⟩⟩
  · have run : opsFull s c = false → exec (.setTick c [w]) s = .next _ :=
      fun hfull => congrArg Host.Outcome.next (opSetTick_accepted (s := p) c hm hw hfull)
    refine ⟨fun hfull hnew => (run hfull).trans ?_, fun hfull hsame => (run hfull).trans ?_,
      fun hfull => congrArg _ (opSetTick_full (s := p) c hm hw hfull)⟩
    · rw [tickChange, if_neg (show field w 0 3 ≠ p.spring.code from hnew)]
      rfl
    · rw [tickChange, if_pos (show field w 0 3 = p.spring.code from hsame)]
      rfl
  · have run : exec (.clockSet c [a, b, w]) s = .next _ := congrArg Host.Outcome.next (opClockSet_accepted (s := p) c hm ht hw hs)
    refine ⟨fun hb => run.trans ?_, fun hb => run.trans ?_⟩
    · rw [takeUtcWord, if_neg (by simp [hb])]
      rfl
    · rw [takeUtcWord, if_pos hb]
      rfl
  · exact congrArg _ (opClockSet_denied (s := p) c hm ht hw (not_or.2 ⟨hu, hf⟩))

end Sys2Proof.Machine
end

section
/-! PROOF. The bytes of a lane frame: what a sender lays out a receiver reads back, and what a receiver takes is in range (R124,
R125, Tables 6-4, 6-5). -/

namespace Sys2Proof.Machine

open Sys2Proof

/-! ### The fields of a payload -/

theorem outKindOf_outKindNum (k : OutKind) : outKindOf (BitVec.ofNat 8 (outKindNum k)).toNat = some k := by cases k <;> rfl

theorem payAddr_bytes2 {n : Nat} (h : n < 65536) (r : List Byte) : payAddr (bytes2 n ++ r) = n := by
  simp [payAddr, bytes2]
  omega

theorem payAddr_lt (p : List Byte) : payAddr p < 65536 := by
  have h0 := (p.getD 0 0).isLt
  have h1 := (p.getD 1 0).isLt
  unfold payAddr
  omega

/-- The four bytes of a word, put together again. -/
theorem payWord_wordBytes (a b : Byte) (w : Word) (r : List Byte) : payWord (a :: b :: (wordBytes w ++ r)) 2 = w := by
  change (w >>> 24).setWidth 8 ++ (w >>> 16).setWidth 8 ++ (w >>> 8).setWidth 8 ++ w.setWidth 8 = w
  ext i hi
  grind

theorem intWord_toInt {i : Int} (hlo : -0x80000000 ≤ i) (hhi : i ≤ 0x7FFFFFFF) : (intWord i).toInt = i :=
  BitVec.toInt_ofInt_eq_self (by decide) hlo (Int.lt_add_one_of_le hhi)

/-! ### What a TYPE carries -/

theorem frameType_lt (f : LaneFrame) : frameType f < 16 := by cases f <;> simp [frameType]

@[simp] theorem framePayload_length (f : LaneFrame) : (framePayload f).length = 8 := by cases f <;> rfl

/-- The payload of a frame whose fields fit, read under its TYPE, is that frame. -/
theorem laneFrameOf_framePayload {f : LaneFrame} (hf : laneFields f) : laneFrameOf (frameType f) (framePayload f) = some f := by
  cases f with
  | out o =>
    obtain ⟨tag, kind, value⟩ := o
    obtain ⟨htag, hlo, hhi⟩ := hf
    have tagByte : (BitVec.ofNat 8 tag).toNat = tag := by simpa using Nat.mod_eq_of_lt htag
    change (outKindOf (BitVec.ofNat 8 (outKindNum kind)).toNat).map (fun k => LaneFrame.out ⟨(BitVec.ofNat 8 tag).toNat, k,
      (payWord (_ :: _ :: (wordBytes (intWord value) ++ _)) 2).toInt⟩) = _
    rw [outKindOf_outKindNum, tagByte, payWord_wordBytes, intWord_toInt hlo hhi]
    rfl
  | cfgw a d =>
    change some (LaneFrame.cfgw (payAddr (bytes2 a ++ _)) (payWord (_ :: _ :: (wordBytes d ++ _)) 2)) = _
    rw [payAddr_bytes2 hf, payWord_wordBytes]
  | cfga a d stored =>
    have status : ((if stored then 0 else 1 : Byte) == 0) = stored := by cases stored <;> rfl
    change some (LaneFrame.cfga (payAddr (bytes2 a ++ _)) (payWord (_ :: _ :: (wordBytes d ++ _)) 2)
      ((if stored then 0 else 1 : Byte) == 0)) = _
    rw [payAddr_bytes2 hf, payWord_wordBytes, status]
  | cfgr n | apply n | holdover n | ucode n => exact congrArg (fun n => some _) (payAddr_bytes2 hf _)
  | result | event | hello | status => rfl

theorem laneFields_of_laneFrameOf {ty : Nat} {p : List Byte} {f : LaneFrame} (h : laneFrameOf ty p = some f) :
    laneFields f ∧ frameType f = ty := by
  unfold laneFrameOf at h
  split at h
  case h_1 =>
    obtain ⟨k, -, rfl⟩ := Option.map_eq_some_iff.1 h
    exact ⟨⟨(p.getD 0 0).isLt, (payWord p 2).le_toInt, Int.le_of_lt_add_one (payWord p 2).toInt_lt⟩, rfl⟩
  case h_12 => cases h
  all_goals
    cases h
    simp [laneFields, frameType, payAddr_lt]

theorem laneFrameOf_reserved {ty : Nat} (h : ty ∈ [0x0, 0x7, 0xD, 0xE, 0xF]) (p : List Byte) : laneFrameOf ty p = none := by
  simp only [List.mem_cons, List.not_mem_nil, or_false] at h
  rcases h with rfl | rfl | rfl | rfl | rfl <;> rfl

/-! ### What the receiver takes -/

theorem rxOk_iff {r : LaneRx} :
    rxOk r = true ↔ r.coded = true ∧ r.payload.length = 8 ∧ crc16 (r.hdr :: r.payload) = r.crc := by
  simp [rxOk, and_assoc]

theorem rxFrame_eq_some_iff {r : LaneRx} {f : LaneFrame} :
    rxFrame r = some f ↔ rxOk r = true ∧ laneFrameOf (r.hdr.toNat / 16) r.payload = some f := Option.ite_none_right_eq_some

theorem rxOk_laneWire (f : LaneFrame) (seq : Nat) : rxOk (laneWire f seq) = true :=
  rxOk_iff.2 ⟨rfl, framePayload_length f, rfl⟩

/-- TYPE and SEQ share HDR. -/
theorem laneWire_hdr (f : LaneFrame) (seq : Nat) : (laneWire f seq).hdr.toNat = frameType f * 16 + seq % 16 := by
  have := frameType_lt f
  simp [laneWire]
  omega

theorem rxFrame_laneWire {f : LaneFrame} (hf : laneFields f) (seq : Nat) : rxFrame (laneWire f seq) = some f := by
  have type : (laneWire f seq).hdr.toNat / 16 = frameType f := by rw [laneWire_hdr]; omega
  exact rxFrame_eq_some_iff.2 ⟨rxOk_laneWire f seq, type ▸ laneFrameOf_framePayload hf⟩

theorem rxSeq_laneWire (f : LaneFrame) (seq : Nat) : rxSeq (laneWire f seq) = seq % 16 := by
  rw [rxSeq, laneWire_hdr]
  omega

/-- Settles O60: layout and reading field by field; a frame that is taken has passed its checks and has a TYPE. -/
theorem laneFrameEncoding : Obligations.LaneFrameEncoding := by
  refine ⟨fun f seq hf => ⟨rxFrame_laneWire hf seq, rxSeq_laneWire f seq⟩, fun r f h => ?_, fun r h => ?_⟩
  · obtain ⟨hok, hframe⟩ := rxFrame_eq_some_iff.1 h
    obtain ⟨hcoded, hlen, hcrc⟩ := rxOk_iff.1 hok
    obtain ⟨hfields, htype⟩ := laneFields_of_laneFrameOf hframe
    exact ⟨hfields, hcoded, hlen, hcrc, htype⟩
  · rw [rxFrame, laneFrameOf_reserved h, ite_self]

end Sys2Proof.Machine
end

section
/-! PROOF. Frames of a lane that are sent again, fail or are answered (R125, R126, R130 to R132). -/

namespace Sys2Proof.Machine

open Sys2Proof

section
variable {s : State} {ch : Ch}

/-! ### Attempts (R125, R131, Table 6-6) -/

section
variable {toCell : Bool}

theorem resend_idle (h : (if toCell then (s.cell ch).lane.tx else (s.cell ch).lane.up) = none) (why : Nat) :
    resend ch toCell why s = s := by
  rw [resend]
  dsimp only
  rw [h]

section
variable {t : TxFrame} (h : (if toCell then (s.cell ch).lane.tx else (s.cell ch).lane.up) = some t)
include h

/-- While attempts remain the frame is sent again, and RETRY counts it; the reason does not matter. -/
theorem resend_again (ht : t.tries < attempts t.frame) (why : Nat) :
    resend ch toCell why s = modLane ch (fun l => if toCell
      then { l with retry := satAdd 8 l.retry 1, tx := some { t with tries := t.tries + 1 } }
      else { l with retry := satAdd 8 l.retry 1, up := some { t with tries := t.tries + 1 } }) s := by
  rw [resend]
  dsimp only
  rw [h]
  exact if_pos ht

theorem resend_last (ht : attempts t.frame ≤ t.tries) (why : Nat) :
    resend ch toCell why s = (if toCell then txFails ch t.frame else upFails ch t.frame) why s := by
  rw [resend]
  dsimp only
  rw [h]
  refine (if_neg (Nat.not_lt.2 ht)).trans ?_
  cases toCell <;> rfl

end

end

/-! ### ACK of a frame to the cell (R125, R126, R130, R131) -/

section
variable {t : TxFrame} (h : (s.cell ch).lane.tx = some t)
include h

theorem execLaneAck_holdover {n : Nat} (hf : t.frame = .holdover n) : execLaneAck ch true s = .next (confirmFrame ch s) := by
  simp [execLaneAck, h, hf]

theorem execLaneAck_ucode {n : Nat} (hf : t.frame = .ucode n) :
    execLaneAck ch true s = .next (s.modCell ch (ucodeNext s.clk n)) := by simp [execLaneAck, h, hf]

theorem execLaneAck_out {o : OutFrame} (hf : t.frame = .out o) :
    execLaneAck ch true s = .next (s.modCell ch (freeTx s.clk)) := by simp [execLaneAck, h, hf]

/-- CFGW, CFGR and APPLY await CFGA. -/
theorem execLaneAck_config (hf : (∃ a d, t.frame = .cfgw a d) ∨ (∃ a, t.frame = .cfgr a) ∨ ∃ n, t.frame = .apply n) :
    execLaneAck ch true s = .next s := by
  rcases hf with ⟨a, d, hf⟩ | ⟨a, hf⟩ | ⟨n, hf⟩ <;> simp [execLaneAck, h, hf]

end

theorem execLaneAck_idle (h : (s.cell ch).lane.tx = none) : execLaneAck ch true s = .next s := by simp [execLaneAck, h]

/-! ### A write without its answer (R131, R132) -/

theorem execConfigWriteDeadline_fails (hw : (s.cell ch).lane.write.isSome = true) (ha : (awaited (s.cell ch).lane).isSome = true)
    (hu : (s.cell ch).lane.state = .up) :
    execConfigWriteDeadline ch s = .next (failWrite ch rcLaneTimeout (frameFailed ch rcLaneTimeout s)) := by
  simp [execConfigWriteDeadline, hw, ha, hu]

theorem execConfigWriteDeadline_idle (h : (s.cell ch).lane.write = none ∨ awaited (s.cell ch).lane = none ∨
    (s.cell ch).lane.state ≠ .up) : execConfigWriteDeadline ch s = .next s := by
  rcases h with h | h | h <;> simp [execConfigWriteDeadline, h]

theorem execConfigWriteLaneTimeout_fails (h : (s.cell ch).lane.state ≠ .up) :
    execConfigWriteLaneTimeout ch s = .next (failWrites ch rcLaneDown s) := congrArg _ (if_neg h)

theorem execConfigWriteLaneTimeout_idle (h : (s.cell ch).lane.state = .up) : execConfigWriteLaneTimeout ch s = .next s :=
  congrArg _ (if_pos h)

/-! ### CFGA (R130, R131, R139) -/

/-- The cell's CFGA is over, where it was in flight. -/
def endCfga (ch : Ch) (s : State) : State :=
  s.modCell ch fun c => if c.lane.up.any fun u => frameType u.frame == 0xA then endUp s.clk c else c

section
variable {r : LaneRx} {a : Nat} {d : BitVec 32} {stored : Bool} {t : TxFrame} {w : CfgWrite}
  (hr : rxFrame r = some (.cfga a d stored)) (ht : awaited (s.cell ch).lane = some t) (hw : (s.cell ch).lane.write = some w)
include hr ht hw

theorem execCfgaReceived_answers (hu : (s.cell ch).lane.state = .up) (hseq : t.seq = rxSeq r)
    (ha : answersFrame a d t.frame = true) : execCfgaReceived ch r s =
      .next (if stored then confirmFrame ch (endCfga ch s) else writeStoreFails ch w (endCfga ch s)) := by
  simp [execCfgaReceived, hr, ht, hw, hu, hseq, ha, endCfga]

theorem execCfgaReceived_other (h : t.seq ≠ rxSeq r ∨ answersFrame a d t.frame = false) :
    execCfgaReceived ch r s = .next s := by
  rcases h with h | h <;> simp [execCfgaReceived, hr, ht, hw, h]

end

theorem execCfgaReceived_discarded {r : LaneRx} (hr : rxFrame r = none) : execCfgaReceived ch r s = .next s := by
  simp [execCfgaReceived, hr]

end

/-- Settles O16: attempts in either direction, then the answers to the frames to the cell, kind by kind. -/
theorem laneFramesAndAnswers : Obligations.LaneFramesAndAnswers := by
  refine ⟨fun s ch toCell t h => ⟨fun ht => ⟨congrArg _ (resend_again h ht _), congrArg _ (resend_again h ht _)⟩,
      fun ht => ⟨congrArg _ (resend_last h ht _), congrArg _ (resend_last h ht _)⟩⟩,
    fun s ch toCell h => ⟨congrArg _ (resend_idle h _), congrArg _ (resend_idle h _)⟩,
    fun s ch => ⟨rfl, fun n q k a h => execLaneAck_holdover h rfl, fun n q k a h => execLaneAck_ucode h rfl,
      fun o q k a h => execLaneAck_out h rfl, fun x h => execLaneAck_config h, execLaneAck_idle, execConfigWriteDeadline_fails,
      execConfigWriteDeadline_idle, execConfigWriteLaneTimeout_fails, execConfigWriteLaneTimeout_idle,
      fun r a d stored t w hr ht hw hu => ⟨execCfgaReceived_answers hr ht hw hu, execCfgaReceived_other hr ht hw⟩,
      fun r => execCfgaReceived_discarded⟩⟩

end Sys2Proof.Machine
end

section
/-! PROOF. The results, events and cause bits of a cell at the headgate (R127, R145, R159, R215). -/

namespace Sys2Proof.Machine

open Sys2Proof

section
variable {s : State} {ch : Ch}

/-! ### RESULT (R127) -/

section
variable (hu : (s.cell ch).lane.state = .up) {r : ResFrame} (hr : (s.cell ch).res = some r)
include hu hr

theorem execResultReceived_good : execResultReceived ch true s = .next (s.modCell ch (takeResult s.clk r)) := by
  simp [execResultReceived, hr, hu]

theorem execResultReceived_bad : execResultReceived ch false s = .next (resultStale ch rcLaneCrc s) := by
  simp [execResultReceived, hr, hu]

end

theorem execResultReceived_idle (h : (s.cell ch).res = none ∨ (s.cell ch).lane.state ≠ .up) (ok : Bool) :
    execResultReceived ch ok s = .next s := by
  unfold execResultReceived
  split
  case h_1 => rfl
  case h_2 r hr => exact congrArg _ (if_pos (h.resolve_left (by simp [hr])))

/-! ### The direction to the core (R126) -/

theorem upIs_iff {f : LaneFrame} {l : Lane} : upIs f l = true ↔ ∀ t, l.up = some t → frameType t.frame = frameType f := by
  unfold upIs
  cases l.up <;> simp

/-! ### EVENT (R145, R159, R215) -/

theorem execEventFrameReceived_taken (hu : (s.cell ch).lane.state = .up)
    (hx : ∀ x, (s.cell ch).lane.up = some x → frameType x.frame = 0x9) (ok : Bool) (ev : CellEvent) :
    execEventFrameReceived ch ok ev s = .next ((takeEvent ch ok ev s.wakeCore).modCell ch (endUp s.clk)) :=
  congrArg _ (if_pos ⟨hu, upIs_iff.2 hx⟩)

theorem execEventFrameReceived_idle (h : (s.cell ch).lane.state ≠ .up ∨
    ∃ x, (s.cell ch).lane.up = some x ∧ frameType x.frame ≠ 0x9) (ok : Bool) (ev : CellEvent) :
    execEventFrameReceived ch ok ev s = .next s := by
  refine congrArg _ (if_neg fun ⟨hu, hup⟩ => ?_)
  rcases h with h | ⟨x, hx, hne⟩
  · exact h hu
  · exact hne (upIs_iff.1 hup x hx)

theorem takeEvent_cause_known {b : Fin 26} (h : hasCond (s.cell ch) b = true) :
    takeEvent ch true (.cause b) s = causeOn ch b s := by simp [takeEvent, h]

theorem takeEvent_cause_absent {b : Fin 26} (h : hasCond (s.cell ch) b = false) : takeEvent ch true (.cause b) s = s := by
  simp [takeEvent, h]

end

/-- Settles O18: RESULT and EVENT frames on a lane that is UP, then those that are not received. -/
theorem laneResultsAndEvents : Obligations.LaneResultsAndEvents := by
  intro s ch
  refine ⟨fun hu => ⟨fun r hr => ⟨execResultReceived_good hu hr, execResultReceived_bad hu hr⟩, fun hx ok => ?_⟩,
    execResultReceived_idle, execEventFrameReceived_idle⟩
  have taken := execEventFrameReceived_taken hu hx
  exact ⟨taken ok .edge, taken ok .inj, taken true .hart, taken false .hart, fun b =>
    ⟨fun h => (taken true (.cause b)).trans (by rw [takeEvent_cause_known (s := s.wakeCore) h]),
      fun h => (taken true (.cause b)).trans (by rw [takeEvent_cause_absent (s := s.wakeCore) h]), taken false (.cause b)⟩⟩

/-! ### CELL_CAUSE (R145) -/

theorem cell_causeClear_cause (s : State) (ch : Ch) (val : Word) :
    ((causeClear ch val s).cell ch).cause = (s.cell ch).cause &&& ~~~ (val.setWidth 26 &&& ~~~ (s.cell ch).causeNow) := by
  rw [causeClear, cell_modCell_same]

/-- Settles O19: the mask of the cleared bits, bit by bit. -/
theorem cellCauseWriteOneClears : Obligations.CellCauseWriteOneClears := by
  intro s ch val
  refine ⟨causeClear ch val s, rfl, fun b => ?_, ?_⟩
  · rw [cell_causeClear_cause]
    simp [bitOf]
  · exact modCell_congr (by rw [cell_causeClear_cause])

end Sys2Proof.Machine
end

section
/-! PROOF. The STATUS frames of a cell, its self-calibration and its calibration writes (R144, R247 to R249, R255, R260). -/

namespace Sys2Proof.Machine

open Sys2Proof

section
variable {s : State} {ch : Ch}

/-! ### STATUS (R144) -/

theorem execStatusSend_running (hr : (s.cell ch).running = true) (hu : (s.cell ch).lane.state = .up) :
    execStatusSend ch s = .next (s.modCell ch fun c => { c with lane := startUp ⟨.status, 0, 1, s.clk⟩ c.lane }) := by
  refine congrArg _ (modCell_congr ?_)
  exact if_pos ⟨hr, hu⟩

theorem execStatusReceived_good (hu : (s.cell ch).lane.state = .up)
    (hx : ∀ x, (s.cell ch).lane.up = some x → frameType x.frame = frameType .status) (d w p : Int) (m : Nat) :
    execStatusReceived ch d w p m true s = .next (s.modCell ch fun c => endUp s.clk { c with
      dieT := d, swT := w, pV := p * 20
      temp := packWord [(0, 16, intBits 16 d), (16, 16, intBits 16 w)]
      supply := packWord [(0, 16, intBits 16 p), (16, 16, m)] }) := by
  refine congrArg _ (if_neg ?_)
  simp [hu, upIs_iff.2 hx]

/-! ### The end of SELFCAL (R249) -/

section
variable {o : LongOp} (h : (s.ops.find? fun x => x.ref.opcode == 0x30 && x.left == 0) = some o)
include h

theorem execSelfcalComplete_good (hb : o.bad = 0) : execSelfcalComplete s = .next (finishOp o.ref stOk 0 [] s) := by
  rw [execSelfcalComplete, h]
  exact congrArg _ (if_pos hb)

theorem execSelfcalComplete_bad (hb : o.bad ≠ 0) :
    execSelfcalComplete s = .next (finishOp o.ref stFault (selfcalReason o) [o.bad] s) := by
  rw [execSelfcalComplete, h]
  exact congrArg _ (if_neg hb)

end

/-! ### Calibration entries and trims (R255, R260) -/

theorem launchWrite_cal (clk : Nat) (c : Cell) : (launchWrite clk c).cal = c.cal := by
  unfold launchWrite
  split
  · split <;> rfl
  · rfl

theorem nextWrite_cal (clk : Nat) (c : Cell) : (nextWrite clk c).cal = c.cal := by
  unfold nextWrite
  split
  · rw [launchWrite_cal]
  · rfl

/-- The end of the write of an entry takes the pending entry away and leaves the stored ones. -/
theorem endCalWrite_cal (clk : Nat) (c : Cell) :
    (endCalWrite clk c).cal = { c.cal with pendW := none, trim := c.cal.trim.filter fun t => !t.writing } := by
  unfold endCalWrite endWrite
  dsimp only
  split
  · rw [nextWrite_cal]
    rfl
  · rfl

/-- A pending entry written to the store of its cell, which ends its write. -/
def entryStored (ch : Ch) (p : CalPend) (s : State) : State :=
  s.modCell ch fun c => endCalWrite s.clk { c with cal := { c.cal with
    entries := c.cal.entries.set p.entry (writtenEntry p c.cal.entries[p.entry]) } }

section
variable {p : CalPend} (h : (s.cell ch).cal.pendW = some p)
include h

theorem execCalStoreWriteComplete_bad : execCalStoreWriteComplete ch false s =
    .next (finishOp p.ref stFault rcStore [] (condOn ch cbStore (s.modCell ch (endCalWrite s.clk)))) := by
  simp [execCalStoreWriteComplete, h]

theorem execCalStoreWriteComplete_good : execCalStoreWriteComplete ch true s =
    .next (finishOp p.ref stOk 0 [] (condSet ch cbStore (!setOk ((entryStored ch p s).cell ch)) (entryStored ch p s))) := by
  simp [execCalStoreWriteComplete, h, entryStored]

end

theorem entryStored_cal (p : CalPend) : ((entryStored ch p s).cell ch).cal.entries[p.entry] =
    writtenEntry p (s.cell ch).cal.entries[p.entry] ∧ ((entryStored ch p s).cell ch).cal.pendW = none := by
  rw [entryStored, cell_modCell_same, endCalWrite_cal]
  simp

theorem execCalStoreWriteComplete_idle (h : (s.cell ch).cal.pendW = none) (ok : Bool) :
    execCalStoreWriteComplete ch ok s = .next s := by simp [execCalStoreWriteComplete, h]

theorem execAoTrimTimeout_due {t : TrimSt} (h : (s.cell ch).cal.trim = some t) (hw : t.writing = false) :
    execAoTrimTimeout ch s =
      .next (finishOp t.ref stTimeout 0 [] (s.modCell ch fun c => { c with cal := { c.cal with trim := none } })) := by
  simp [execAoTrimTimeout, h, hw]

end

/-- Settles O13: STATUS frames, then each end of a calibration. -/
theorem cellStatusAndCalibration : Obligations.CellStatusAndCalibration := fun _ _ =>
  ⟨execStatusSend_running, execStatusReceived_good, fun _ _ _ _ => rfl, fun _ => rfl,
    fun _ h => ⟨execSelfcalComplete_good h, execSelfcalComplete_bad h⟩,
    fun p h => ⟨execCalStoreWriteComplete_bad h, execCalStoreWriteComplete_good h, entryStored_cal p⟩,
    execCalStoreWriteComplete_idle, fun _ => execAoTrimTimeout_due⟩

end Sys2Proof.Machine
end

section
/-! PROOF. The channel commands CH_CONFIG, CH_READ_CONFIG, CH_SET_FAILSAFE, CH_FORCE and CH_CLEAR_LATCH (R119, R139, R395, R405,
R406, R501). -/

namespace Sys2Proof.Machine

open Sys2Proof

section
variable {s : State} {c : Ctx} {ws : List Word} {ch : Ch}

/-! ### CH_CONFIG and CH_READ_CONFIG (R119, R405, R501) -/

/-- CH_CONFIG that names a channel and a function it may take now reaches its parameter and load checks. -/
theorem opChConfig_configChannel (hm : inModeList s modesConfig = true) (hch : chOf (par ws 1) = some ch) {f : Func}
    (hf : funcOfNum (field (par ws 1) 8 4) = some f) (hmode : f = (s.cell ch).accFunc ∨ s.md.mode = .m3) :
    opChConfig c ws s = configChannel c ws ch f s := by
  rw [opChConfig, modeGate_of_inModeList _ _ hm, withCh_of_chOf _ hch, hf]
  exact if_pos (by simpa using hmode)

/-- A change that fits, on a channel that is free: refused by the load, deferred for a lost cell, or written. -/
theorem configChannel_fits {f : Func} {pars : List (Nat × Int)} (hp : pairsFit ws 0x00000FFF = true)
    (hn : newConfig (s.cell ch).accFunc (s.cell ch).accPar f ws = some pars) (hu : chInUse s ch = false)
    (hfull : opsFull s c = false) :
    configChannel c ws ch f s =
      if loadOk (acceptConfig ch f pars s) then
        if cellUp s ch then
          startWrite ch { kind := .config f, since := 0, func := f, pars := pars, ref := some (ctxRef c 0x10), immediate := false
                          frames := writeFrames (changedRegs (f == (s.cell ch).accFunc) f (s.cell ch).accPar pars
                            ((pairsOf (ws.drop 1)).map Prod.fst)) }
            (startOp c (newOp c 0x10 (chBit ch) (par ws 1)) (acceptConfig ch f pars (noteConfig c.src s)))
        else deferConfig c ch f pars (noteConfig c.src s)
      else answer c stResource [] s := by
  simp only [configChannel, hp, hn, hu, hfull, if_true, Bool.or_self, Bool.false_eq_true, if_false]
  cases loadOk (acceptConfig ch f pars s)
  · rfl
  · cases cellUp s ch <;> rfl

theorem opChReadConfig_good {w : Word} (hm : inModeList s modesAll = true) (hw : reservedBad w 0xFF = false)
    (hch : chOf w = some ch) :
    opChReadConfig c [w] s =
      (let ps := configWords (s.cell ch).cfgFunc (s.cell ch).cfgPar
       answer c stOk (packWord [(0, 8, ch.val), (8, 4, funcNum (s.cell ch).cfgFunc), (16, 8, ps.length / 2)] :: ps) s) := by
  rw [opChReadConfig, modeGate_of_inModeList _ _ hm, refuseIf_of_false _ _ _ _ (by simpa using hw), par_singleton,
    withCh_of_chOf _ hch]

/-! ### CH_SET_FAILSAFE (R139) -/

theorem opChSetFailsafe_good (hm : inModeList s modesConfig = true) (hch : chOf (par ws 1) = some ch)
    (hres : reservedBad (par ws 1) 0x3FF = false) (hlen : wordCount ws 1 (field (par ws 1) 8 2 == 2).toNat 1 = true)
    (hout : isOut (s.cell ch).accFunc = true) {o : FsOpt} {v : Int}
    (hfs : failsafeOf (s.cell ch).accFunc (field (par ws 1) 8 2) (wordInt (par ws 2)) = some (o, v)) :
    opChSetFailsafe c ws s = longChannel c 0x12 ch (par ws 1) (startWrite ch
      { kind := .failsafe o v, since := 0, func := (s.cell ch).accFunc, pars := [], ref := some (ctxRef c 0x12)
        immediate := false
        frames := writeFrames [(regFsOpt, BitVec.ofNat 32 (fsOptNum o)), (regFsValue, intWord v)] }) s := by
  rw [opChSetFailsafe, modeGate_of_inModeList _ _ hm, refuseIf_of_false _ _ _ _ (by rw [hres, hlen]; rfl), withCh_of_chOf _ hch]
  simp only [hout, hfs, if_true]

/-! ### CH_CLEAR_LATCH (R165, R194, R221, R244) -/

theorem opChClearLatch_good (hm : inModeList s modesConfig = true) (hch : chOf (par ws 1) = some ch)
    (hres : reservedBad (par ws 1) 0xFF = false) (hlen : ws.length = 2)
    (hopt : reservedBad (par ws 2) (latchOptions (s.cell ch).cfgFunc) = false) :
    opChClearLatch c ws s =
      answer c stOk [] (s.modCell ch fun x => { x with clearReq := x.clearReq ||| (par ws 2).setWidth 4 }) := by
  rw [opChClearLatch, modeGate_of_inModeList _ _ hm, refuseIf_of_false _ _ _ _ (by rw [hres, hlen]; rfl), withCh_of_chOf _ hch,
    refuseIf_of_false _ _ _ _ hopt]

/-! ### CH_FORCE (R406) -/

/-- What CH_FORCE refuses with BAD_PARAM, on the channels it names. -/
def forceBad (ws : List Word) (l : List Ch) (s : State) : Bool :=
  let op := field (par ws 1) 8 2
  reservedBad (par ws 1) 0x3FF || op == 3 || !wordCount ws 1 op 2 || (op == 1 && l.any fun ch => !isOut (s.cell ch).cfgFunc) ||
    (op == 2 && reservedBad (par ws 3) 0xF)

theorem forceBad_eq_false_iff {l : List Ch} : forceBad ws l s = false ↔
    reservedBad (par ws 1) 0x3FF = false ∧ field (par ws 1) 8 2 ≠ 3 ∧ wordCount ws 1 (field (par ws 1) 8 2) 2 = true ∧
      (field (par ws 1) 8 2 = 1 → ∀ ch ∈ l, isOut (s.cell ch).cfgFunc = true) ∧
      (field (par ws 1) 8 2 = 2 → reservedBad (par ws 3) 0xF = false) := by
  simp [forceBad, and_assoc]

section
variable {l : List Ch} (hm : inModeList s [10] = true) (hl : chsOf (par ws 1) = some l)
include hm hl

theorem opChForce_eq : opChForce c ws s = refuseIf (forceBad ws l s) stBadParam c (fun s => answer c stOk []
    (l.foldl (fun s ch => s.modCell ch (forceCell (field (par ws 1) 8 2) (par ws 2) (par ws 3))) s)) s := by
  rw [opChForce, modeGate_of_inModeList _ _ hm, hl]
  rfl

theorem opChForce_refused (hb : forceBad ws l s = true) : opChForce c ws s = answer c stBadParam [] s :=
  (opChForce_eq hm hl).trans (if_pos hb)

theorem opChForce_taken (hb : forceBad ws l s = false) : opChForce c ws s = answer c stOk []
    (l.foldl (fun s ch => s.modCell ch (forceCell (field (par ws 1) 8 2) (par ws 2) (par ws 3))) s) :=
  (opChForce_eq hm hl).trans (refuseIf_of_false _ _ _ _ hb)

section
variable (hres : reservedBad (par ws 1) 0x3FF = false)
include hres

theorem opChForce_release (hop : field (par ws 1) 8 2 = 0) (hlen : wordCount ws 1 0 2 = true) :
    opChForce c ws s = answer c stOk []
      (l.foldl (fun s ch => s.modCell ch fun x => { x with forceNext := some none, simNext := some none }) s) := by
  rw [opChForce_taken hm hl (forceBad_eq_false_iff.2
    ⟨hres, by simp [hop], by rwa [hop], by simp [hop], by simp [hop]⟩), hop]
  rfl

theorem opChForce_force (hop : field (par ws 1) 8 2 = 1) (hlen : wordCount ws 1 1 2 = true)
    (hout : ∀ ch ∈ l, isOut (s.cell ch).cfgFunc = true) : opChForce c ws s = answer c stOk []
      (l.foldl (fun s ch => s.modCell ch fun x => { x with forceNext := some (some (wordInt (par ws 2))) }) s) := by
  rw [opChForce_taken hm hl (forceBad_eq_false_iff.2
    ⟨hres, by simp [hop], by rwa [hop], fun _ => hout, by simp [hop]⟩), hop]
  rfl

theorem opChForce_simulate (hop : field (par ws 1) 8 2 = 2) (hlen : wordCount ws 1 2 2 = true)
    (hw3 : reservedBad (par ws 3) 0xF = false) : opChForce c ws s = answer c stOk [] (l.foldl (fun s ch => s.modCell ch fun x =>
      { x with simNext := some (some (par ws 2, (par ws 3).setWidth 4)) }) s) := by
  rw [opChForce_taken hm hl (forceBad_eq_false_iff.2
    ⟨hres, by simp [hop], by rwa [hop], by simp [hop], fun _ => hw3⟩), hop]
  rfl

end

/-- A force on a channel that is not an output. -/
theorem opChForce_notOutput (hop : field (par ws 1) 8 2 = 1) (hin : ∃ ch ∈ l, isOut (s.cell ch).cfgFunc = false) :
    opChForce c ws s = answer c stBadParam [] s := by
  refine opChForce_refused hm hl (Bool.ne_false_iff.1 fun hb => ?_)
  obtain ⟨ch, hmem, hin⟩ := hin
  obtain ⟨-, -, -, hout, -⟩ := forceBad_eq_false_iff.1 hb
  exact Bool.eq_false_iff.1 hin (hout hop ch hmem)

theorem opChForce_noOption (hop : field (par ws 1) 8 2 = 3) : opChForce c ws s = answer c stBadParam [] s := by
  refine opChForce_refused hm hl (Bool.ne_false_iff.1 fun hb => ?_)
  obtain ⟨-, h3, -, -, -⟩ := forceBad_eq_false_iff.1 hb
  exact h3 hop

end

end

/-- Settles O29: the gates are open, then the load and the lane decide. -/
theorem channelConfiguration : Obligations.ChannelConfiguration := by
  intro s c ws ch f pars p
  refine ⟨fun hm hch hf hmode hp hn hu hfull => ?_,
    fun hm w hw hch => congrArg _ (opChReadConfig_good (s := acceptPacket c s) hm hw hch)⟩
  have run : exec (.chConfig c ws) s = .next _ := congrArg Host.Outcome.next
    ((opChConfig_configChannel (s := p) hm hch hf hmode).trans (configChannel_fits (s := p) hp hn hu hfull))
  have load : loadOk (acceptConfig ch f pars p) = loadOk (acceptConfig ch f pars s) := rfl
  have up : cellUp p ch = cellUp s ch := rfl
  rw [load, up] at run
  refine ⟨fun hload => run.trans ?_, fun hload hdown => run.trans ?_, fun hload hup => run.trans ?_⟩
  · rw [hload]; rfl
  · rw [hload, hdown]; rfl
  · rw [hload, hup]; rfl

/-- Settles O30: CH_FORCE option by option, then a record that fits and a latch option the function has. -/
theorem channelOperations : Obligations.ChannelOperations :=
  ⟨fun s c _ _ hm hl hres =>
    ⟨fun hop hlen => congrArg _ (opChForce_release (s := acceptPacket c s) hm hl hres hop hlen),
      fun hop hlen hout => congrArg _ (opChForce_force (s := acceptPacket c s) hm hl hres hop hlen hout),
      fun hop hin => congrArg _ (opChForce_notOutput (s := acceptPacket c s) hm hl hop hin),
      fun hop hlen hw3 => congrArg _ (opChForce_simulate (s := acceptPacket c s) hm hl hres hop hlen hw3),
      fun hop => congrArg _ (opChForce_noOption (s := acceptPacket c s) hm hl hop)⟩,
    fun s c _ _ hch =>
    ⟨fun hm hres hlen hout _ _ hfs => congrArg _ (opChSetFailsafe_good (s := acceptPacket c s) hm hch hres hlen hout hfs),
      fun hm hres hlen hopt => congrArg _ (opChClearLatch_good (s := acceptPacket c s) hm hch hres hlen hopt)⟩⟩

end Sys2Proof.Machine
end

section
/-! PROOF. The timers and conditions of a binary input, and the end of an input test (R151 to R153, R156, R159, R162, R199, R204,
R210). -/

namespace Sys2Proof.Machine

open Sys2Proof

section
variable {s : State} {ch : Ch}

/-! ### The timers of a DI cell (R151, R153, R156, R159, Table 7-7) -/

section
variable (hd : isDi s ch = true)
include hd

theorem execChatterQuietExpire_di : execChatterQuietExpire ch s =
    .next (s.modCell ch fun c => cellLaunch s.clk (diChatterEnd s { c with pstate := 0 })) := congrArg _ (if_pos hd)

theorem execEventQueueSpace_di : execEventQueueSpace ch s =
    .next (s.modCell ch fun c => cellLaunch s.clk { c with di := diLostSummary c.di }) := congrArg _ (if_pos hd)

theorem execWetPulseEnd_di (ignoreOnly : Bool) : execWetPulseEnd ch ignoreOnly s =
    .next (if ignoreOnly then s.modCell ch fun c => { c with di := { c.di with wetIgnore := false } }
      else s.modCell ch fun c => { c with di := { c.di with wetUntil := none } }) := congrArg _ (if_neg (by simp [hd]))

theorem execDiOverrangeTimer_di (out : Bool) : execDiOverrangeTimer ch out s = .next (condSet ch cbOverrange out s) :=
  congrArg _ (if_pos hd)

theorem execWireBreakTimeout_di (absent : Bool) : execWireBreakTimeout ch absent s =
    .next (if absent then condOff ch cbOpen s
      else if cpar (s.cell ch) 0x00070108 0 = 1 ∧ (s.cell ch).di.st = false then condOn ch cbOpen s else s) :=
  congrArg _ (if_neg (by simp [hd]))

end

section
variable (hd : isDi s ch = false)
include hd

theorem execChatterQuietExpire_idle : execChatterQuietExpire ch s = .next s := by simp [execChatterQuietExpire, hd]

theorem execEventQueueSpace_idle : execEventQueueSpace ch s = .next s := by simp [execEventQueueSpace, hd]

theorem execWetPulseEnd_idle (ignoreOnly : Bool) : execWetPulseEnd ch ignoreOnly s = .next s := by simp [execWetPulseEnd, hd]

theorem execDiOverrangeTimer_idle (out : Bool) : execDiOverrangeTimer ch out s = .next s := by simp [execDiOverrangeTimer, hd]

theorem execWireBreakTimeout_idle (absent : Bool) : execWireBreakTimeout ch absent s = .next s := by
  simp [execWireBreakTimeout, hd]

end

/-! ### The sensor supply of DI and the transmitter supply of AII (R151, R152, R199) -/

section
variable (hr : (s.cell ch).running = true)
include hr

theorem execSensorShortDetect_absent : execSensorShortDetect ch true s = .next (condOff ch cbSensorShort s) := by
  simp [execSensorShortDetect, hr]

theorem execSensorShortDetect_counts (hs : supplyOn (s.cell ch) = true)
    (hw : (s.cell ch).func = .di → (s.cell ch).di.wetIgnore = false) :
    execSensorShortDetect ch false s = .next (condOn ch cbSensorShort s) := by
  have hcounts : ((s.cell ch).func == .di && (s.cell ch).di.wetIgnore) = false := by simpa using hw
  rw [execSensorShortDetect, hr, hs, hcounts]
  rfl

theorem execSensorSupplyRetry_on (hs : supplyOn (s.cell ch) = true) (on : Bool) : execSensorSupplyRetry ch on s =
    .next (s.modCell ch fun c => { c with di := { c.di with supOff := !on } }) := by
  simp [execSensorSupplyRetry, hr, hs]

end

/-- In a wetting pulse and 0.5 ms after it, the limit of the supply of a DI cell does not count. -/
theorem execSensorShortDetect_wetting (hf : (s.cell ch).func = .di) (hw : (s.cell ch).di.wetIgnore = true) :
    execSensorShortDetect ch false s = .next s := by
  simp [execSensorShortDetect, hf, hw]

theorem execSensorShortDetect_supplyOff (hs : supplyOn (s.cell ch) = false) : execSensorShortDetect ch false s = .next s := by
  simp [execSensorShortDetect, hs]

theorem execSensorSupplyRetry_supplyOff (hs : supplyOn (s.cell ch) = false) (on : Bool) :
    execSensorSupplyRetry ch on s = .next s := by simp [execSensorSupplyRetry, hs]

theorem execSensorShortDetect_idle (hr : (s.cell ch).running = false) (absent : Bool) :
    execSensorShortDetect ch absent s = .next s := by simp [execSensorShortDetect, hr]

theorem execSensorSupplyRetry_idle (hr : (s.cell ch).running = false) (on : Bool) :
    execSensorSupplyRetry ch on s = .next s := by simp [execSensorSupplyRetry, hr]

/-! ### The end of an input test (R162, R204, R210) -/

variable {lo hi : Int} {rawAfter : Bool}

theorem execInputTestEnd_idle (h : (s.cell ch).running = false ∨ (s.cell ch).di.test = false) :
    execInputTestEnd ch lo hi rawAfter s = .next s := by
  refine congrArg _ (if_pos ?_)
  rcases h with h | h <;> simp [h]

section
variable (hr : (s.cell ch).running = true) (ht : (s.cell ch).di.test = true)
include hr ht

theorem execInputTestEnd_di (hf : (s.cell ch).func = .di) : execInputTestEnd ch lo hi rawAfter s =
    let pass := thresholdOk hi (cpar (s.cell ch) 0x00070102 110) && thresholdOk lo (cpar (s.cell ch) 0x00070103 90)
    .next (testComplete ch pass [packWord [(0, 16, intBits 16 hi), (16, 16, intBits 16 lo)]]
      (testVerdict ch pass (diReconnect ch rawAfter s))) :=
  congrArg _ ((if_neg (by simp [hr, ht])).trans (if_pos hf))

theorem execInputTestEnd_analogue (hf : (s.cell ch).func ≠ .di) : execInputTestEnd ch lo hi rawAfter s =
    let pass := levelOk (s.cell ch).func lo 10 && levelOk (s.cell ch).func hi 90
    .next (testComplete ch pass [intWord lo, intWord hi] (testVerdict ch pass
      (s.modCell ch fun c => aiRestart 1 { c with di := { c.di with test := false } }))) :=
  congrArg _ ((if_neg (by simp [hr, ht])).trans (if_neg hf))

end

end

/-- Settles O2: the timers of a cell that runs as DI, those of any other cell, then the supply, on, off, or at a cell that
does not run. -/
theorem diTimers : Obligations.DiTimers := fun _ _ =>
  ⟨fun hd => ⟨execChatterQuietExpire_di hd, execEventQueueSpace_di hd, execWetPulseEnd_di hd true, execWetPulseEnd_di hd false,
      execDiOverrangeTimer_di hd, execWireBreakTimeout_di hd true, execWireBreakTimeout_di hd false⟩,
    fun hd => ⟨execChatterQuietExpire_idle hd, execEventQueueSpace_idle hd, fun b =>
      ⟨execWetPulseEnd_idle hd b, execDiOverrangeTimer_idle hd b, execWireBreakTimeout_idle hd b⟩⟩,
    fun hr => ⟨execSensorShortDetect_absent hr,
      fun hs => ⟨execSensorShortDetect_counts hr hs, execSensorShortDetect_wetting, execSensorSupplyRetry_on hr hs⟩,
      fun hs => ⟨execSensorShortDetect_supplyOff hs, execSensorSupplyRetry_supplyOff hs⟩⟩,
    fun hr b => ⟨execSensorShortDetect_idle hr b, execSensorSupplyRetry_idle hr b⟩⟩

/-- Settles O8: nothing without a running test; with one, the verdict of its thresholds or of its levels. -/
theorem inputTestEnds : Obligations.InputTestEnds := fun _ _ _ _ _ =>
  ⟨execInputTestEnd_idle, fun hr ht => ⟨execInputTestEnd_di hr ht, execInputTestEnd_analogue hr ht⟩⟩

end Sys2Proof.Machine
end

section
/-! PROOF. The commands INPUT_TEST, INJ_SEQ_CONFIG, HART_TX and HART_RX (R162, R210, R211, R237, R241). -/

namespace Sys2Proof.Machine

open Sys2Proof

section
variable {s : State} {c : Ctx} {ws : List Word} {ch : Ch}

/-! ### INPUT_TEST and INJ_SEQ_CONFIG (R162, R210, R211) -/

/-- On an input, only a calibration keeps the test from starting. -/
theorem opInputTest_good (hm : inModeList s modesConfig = true) (hch : chOf (par ws 1) = some ch)
    (hres : reservedBad (par ws 1) 0xFF = false) (hlen : ws.length = 1)
    (hf : (s.cell ch).cfgFunc = .di ∨ isAi (s.cell ch).cfgFunc = true) :
    opInputTest c ws s = if (s.cell ch).cal.busy then answer c stBusy [] s
      else longChannel c 0x15 ch 0 (fun x => x.modCell ch beginTest) s := by
  rw [opInputTest, modeGate_of_inModeList _ _ hm, refuseIf_of_false _ _ _ _ (by rw [hres, hlen]; rfl), withCh_of_chOf _ hch]
  refine refuseIf_of_false _ _ _ _ ?_
  rcases hf with hf | hf <;> simp [hf]

/-- The sequence INJ_SEQ_CONFIG writes to the cell: INJ_EN, N and MUX0 to MUX3 (R211). -/
def injSeqWrite (c : Ctx) (ws : List Word) : CfgWrite :=
  { kind := .inj ⟨bitOf (par ws 1) 8, field (par ws 1) 9 3 + 1, #v[field (par ws 2) 0 3, field (par ws 2) 4 3,
      field (par ws 2) 8 3, field (par ws 2) 12 3]⟩
    frames := writeFrames [(regInj, par ws 1), (regInj + 1, par ws 2)], since := 0, func := .off, pars := []
    ref := some (ctxRef c 0x16), immediate := true }

/-- On an analogue input, with an N and MUX codes that exist, only the lane keeps the sequence from its cell. -/
theorem opInjSeqConfig_good (hm : inModeList s modesAll = true) (hch : chOf (par ws 1) = some ch)
    (hres1 : reservedBad (par ws 1) 0xFFF = false) (hres2 : reservedBad (par ws 2) 0x7777 = false) (hlen : ws.length = 2)
    (hai : isAi (s.cell ch).cfgFunc = true) (hn : field (par ws 1) 9 3 ≤ 3)
    (hitem : ∀ i < 4, field (par ws 2) (4 * i) 3 ≤ 5) :
    opInjSeqConfig c ws s = if (s.cell ch).lane.state ≠ .up then answerFault c 0x16 rcLaneDown s
      else startWrite ch (injSeqWrite c ws) s := by
  have hfew : ¬ 3 < field (par ws 1) 9 3 := Nat.not_lt.2 hn
  have hitems : ∀ i < 4, ¬ 5 < field (par ws 2) (4 * i) 3 := fun i hi => Nat.not_lt.2 (hitem i hi)
  rw [opInjSeqConfig, modeGate_of_inModeList _ _ hm, refuseIf_of_false _ _ _ _ (by rw [hres1, hres2, hlen]; rfl),
    withCh_of_chOf _ hch]
  refine refuseIf_of_false _ _ _ _ ?_
  simp only [hai, hfew, hitems 0 (by decide), hitems 1 (by decide), hitems 2 (by decide), hitems 3 (by decide), or_self,
    decide_false, Bool.not_true, Bool.or_self]

/-! ### HART_TX and HART_RX (R237, R241) -/

/-- The request HART_TX writes to the cell: the first `n` bytes of its words, behind their delimiter. -/
def hartWrite (c : Ctx) (ws : List Word) (n : Nat) : CfgWrite :=
  { kind := .hart, since := 0, func := .off, pars := [], ref := some (ctxRef c 0x17), immediate := false
    frames := writeFrames (hartRegs (hartRequest (bitOf (par ws 1) 8) (field (par ws 1) 16 8)
      (((ws.drop 1).flatMap wordBytes).take n))) }

/-- The request fits where the cell has a modem that is on, and the words hold its bytes and zeros behind them. -/
theorem opHartTx_good (hm : inModeList s [4, 5, 6, 7, 9, 10] = true) (hch : chOf (par ws 1) = some ch)
    (hres : reservedBad (par ws 1) 0xFF01FF = false) (hf : isAo (s.cell ch).cfgFunc = true ∨ (s.cell ch).cfgFunc = .aii)
    (hon : valueIn (funcParams (s.cell ch).cfgFunc) (s.cell ch).cfgPar 0x000A0109 = 1) {n : Nat}
    (hn : n = (if bitOf (par ws 1) 8 then 5 else 1) + 1 + field (par ws 1) 16 8) (hlen : ws.length = 1 + (n + 3) / 4)
    (hpad : ∀ b ∈ ((ws.drop 1).flatMap wordBytes).drop n, b = 0) :
    opHartTx c ws s = longChannel c 0x17 ch (par ws 1) (fun x => startWrite ch (hartWrite c ws n)
      (x.modCell ch fun x => { x with hart := { x.hart with ex := some ⟨ctxRef c 0x17, .loading, []⟩ } })) s := by
  have hmodem : (isAo (s.cell ch).cfgFunc || (s.cell ch).cfgFunc == .aii) = true := by simpa using hf
  have hzero : ((((ws.drop 1).flatMap wordBytes).drop n).any fun b => b != 0) = false := by simpa using hpad
  subst hn
  rw [opHartTx, modeGate_of_inModeList _ _ hm, refuseIf_of_false _ _ _ _ hres, withCh_of_chOf _ hch]
  refine refuseIf_of_false _ _ _ _ ?_
  simp only [hmodem, hon, hlen, hzero, bne_self_eq_false, Bool.not_true, Bool.or_self]

theorem opHartRx_good (hm : inModeList s [4, 5, 6, 7, 9, 10] = true) (hch : chOf (par ws 1) = some ch)
    (hres : reservedBad (par ws 1) 0x1FF = false) (hlen : ws.length = 1) :
    opHartRx c ws s = if bitOf (par ws 1) 8 then
        answer c stOk [0] (s.modCell ch fun x => { x with hart := { x.hart with buf := [], lost := 0 } })
      else answer c stOk (hartReplyWords (s.cell ch).hart)
        (s.modCell ch fun x => { x with hart := { x.hart with buf := x.hart.buf.drop 1 } }) := by
  rw [opHartRx, modeGate_of_inModeList _ _ hm, refuseIf_of_false _ _ _ _ (by rw [hres, hlen]; rfl), withCh_of_chOf _ hch]

end

/-- Settles O31: each command past its gates, at the state that has accepted the packet, whose mode and cells are those of `s`. -/
theorem inputAndHartCommands : Obligations.InputAndHartCommands := by
  intro s c ws ch hch p
  refine ⟨fun hm hres hlen hf => ?_, fun hm hres1 hres2 hlen hai hn hitem => ?_,
    fun hm hres hf hon n hn hlen hpad => congrArg _ (opHartTx_good (s := p) hm hch hres hf hon hn hlen hpad),
    fun hm hres hlen => ?_⟩
  · have run := opInputTest_good (s := p) (c := c) hm hch hres hlen hf
    exact ⟨fun hbusy => congrArg _ (run.trans (if_pos hbusy)),
      fun hfree => congrArg _ (run.trans (if_neg (Bool.eq_false_iff.1 hfree)))⟩
  · have run := opInjSeqConfig_good (s := p) (c := c) hm hch hres1 hres2 hlen hai hn hitem
    exact ⟨fun hup => congrArg _ (run.trans (if_neg (not_not_intro hup))), fun hdown => congrArg _ (run.trans (if_pos hdown))⟩
  · have run := opHartRx_good (s := p) (c := c) hm hch hres hlen
    exact ⟨fun hflush => congrArg _ (run.trans (if_pos hflush)),
      fun hkeep => congrArg _ (run.trans (if_neg (Bool.eq_false_iff.1 hkeep)))⟩

end Sys2Proof.Machine
end

section
/-! PROOF. Switch outputs: their timers and supply, protective turn-off, timed diagnoses and trip-circuit supervision (R169 to R173,
R176 to R182, R185 to R191, R195). -/

namespace Sys2Proof.Machine

open Sys2Proof

section
variable {s : State} {ch : Ch}

/-! ### A switch that is off stays off while its cell reports (R145, R173, R191) -/

theorem EventStable.condOff {P : Cell → Prop} {k : Ch} (hP : EventStable P) (h : P (s.cell k)) (ch : Ch) (bit : Fin 26) :
    P ((condOff ch bit s).cell k) := by
  unfold Machine.condOff causeOff refreshCellPresent
  dsimp only
  generalize hm : s.modCell ch _ = m
  have known : P (m.cell k) := by
    subst hm
    exact cell_keeps_modCell ch (fun c hc => hP.report c _ _ _ _ _ _ _ hc) h
  have reported := cell_keeps_modCell ch
    (f := fun c => { c with causeNow := c.causeNow &&& ~~~ (BitVec.ofNat 26 (2 ^ bit.val)) })
    (fun c hc => hP.report c _ _ _ _ _ _ _ hc) known
  split
  · split
    · exact cell_keeps_of_cells (clearFault_cells _ _) reported
    · exact cell_keeps_of_cells (State.setPresent_cells _ _ _) reported
  · exact known

theorem EventStable.condSet {P : Cell → Prop} {k : Ch} (hP : EventStable P) (h : P (s.cell k)) (ch : Ch) (bit : Fin 26) (b : Bool) :
    P ((condSet ch bit b s).cell k) := by
  unfold Machine.condSet
  split
  · exact hP.condOn h ch bit
  · exact hP.condOff h ch bit

/-- No report turns a switch on, and a reset turns it off (R133). -/
theorem eventStable_switchOff : EventStable fun c => c.sw.on = false where
  report _ _ _ _ _ _ _ _ h := h
  reset _ _ := rfl
  drop clk c h := by
    unfold dropLane keepRegs
    split <;> exact h

@[simp] theorem tcsAbandon_on (c : Cell) : (tcsAbandon c).sw.on = c.sw.on := rfl

@[simp] theorem swOff_on (clk : Nat) (c : Cell) : (swOff clk c).sw.on = false := by
  unfold swOff
  split
  case isTrue => rfl
  case isFalse h => exact Bool.eq_false_iff.2 h

@[simp] theorem swProtect_on (s : State) (c : Cell) : (swProtect s c).sw.on = false := swOff_on s.clk c

theorem swOffConds_on (h : (s.cell ch).sw.on = false) : ((swOffConds ch s).cell ch).sw.on = false :=
  eventStable_switchOff.condOff (eventStable_switchOff.condSet (by simpa using h) _ _ _) _ _

theorem swRetry_on (h : (s.cell ch).sw.on = false) : ((swRetry ch s).cell ch).sw.on = false := by
  unfold swRetry
  dsimp only
  split
  · exact h
  · split
    · simpa using h
    · exact eventStable_switchOff.condOn (by simpa using h) _ _

/-- After a protective turn-off the switch is off, also where an event before it has reset the cell. -/
theorem swProtectiveOff_on (ch : Ch) (s : State) : ((swProtectiveOff ch s).cell ch).sw.on = false := by
  unfold swProtectiveOff
  split
  case isTrue => exact swRetry_on (swOffConds_on (by simp))
  case isFalse h => simpa using h

/-! ### The clamp of any cell (R177) -/

theorem execClampWindowEnd_eq (ch : Ch) (s : State) :
    execClampWindowEnd ch s = .next (s.modCell ch fun c => { c with sw := { c.sw with clamp := false } }) := rfl

section
variable (hsw : isSwCell s ch = true)
include hsw

/-! ### Timers and the thermal latch (R169 to R172) -/

theorem execInrushWindowClose_open (hi : (s.cell ch).sw.inrush = true) (pk : Nat) :
    execInrushWindowClose ch pk s = .next (s.modCell ch (inrushClose pk)) := by simp [execInrushWindowClose, hsw, hi]

theorem execRetryDelayExpire_switch : execRetryDelayExpire ch s =
    .next (s.modCell ch fun c => { c with sw := { c.sw with retryOk := true } }) := congrArg _ (if_pos hsw)

theorem execThermalLatchRelease_cool (hc : junctionCool (s.cell ch) = true) :
    execThermalLatchRelease ch s = .next (swThermalOn ch s) := by simp [execThermalLatchRelease, hsw, hc]

/-! ### The supply of a DO cell (R176, R178, R179) -/

theorem execOvervoltDetect_dout (hf : (s.cell ch).func = .dout) (absent : Bool) : execOvervoltDetect ch absent s =
    .next (condSet ch cbOvervolt (!absent) (s.modCell ch fun c => { c with sw := { c.sw with ov := !absent } })) := by
  simp [execOvervoltDetect, hsw, hf]

theorem execSupplyDip_dout (hf : (s.cell ch).func = .dout) (pMv : Nat) : execSupplyDip ch pMv s = .next (swSupply ch pMv s) := by
  simp [execSupplyDip, hsw, hf]

theorem execSupplyReturn_dout (hf : (s.cell ch).func = .dout) (pMv : Nat) :
    execSupplyReturn ch pMv s = .next (swSupply ch pMv s) := by simp [execSupplyReturn, hsw, hf]

theorem execDipMemExpire_low (hf : (s.cell ch).func = .dout) (hb : (s.cell ch).sw.band = 0) : execDipMemExpire ch s =
    .next (condOn ch cbSupplyLoss (s.modCell ch fun c =>
      { c with sw := { c.sw with needOff := c.sw.needOff || (cpar c 0x00080110 0 == 1 && c.sw.cmd) } })) := by
  simp [execDipMemExpire, hsw, hf, hb]

/-! ### The proxy of an XSD cell (R187) -/

theorem execXsdProxyUpdate_xsd (hf : (s.cell ch).func = .xsd) (iMa : Nat) : execXsdProxyUpdate ch iMa s =
    .next (if 175 * 64 ≤ (proxyUpdate iMa (s.cell ch)).sw.tPx then swThermalOff ch (s.modCell ch (proxyUpdate iMa))
      else if (s.cell ch).sw.thl && decide ((proxyUpdate iMa (s.cell ch)).sw.tPx < 140 * 64) then
        swThermalOn ch (s.modCell ch (proxyUpdate iMa))
      else s.modCell ch (proxyUpdate iMa)) := by
  have hthl : (proxyUpdate iMa (s.cell ch)).sw.thl = (s.cell ch).sw.thl := rfl
  simp only [execXsdProxyUpdate, hsw, hf, cell_modCell_same, hthl, beq_self_eq_true, Bool.and_self, if_true]

/-! ### Limit timeout, thermal shutdown and reverse current (R171, R172, R182, R191) -/

theorem execDoLimitTimeout_on (hon : (s.cell ch).sw.on = true) (hi : (s.cell ch).sw.inrush = false) :
    execDoLimitTimeout ch s =
      .next (swProtectiveOff ch (if hasCond (s.cell ch) cbOvercurrent then s else condPulse ch cbOvercurrent s)) := by
  simp [execDoLimitTimeout, hsw, hon, hi]

theorem execDoLimitTimeout_off (hoff : (s.cell ch).sw.on = false) :
    execDoLimitTimeout ch s = .next (if (s.cell ch).sw.tcsRun then s.modCell ch tcsAbandon else s) := by
  simp [execDoLimitTimeout, hsw, hoff]

theorem execSwitchThermalShutdown_hot (hl : (s.cell ch).sw.thl = false) (hh : junctionHot (s.cell ch) = true) :
    execSwitchThermalShutdown ch s = .next (swProtectiveOff ch (condOn ch cbThermal
      (s.modCell ch fun c => lifeAdd 4 1 { c with sw := { c.sw with thl := true } }))) := by
  simp [execSwitchThermalShutdown, swThermalOff, hsw, hl, hh]

theorem execBackfeedDetect_on (hon : (s.cell ch).sw.on = true) : execBackfeedDetect ch s =
    .next (condOn ch cbBackfeed (swOffConds ch (s.modCell ch fun c =>
      { swProtect s c with sw := { (swProtect s c).sw with platch := true } }))) := by
  simp [execBackfeedDetect, hsw, hon]

theorem execBackfeedDetect_off (hoff : (s.cell ch).sw.on = false) :
    execBackfeedDetect ch s = .next (s.modCell ch tcsAbandon) := by simp [execBackfeedDetect, hsw, hoff]

/-! ### Timed diagnoses and the end of a supervision pulse (R181, R189, R190) -/

theorem execDoDiagTimer_switch (d : DiagKind) (absent : Bool) :
    execDoDiagTimer ch d absent s = .next (if absent then swDiagClear ch d s else swDiagSet ch d s) :=
  congrArg _ (if_neg (by simp [hsw]))

theorem execTcsPulseEnd_pass (hr : (s.cell ch).sw.tcsRun = true) {r : TcsResult} (hp : tcsPass r = true) :
    execTcsPulseEnd ch r s = .next (condOff ch cbTcsFail (s.modCell ch fun c =>
      { c with sw := { c.sw with tcsRun := false, tcsOk := true, tcsFails := 0 } })) := by
  simp [execTcsPulseEnd, hsw, hr, hp]

theorem execTcsPulseEnd_fail (hr : (s.cell ch).sw.tcsRun = true) {r : TcsResult} (hp : tcsPass r = false) :
    execTcsPulseEnd ch r s =
      let s1 := s.modCell ch fun c =>
        { c with sw := { c.sw with tcsRun := false, tcsOk := false, tcsFails := satAdd 4 c.sw.tcsFails 1 } }
      .next (if cpar (s.cell ch) 0x00080119 2 ≤ satAdd 4 (s.cell ch).sw.tcsFails 1 then condOn ch cbTcsFail s1 else s1) := by
  simp only [execTcsPulseEnd, hsw, hr, hp, cell_modCell_same]
  rfl

end

/-! ### What changes nothing (R171, R172, R176 to R179, R188, R191) -/

theorem execInrushWindowClose_closed (hi : (s.cell ch).sw.inrush = false) (pk : Nat) :
    execInrushWindowClose ch pk s = .next s := by simp [execInrushWindowClose, hi]

theorem execThermalLatchRelease_warm (hc : junctionCool (s.cell ch) = false) : execThermalLatchRelease ch s = .next s := by
  simp [execThermalLatchRelease, hc]

theorem execOvervoltDetect_xsd (hf : (s.cell ch).func = .xsd) (absent : Bool) : execOvervoltDetect ch absent s = .next s := by
  simp [execOvervoltDetect, hf]

theorem execSupplyDip_xsd (hf : (s.cell ch).func = .xsd) (pMv : Nat) : execSupplyDip ch pMv s = .next s := by
  simp [execSupplyDip, hf]

theorem execSupplyReturn_xsd (hf : (s.cell ch).func = .xsd) (pMv : Nat) : execSupplyReturn ch pMv s = .next s := by
  simp [execSupplyReturn, hf]

theorem execDipMemExpire_idle (h : (s.cell ch).func = .xsd ∨ (s.cell ch).sw.band ≠ 0) : execDipMemExpire ch s = .next s := by
  rcases h with hf | hb
  · simp [execDipMemExpire, hf]
  · simp [execDipMemExpire, hb]

theorem execSwitchThermalShutdown_idle (h : (s.cell ch).sw.thl = true ∨ junctionHot (s.cell ch) = false) :
    execSwitchThermalShutdown ch s = .next s := by
  rcases h with hl | hh
  · simp [execSwitchThermalShutdown, swThermalOff, hl]
  · simp [execSwitchThermalShutdown, hh]

theorem execTcsPulseStart_may (hm : tcsMayStart s ch = true) : execTcsPulseStart ch s =
    .next (s.modCell ch fun c => { c with sw := { c.sw with tcsRun := true, tcsFrom := s.clk } }) := congrArg _ (if_pos hm)

theorem execTcsPulseStart_idle (hm : tcsMayStart s ch = false) : execTcsPulseStart ch s = .next s :=
  congrArg _ (if_neg (Bool.eq_false_iff.1 hm))

theorem execTcsPulseEnd_idle (hr : (s.cell ch).sw.tcsRun = false) (r : TcsResult) : execTcsPulseEnd ch r s = .next s := by
  simp [execTcsPulseEnd, hr]

end

/-- Settles O4: each cause on a switch that is on, then off, then where it changes nothing. After reverse current, as after a
protective turn-off, the switch is off because no report of a condition turns it on. -/
theorem switchProtection : Obligations.SwitchProtection := by
  intro s ch hsw
  refine ⟨fun hon => ⟨fun hi => ?_, fun hl hh => ?_, ?_⟩,
    fun hoff => ⟨execBackfeedDetect_off hsw hoff, execDoLimitTimeout_off hsw hoff⟩,
    execSwitchThermalShutdown_idle, execDipMemExpire_low hsw, execDipMemExpire_idle⟩
  · exact ⟨_, execDoLimitTimeout_on hsw hon hi, swProtectiveOff_on _ _, rfl⟩
  · exact ⟨_, execSwitchThermalShutdown_hot hsw hl hh, swProtectiveOff_on _ _, rfl⟩
  · exact ⟨_, execBackfeedDetect_on hsw hon, eventStable_switchOff.condOn (swOffConds_on (by simp)) _ _, rfl⟩

/-- Settles O3: the clamp of any cell; at a switch cell its timers, the supply of DO, and the proxy of XSD at its two limits. -/
theorem switchTimers : Obligations.SwitchTimers := by
  refine ⟨fun s ch => execClampWindowEnd_eq ch s, fun s ch hsw => ⟨fun pk hi => execInrushWindowClose_open hsw hi pk,
    fun pk hi => execInrushWindowClose_closed hi pk, execRetryDelayExpire_switch hsw, execThermalLatchRelease_cool hsw,
    execThermalLatchRelease_warm,
    fun hf => ⟨execOvervoltDetect_dout hsw hf, fun p => ⟨execSupplyDip_dout hsw hf p, execSupplyReturn_dout hsw hf p⟩⟩,
    fun hf => ⟨fun i => ?_, fun b p => ⟨execOvervoltDetect_xsd hf b, execSupplyDip_xsd hf p, execSupplyReturn_xsd hf p⟩⟩⟩⟩
  have moved := execXsdProxyUpdate_xsd hsw hf i
  refine ⟨fun hot => moved.trans ?_, fun warm belowHot => moved.trans ?_, fun cool => moved.trans ?_⟩
  · rw [if_pos hot]
  · rw [if_neg (Int.not_le.2 belowHot), decide_eq_false (Int.not_lt.2 warm), Bool.and_false, if_neg Bool.false_ne_true]
  · have belowHot := Int.lt_trans cool (show (140 * 64 : Int) < 175 * 64 by decide)
    rw [if_neg (Int.not_le.2 belowHot), decide_eq_true cool, Bool.and_true]

/-- Settles O5: the timed diagnoses, the start of a supervision pulse, and its end without and with a pulse. -/
theorem switchDiagnosisAndSupervision : Obligations.SwitchDiagnosisAndSupervision := fun _ _ hsw =>
  ⟨fun d => execDoDiagTimer_switch hsw d true, fun d => execDoDiagTimer_switch hsw d false,
    execTcsPulseStart_may, execTcsPulseStart_idle, execTcsPulseEnd_idle,
    fun hr _ => ⟨execTcsPulseEnd_pass hsw hr, execTcsPulseEnd_fail hsw hr⟩⟩

end Sys2Proof.Machine
end

section
/-! PROOF. Analogue inputs: overrange, the AII shunt, the replica check, the reference check, and the injected sequence with its
result pair (R198, R200, R204, R208, R209, R212 to R217, R225, R230, R370). -/

namespace Sys2Proof.Machine

open Sys2Proof

/-- A replica cycle fails, by its deviations in ppm of range (R209). -/
def replicaFails (lo hi zero : Int) : Bool :=
  decide (1000 < lo.natAbs) || decide (1000 < hi.natAbs) || decide (100 < zero.natAbs)

theorem replicaFails_iff {lo hi zero : Int} :
    replicaFails lo hi zero = true ↔ 1000 < lo.natAbs ∨ 1000 < hi.natAbs ∨ 100 < zero.natAbs := by
  simp [replicaFails, or_assoc]

/-- What the end of a replica cycle makes of its cell before TEST_FAIL follows (R209). -/
def replicaCounted (clk : Nat) (fail : Bool) (c : Cell) : Cell :=
  let bad := if fail then satAdd 2 c.ai.repBad 1 else 0
  let good := if fail then 0 else satAdd 2 c.ai.repGood 1
  { c with inj := injItemOf 5 clk c.inj
           ai := { c.ai with repBad := bad, repGood := good
                             suspect := if 2 ≤ bad then true else if 2 ≤ good then false else c.ai.suspect } }

/-- A cell whose reference B conversions are checked (R208, R225, R230). -/
abbrev refChecked (c : Cell) : Prop := isAi c.func = true ∨ c.func = .aoa ∨ (c.func = .aop ∧ c.ao.clk < 4)

/-- The deviation of a conversion enters the last 16 (R208). -/
def refEntered (ch : Ch) (ratio : Int) (s : State) : State :=
  s.modCell ch fun c => { c with
    ai := { c.ai with devs := (refDev (s.cell ch) ratio :: c.ai.devs).take 16 }
    inj := if isAi c.func then injItemOf (refbSlot c.inj) s.clk c.inj else c.inj }

/-- REF_WARN follows the mean of the deviations (Table 9-8). -/
def refWarned (ch : Ch) (s : State) : State :=
  let m := (refMean (s.cell ch).ai).natAbs
  if 3000 < m then condOn ch cbRefWarn s else if m ≤ 2500 then condOff ch cbRefWarn s else s

section
variable {s : State} {ch : Ch}

section
variable (ha : isAiCell s ch = true)
include ha

/-! ### Overrange (R200) -/

theorem execAiOverrangeTimer_out : execAiOverrangeTimer ch true s =
    .next (if aiFarOut (s.cell ch) then condOn ch cbOverrange s else s) := by simp [execAiOverrangeTimer, ha]

theorem execAiOverrangeTimer_within : execAiOverrangeTimer ch false s =
    .next (if aiWithin (s.cell ch) then condOff ch cbOverrange s else s) := by simp [execAiOverrangeTimer, ha]

/-! ### The AII shunt (R198, R204) -/

section
variable (hf : (s.cell ch).func = .aii)
include hf

theorem execShuntDisconnect_aii : execShuntDisconnect ch s =
    .next (condOn ch cbOvercurrent (s.modCell ch fun c => { c with ai := { c.ai with shuntOpen := true } })) := by
  simp [execShuntDisconnect, ha, hf]

theorem execShuntReconnect_marker (ho : (s.cell ch).ai.shuntOpen = true) : execShuntReconnect ch false s =
    .next (s.modCell ch fun c => aiRestart 0 { c with ai := { c.ai with shuntOpen := false } }) := by
  simp [execShuntReconnect, ha, hf, ho]

theorem execShuntReconnect_clear (ho : (s.cell ch).ai.shuntOpen = false) :
    execShuntReconnect ch true s = .next (condOff ch cbOvercurrent s) := by simp [execShuntReconnect, ha, hf, ho]

end

/-! ### The replica check (R209) -/

theorem execReplicaCycleEnd_ai (lo hi zero : Int) : execReplicaCycleEnd ch lo hi zero s =
    .next (refreshTestFail ch (s.modCell ch (replicaCounted s.clk (replicaFails lo hi zero)))) :=
  congrArg _ (if_neg (by simp [ha]))

end

theorem execShuntReconnect_clear_open (ho : (s.cell ch).ai.shuntOpen = true) : execShuntReconnect ch true s = .next s := by
  simp [execShuntReconnect, ho]

theorem execShuntReconnect_marker_closed (ho : (s.cell ch).ai.shuntOpen = false) : execShuntReconnect ch false s = .next s := by
  simp [execShuntReconnect, ho]

theorem replicaCounted_fail (clk : Nat) (c : Cell) :
    (replicaCounted clk true c).ai = { c.ai with
      repBad := satAdd 2 c.ai.repBad 1, repGood := 0, suspect := c.ai.suspect || decide (1 ≤ c.ai.repBad) } := by
  have second : 2 ≤ satAdd 2 c.ai.repBad 1 ↔ 1 ≤ c.ai.repBad := by unfold satAdd; omega
  by_cases h : 1 ≤ c.ai.repBad <;> simp [replicaCounted, second, h]

theorem replicaCounted_good (clk : Nat) (c : Cell) :
    (replicaCounted clk false c).ai = { c.ai with
      repBad := 0, repGood := satAdd 2 c.ai.repGood 1, suspect := c.ai.suspect && decide (c.ai.repGood = 0) } := by
  have second : 2 ≤ satAdd 2 c.ai.repGood 1 ↔ ¬ c.ai.repGood = 0 := by unfold satAdd; omega
  simp only [replicaCounted, Bool.false_eq_true, if_false, second]
  by_cases h : c.ai.repGood = 0 <;> simp [h]

/-! ### The reference check (R208, R225, R230) -/

theorem refEntered_devs (ch : Ch) (ratio : Int) (s : State) :
    ((refEntered ch ratio s).cell ch).ai.devs = (refDev (s.cell ch) ratio :: (s.cell ch).ai.devs).take 16 := by
  simp [refEntered]

theorem refDev_mem_refEntered (ch : Ch) (ratio : Int) (s : State) :
    refDev (s.cell ch) ratio ∈ ((refEntered ch ratio s).cell ch).ai.devs := by simp [refEntered_devs]

section
variable {ratio : Int} (hr : (s.cell ch).running = true) (hc : refChecked (s.cell ch))
include hr hc

theorem execRefbConversion_checked : execRefbConversion ch ratio s =
    let s1 := refEntered ch ratio s
    let m := (refMean (s1.cell ch).ai).natAbs
    .next (if 20000 < m ∨ 100000 < (refDev (s.cell ch) ratio).natAbs then condOn ch cbRefFail (refWarned ch s1)
      else if m ≤ 15000 ∧ ((s1.cell ch).ai.devs.all fun d => decide (d.natAbs ≤ 100000)) = true then
        condOff ch cbRefFail (refWarned ch s1)
      else refWarned ch s1) :=
  congrArg _ (if_neg (by rcases hc with h | h | ⟨h, hclk⟩ <;> simp [*]))

theorem execRefbConversion_fails
    (h : 20000 < (refMean ((refEntered ch ratio s).cell ch).ai).natAbs ∨ 100000 < (refDev (s.cell ch) ratio).natAbs) :
    execRefbConversion ch ratio s = .next (condOn ch cbRefFail (refWarned ch (refEntered ch ratio s))) :=
  (execRefbConversion_checked hr hc).trans (congrArg _ (if_pos h))

theorem execRefbConversion_ends (hm : (refMean ((refEntered ch ratio s).cell ch).ai).natAbs ≤ 15000)
    (hd : ∀ d ∈ ((refEntered ch ratio s).cell ch).ai.devs, d.natAbs ≤ 100000) :
    execRefbConversion ch ratio s = .next (condOff ch cbRefFail (refWarned ch (refEntered ch ratio s))) := by
  have hdev := hd _ (refDev_mem_refEntered ch ratio s)
  exact (execRefbConversion_checked hr hc).trans
    (congrArg _ ((if_neg (by omega)).trans (if_pos ⟨hm, by simpa using hd⟩)))

theorem execRefbConversion_between (hm : (refMean ((refEntered ch ratio s).cell ch).ai).natAbs ≤ 20000)
    (hdev : (refDev (s.cell ch) ratio).natAbs ≤ 100000)
    (h : 15000 < (refMean ((refEntered ch ratio s).cell ch).ai).natAbs ∨
      ∃ d ∈ ((refEntered ch ratio s).cell ch).ai.devs, 100000 < d.natAbs) :
    execRefbConversion ch ratio s = .next (refWarned ch (refEntered ch ratio s)) := by
  refine (execRefbConversion_checked hr hc).trans (congrArg _ ((if_neg (by omega)).trans (if_neg ?_)))
  rintro ⟨hlow, hall⟩
  rcases h with h | ⟨d, hd, hbig⟩
  · omega
  · exact absurd (of_decide_eq_true (List.all_eq_true.1 hall d hd)) (by omega)

end

/-! ### The injected sequence (R212 to R215) -/

theorem execInjTrigger_taken (ha : isAiCell s ch = true) (he : (s.cell ch).inj.en = true)
    (hu : (s.cell ch).lane.state = .up) (ht : 0 < (s.cell ch).lane.trigs) :
    execInjTrigger ch s = .next (s.modCell ch fun c =>
      { c with inj := injTrigger s.clk c.cal.busy c.inj, lane := { c.lane with trigs := c.lane.trigs - 1 } }) := by
  simp [execInjTrigger, ha, he, hu, ht]

theorem execInjTrigger_idle (h : isAiCell s ch = false ∨ (s.cell ch).inj.en = false ∨ (s.cell ch).lane.state ≠ .up ∨
    (s.cell ch).lane.trigs = 0) : execInjTrigger ch s = .next s := by
  rcases h with h | h | h | h <;> simp [execInjTrigger, h]

/-- An item in progress is not settled while a sequence runs (R214). -/
theorem injSettle_running {j : InjSt} (h : j.running = true) (clk : Nat) : injSettle clk j = j := by simp [injSettle, h]

section
variable (ha : isAiCell s ch = true)
include ha

theorem execInjEntryResult_running (hr : (s.cell ch).inj.running = true) (raw : Int) :
    execInjEntryResult ch raw s = .next (s.modCell ch (injEntry s.clk raw)) := by
  rw [execInjEntryResult, if_pos ha]
  exact congrArg _ (modCell_congr (by simp [injSettle_running hr, hr]))

theorem execInjEntryResult_settles (hr : (injSettle s.clk (s.cell ch).inj).running = false) (raw : Int) :
    execInjEntryResult ch raw s = .next (s.modCell ch fun c => { c with inj := injSettle s.clk c.inj }) := by
  rw [execInjEntryResult, if_pos ha]
  exact congrArg _ (modCell_congr (by simp [hr]))

end

/-! ### The result pair (R216, R217, R370) -/

theorem execInjFreezeTimeout_frozen (h : (s.cell ch).inj.frozen.isSome = true) :
    execInjFreezeTimeout ch s = .next (s.modCell ch fun c => { c with inj := injUnfreeze true c.inj }) := congrArg _ (if_pos h)

theorem execInjFreezeTimeout_idle (h : (s.cell ch).inj.frozen = none) : execInjFreezeTimeout ch s = .next s := by
  simp [execInjFreezeTimeout, h]

end

section
variable {j : InjSt}

theorem injValRead_starts (hf : j.frozen = none) (clk : Nat) :
    injValRead clk j = { j with frozen := some clk, lostFrz := j.lost } := by simp [injValRead, hf]

section
variable (hf : j.frozen.isSome = true) (ho : j.ovr = false) (r : Word × Word)
include hf ho

theorem injArrive_frozen (hp : j.pend = none) : injArrive r j = { j with ovr := false, pend := some r } := by
  simp [injArrive, hf, ho, hp]

/-- A further result of the same freeze takes the place of the one that waits, with OVR. -/
theorem injArrive_frozen_again (hp : j.pend.isSome = true) :
    injArrive r j = { j with ovr := false, pend := some (r.1, r.2 ||| 2) } := by simp [injArrive, hf, ho, hp]

end

theorem injUnfreeze_pend {r : Word × Word} (hp : j.pend = some r) (tmo : Bool) : injUnfreeze tmo j =
    { j with frozen := none, pend := none, val := r.1, stat := r.2 ||| (if tmo then 5 else 1) } := by simp [injUnfreeze, hp]

theorem injStatTaken_pend {r : Word × Word} (hp : j.pend = some r) :
    injStatTaken j = { j with frozen := none, pend := none, val := r.1, stat := r.2 ||| 1 } := by
  simp [injStatTaken, injUnfreeze, hp]

end

/-- Settles O6: each check by its own law; a replica cycle by what it makes of its cell, and it leaves every other cell. -/
theorem analogueInputChecks : Obligations.AnalogueInputChecks := by
  refine fun s ch ha => ⟨execAiOverrangeTimer_out ha, execAiOverrangeTimer_within ha, fun lo hi zero hfail => ?_,
    fun lo hi zero hlo hhi hz => ?_, fun hf => ⟨execShuntDisconnect_aii ha hf,
      fun ho => ⟨execShuntReconnect_marker ha hf ho, execShuntReconnect_clear_open ho⟩,
      fun ho => ⟨execShuntReconnect_clear ha hf ho, execShuntReconnect_marker_closed ho⟩⟩⟩
  · have ended := execReplicaCycleEnd_ai ha lo hi zero
    rw [replicaFails_iff.2 hfail] at ended
    refine ⟨_, ended, ?_, ?_, ?_, fun k hk => cell_modCell_ne s ch k _ hk⟩ <;> simp [replicaCounted_fail]
  · have passes : replicaFails lo hi zero = false := Bool.eq_false_iff.2 fun h => by have := replicaFails_iff.1 h; omega
    have ended := execReplicaCycleEnd_ai ha lo hi zero
    rw [passes] at ended
    refine ⟨_, ended, ?_, ?_, ?_, fun k hk => cell_modCell_ne s ch k _ hk⟩ <;> simp [replicaCounted_good]

/-- Settles O7: the deviation enters, REF_WARN follows the mean, then REF_FAIL sets, ends or stays. -/
theorem referenceCheck : Obligations.ReferenceCheck := fun s ch ratio hr hc =>
  ⟨refEntered ch ratio s, refEntered_devs ch ratio s, fun k hk => cell_modCell_ne s ch k _ hk, rfl, rfl,
    execRefbConversion_fails hr hc, execRefbConversion_ends hr hc, execRefbConversion_between hr hc⟩

/-- Settles O9: the commands by their guards, then the pair across a freeze: the first result waits, a second takes its place. -/
theorem injectedSequence : Obligations.InjectedSequence := by
  refine ⟨fun s ch => ⟨rfl, rfl, execInjFreezeTimeout_frozen, execInjFreezeTimeout_idle, execInjTrigger_taken, execInjTrigger_idle,
    execInjEntryResult_running, fun ha _ => execInjEntryResult_settles ha⟩, fun j clk r1 r2 hp hf ho => ?_⟩
  have waits : injArrive r1 (injValRead clk j) =
      { j with frozen := some clk, lostFrz := j.lost, ovr := false, pend := some r1 } := by
    rw [injValRead_starts hf]
    exact injArrive_frozen (j := { j with frozen := some clk, lostFrz := j.lost }) rfl ho r1 hp
  have replaced : injArrive r2 (injArrive r1 (injValRead clk j)) =
      { j with frozen := some clk, lostFrz := j.lost, ovr := false, pend := some (r2.1, r2.2 ||| 2) } := by
    rw [waits]
    exact injArrive_frozen_again rfl rfl r2 rfl
  dsimp only
  rw [replaced, waits, injUnfreeze_pend rfl, injStatTaken_pend rfl, injStatTaken_pend rfl, injValRead_starts hf]
  exact ⟨⟨rfl, rfl⟩, fun _ => rfl, ⟨rfl, by simp [bitOf], by simp [bitOf], rfl⟩, ⟨rfl, rfl⟩, rfl, rfl, rfl, by simp [bitOf]⟩

end Sys2Proof.Machine
end

section
/-! PROOF. Current outputs: thermal limit, compliance, the AOA stage and the AOP clock step; and the phases of a HART exchange (R228,
R229, R231, R233 to R235, R238 to R241). -/

namespace Sys2Proof.Machine

open Sys2Proof

section
variable {s : State} {ch : Ch}

section
variable (ha : isAoCell s ch = true)
include ha

/-! ### The thermal limit and COMPLIANCE (R233, R235) -/

theorem execAoThermalLimit_cuts (h : (s.cell ch).ao.thlim = false) : execAoThermalLimit ch s =
    .next (aoThermalCut ch (condOn ch cbThermal
      (s.modCell ch fun c => { c with ao := { c.ao with thlim := true }, pstate := 0 }))) := by
  simp [execAoThermalLimit, ha, h]

theorem execAoThermalRelease_ao : execAoThermalRelease ch s =
    .next (condOff ch cbThermal (s.modCell ch fun c => { c with ao := { c.ao with thlim := false } })) :=
  congrArg _ (if_pos ha)

theorem execComplianceTimer_holds {b : Bool} (h : (s.cell ch).ao.deficit = b) :
    execComplianceTimer ch b s = .next (condSet ch cbCompliance b s) := by simp [execComplianceTimer, ha, h]

/-! ### The AOA stage: OPEN, EXT_VOLTAGE, SUPPLY_LOW (R228, R229, R234) -/

section
variable (hf : (s.cell ch).func = .aoa)
include hf

theorem execAoaOpenDetect_absent : execAoaOpenDetect ch true s =
    .next (if (s.cell ch).ao.applied ≤ 2 * (s.cell ch).ao.iMeas then condOff ch cbOpen s else s) := by
  simp [execAoaOpenDetect, ha, hf]

theorem execAoaOpenDetect_present : execAoaOpenDetect ch false s =
    .next (if 1000000 ≤ (s.cell ch).ao.applied ∧ (s.cell ch).ao.iMeas < 200000 ∧ (s.cell ch).ao.sat = true then
      condOn ch cbOpen s else s) := by
  simp [execAoaOpenDetect, ha, hf]

theorem execAoaExtVoltage_back : execAoaExtVoltage ch true s =
    .next (s.modCell ch fun c => { c with ao := { c.ao with extRel := hasCond c cbExtVoltage } }) := by
  simp [execAoaExtVoltage, ha, hf]

theorem execAoaExtVoltage_driven : execAoaExtVoltage ch false s =
    .next (condOn ch cbExtVoltage (s.modCell ch fun c => driveDac { c with
      ao := { c.ao with extOff := c.ao.extOff || decide (0 < c.ao.applied), extRel := false } })) := by
  simp [execAoaExtVoltage, ha, hf]

theorem execAoaLowSupply_fld (hsrc : (s.cell ch).src = 1) (low : Bool) :
    execAoaLowSupply ch low s = .next (condSet ch cbSupplyLow low s) := by simp [execAoaLowSupply, ha, hf, hsrc]

end

/-! ### The AOP clock step (R231) -/

theorem execAopStepDown_aop (hf : (s.cell ch).func = .aop) (m : Nat) : execAopStepDown ch m s =
    .next (hartShed ch (s.modCell ch fun c =>
      { c with ao := { c.ao with iMeas := m, clk := max c.ao.clk (clkBand m), stepUp := none } })) := by
  simp [execAopStepDown, ha, hf]

end

theorem execAoThermalLimit_limited (h : (s.cell ch).ao.thlim = true) : execAoThermalLimit ch s = .next s := by
  simp [execAoThermalLimit, h]

theorem execComplianceTimer_idle {b : Bool} (h : (s.cell ch).ao.deficit ≠ b) : execComplianceTimer ch b s = .next s := by
  simp [execComplianceTimer, h]

theorem execAoaLowSupply_idle (hsrc : (s.cell ch).src ≠ 1) (low : Bool) : execAoaLowSupply ch low s = .next s := by
  simp [execAoaLowSupply, hsrc]

/-! ### The phases of a HART exchange (R238, R239) -/

theorem execHartQuietElapsed_quiet (h : hartAt s ch .waitQuiet = true) : execHartQuietElapsed ch s =
    .next (if hartNoCurrent (s.cell ch) = true then hartEnd ch stFault rcHartNoCur s
      else hartShed ch (hartPhase ch .transmitting s)) := by simp [execHartQuietElapsed, h]

theorem execHartTxEnd_transmitting (h : hartAt s ch .transmitting = true) :
    execHartTxEnd ch s = .next (hartShed ch (hartPhase ch .waitReply s)) := congrArg _ (if_pos h)

theorem execHartReplyTimeout_waits (h : hartAt s ch .waitReply = true) :
    execHartReplyTimeout ch s = .next (hartEnd ch stTimeout 0 s) := congrArg _ (if_pos h)

/-! ### Received frames (R238, R241) -/

section
variable {bytes : List Byte} {pOk lOk : Bool}

theorem execHartFrameReceived_reply (hr : hartReceives (s.cell ch) = true) (ht : hartType bytes = 6)
    (hw : hartAt s ch .waitReply = true) (age : Nat) : execHartFrameReceived ch bytes age pOk lOk s =
      .next (hartReply ch ⟨false, s.now - age, bytes.dropLast⟩ (pOk && hartFrameOk bytes && lOk) s) := by
  simp [execHartFrameReceived, hr, ht, hw]

theorem execHartFrameReceived_burst (hr : hartReceives (s.cell ch) = true) (ht : hartType bytes = 1)
    (hg : (pOk && hartFrameOk bytes && lOk) = true) (hb : cpar (s.cell ch) 0x000A010D 0 = 1) (age : Nat) :
    execHartFrameReceived ch bytes age pOk lOk s = .next (s.modCell ch fun c =>
      { c with hart := hartStore ⟨true, s.now - age, bytes.dropLast⟩ c.hart }) := by
  obtain ⟨hframe, hlane⟩ := Bool.and_eq_true_iff.1 hg
  simp [execHartFrameReceived, hr, ht, hframe, hlane, hb]

theorem execHartFrameReceived_off (hr : hartReceives (s.cell ch) = false) (age : Nat) :
    execHartFrameReceived ch bytes age pOk lOk s = .next s := by simp [execHartFrameReceived, hr]

theorem execHartFrameReceived_other (hreply : ¬ (hartType bytes = 6 ∧ hartAt s ch .waitReply = true))
    (hburst : ¬ (hartType bytes = 1 ∧ (pOk && hartFrameOk bytes && lOk) = true ∧ cpar (s.cell ch) 0x000A010D 0 = 1))
    (age : Nat) : execHartFrameReceived ch bytes age pOk lOk s = .next s := by
  have noBurst : ¬ (hartType bytes = 1 ∧ (pOk && hartFrameOk bytes) = true ∧ lOk = true ∧
      cpar (s.cell ch) 0x000A010D 0 = 1) := fun ⟨ht, hframe, hlane, hb⟩ =>
    hburst ⟨ht, Bool.and_eq_true_iff.2 ⟨hframe, hlane⟩, hb⟩
  exact congrArg _ (ite_eq_left_iff.2 fun _ => (if_neg hreply).trans (if_neg noBurst))

end

end

/-- Settles O10: each protection by its own law at a current output, then the diagnoses of the AOA stage and the AOP clock step. -/
theorem currentOutputProtection : Obligations.CurrentOutputProtection := fun _ _ ha =>
  ⟨execAoThermalLimit_cuts ha, execAoThermalLimit_limited, execAoThermalRelease_ao ha,
    fun _ => execComplianceTimer_holds ha, fun _ => execComplianceTimer_idle,
    fun hf => ⟨fun half => (execAoaOpenDetect_absent ha hf).trans (congrArg _ (if_pos half)),
      fun below => (execAoaOpenDetect_absent ha hf).trans (congrArg _ (if_neg (by omega))),
      fun hon hlow hsat => (execAoaOpenDetect_present ha hf).trans (congrArg _ (if_pos ⟨hon, hlow, hsat⟩)),
      fun hnot => (execAoaOpenDetect_present ha hf).trans (congrArg _ (if_neg (by
        rintro ⟨hon, hlow, hsat⟩
        rcases hnot with h | h | h
        · omega
        · omega
        · simp [hsat] at h))),
      execAoaExtVoltage_back ha hf, execAoaExtVoltage_driven ha hf, execAoaLowSupply_fld ha hf, execAoaLowSupply_idle⟩,
    execAopStepDown_aop ha⟩

/-- Settles O11: the line is quiet, the request is sent, the wait ends; then a received frame is a reply, a burst frame or neither. -/
theorem hartExchange : Obligations.HartExchange := fun _ _ =>
  ⟨fun hq => ⟨fun hno => (execHartQuietElapsed_quiet hq).trans (congrArg _ (if_pos hno)),
      fun hok => (execHartQuietElapsed_quiet hq).trans (congrArg _ (if_neg (Bool.eq_false_iff.1 hok)))⟩,
    execHartTxEnd_transmitting, execHartReplyTimeout_waits, fun _ age _ _ =>
    ⟨fun hr ht hw => execHartFrameReceived_reply hr ht hw age, fun hr ht hg hb => execHartFrameReceived_burst hr ht hg hb age,
      fun h => h.elim (fun hr => execHartFrameReceived_off hr age) fun ⟨hreply, hburst⟩ =>
        execHartFrameReceived_other hreply hburst age⟩⟩

end Sys2Proof.Machine
end

section
/-! PROOF. The calibration commands SELFCAL, CAL_WRITE, CAL_EXPORT, CAL_RESTORE and AO_TRIM (Table 17-4, R249, R255 to R260, R401,
R407). -/

namespace Sys2Proof.Machine

open Sys2Proof

section
variable {s : State} {c : Ctx} {ws : List Word} {ch : Ch}

/-! ### SELFCAL (R249) -/

/-- In CONFIGURE any cell may be named, elsewhere only analogue inputs; then a busy cell or a full host port decides. -/
theorem opSelfcal_good (hm : inModeList s modesNo8 = true)
    (hcells : s.md.mode = .m3 ∨ ∀ k : Ch, bitOf (par ws 1) k.val = true → isAi (s.cell k).cfgFunc = true) (hlen : ws.length = 1) :
    opSelfcal c ws s = if (∃ k : Ch, bitOf (par ws 1) k.val = true ∧ selfcalBusy s k = true) ∨ opsFull s c = true
      then answer c stBusy [] s
      else selfcalStart (par ws 1) (startOp c { newOp c 0x30 (par ws 1) (par ws 1) with left := par ws 1 } s) := by
  have hmay : (allCh.all (fun k => !bitOf (par ws 1) k.val || isAi (s.cell k).cfgFunc) || s.md.mode == .m3) = true := by
    rcases hcells with hm3 | hai
    · simp [hm3]
    · have hall : allCh.all (fun k => !bitOf (par ws 1) k.val || isAi (s.cell k).cfgFunc) = true :=
        List.all_eq_true.2 fun k _ => by
          cases hk : bitOf (par ws 1) k.val
          · rfl
          · exact hai k hk
      exact Bool.or_eq_true_iff.2 (.inl hall)
  have hbusy : (allCh.any (fun k => bitOf (par ws 1) k.val && selfcalBusy s k) || opsFull s c) = true ↔
      (∃ k : Ch, bitOf (par ws 1) k.val = true ∧ selfcalBusy s k = true) ∨ opsFull s c = true := by
    simp only [allCh, Bool.or_eq_true, List.any_eq_true, List.mem_finRange, true_and, Bool.and_eq_true]
  exact (if_pos (Bool.and_eq_true_iff.2 ⟨hm, hmay⟩)).trans ((if_neg (not_not_intro hlen)).trans
    (ite_congr (propext hbusy) (fun _ => rfl) fun _ => rfl))

/-! ### CAL_WRITE (R255, R256) -/

/-- The USER entry CAL_WRITE writes: the values its words carry, dated at its acceptance. -/
def calWriteEntry (c : Ctx) (ws : List Word) (e : Fin 6) (s : State) : CalPend :=
  ⟨e, true, some s.now, wordInt (par ws 2), (par ws 3).toNat, wordInt (par ws 4), wordInt (par ws 5), [], ctxRef c 0x31⟩

section
variable (hm : inModeList s [3] = true) (hres : reservedBad (par ws 1) 0x1FFFF = false) (hlen : ws.length = 5)
  (hch : chOf (par ws 1) = some ch) {e : Fin 6} (he : entryNum (field (par ws 1) 8 8) = some e) (hne : e ≠ 4)
include hm hres hlen hch he hne

theorem opCalWrite_entry : opCalWrite c ws s =
    if !entryWithin e.val (wordInt (par ws 2)) (par ws 3).toNat then answer c stBadParam [] s
    else if (s.cell ch).cal.busy || chInUse s ch then answer c stBusy [] s
    else if !(s.cell ch).cal.entries[e].user && !bitOf (par ws 1) 16 then answer c stDenied [] s
    else longChannel c 0x31 ch (par ws 1) (startEntryWrite ch (calWriteEntry c ws e s) 0x31) s := by
  rw [opCalWrite, modeGate_of_inModeList _ _ hm, refuseIf_of_false _ _ _ _ (by rw [hres, hlen]; rfl), withCh_of_chOf _ hch]
  simp only [he]
  exact if_neg hne

theorem opCalWrite_beyond (hin : entryWithin e.val (wordInt (par ws 2)) (par ws 3).toNat = false) :
    opCalWrite c ws s = answer c stBadParam [] s :=
  (opCalWrite_entry hm hres hlen hch he hne).trans (if_pos (by rw [hin]; rfl))

/-- Within its limits, on a free cell, only a FACTORY entry without the override is refused. -/
theorem opCalWrite_within (hin : entryWithin e.val (wordInt (par ws 2)) (par ws 3).toNat = true)
    (hidle : (s.cell ch).cal.busy = false) (hfree : chInUse s ch = false) : opCalWrite c ws s =
      if (s.cell ch).cal.entries[e].user = true ∨ bitOf (par ws 1) 16 = true
      then longChannel c 0x31 ch (par ws 1) (startEntryWrite ch (calWriteEntry c ws e s) 0x31) s
      else answer c stDenied [] s := by
  rw [opCalWrite_entry hm hres hlen hch he hne, hin, hidle, hfree]
  cases (s.cell ch).cal.entries[e].user <;> cases bitOf (par ws 1) 16 <;> rfl

end

/-! ### CAL_EXPORT (R258) -/

theorem opCalExport_window (hm : inModeList s modesAll = true) (hres : reservedBad (par ws 1) 0xFFFF = false)
    (hlen : ws.length = 3) (hch : chOf (par ws 1) = some ch) {e : Fin 6} (he : entryNum (field (par ws 1) 8 8) = some e)
    (hpos : 1 ≤ (par ws 3).toNat) (hmax : (par ws 3).toNat ≤ 240) (hoff : (par ws 2).toNat < (exportRecord s ch e).length) :
    opCalExport c ws s = answer c stOk (BitVec.ofNat 32 (exportRecord s ch e).length :: par ws 2 ::
      ((exportRecord s ch e).drop (par ws 2).toNat).take (par ws 3).toNat) s := by
  rw [opCalExport, modeGate_of_inModeList _ _ hm, refuseIf_of_false _ _ _ _ (by rw [hres, hlen]; rfl), withCh_of_chOf _ hch]
  simp only [he]
  exact if_neg (by omega)

/-! ### CAL_RESTORE (R259, R401) -/

/-- The first part of a record of which no part is held, shorter than the length its header states, is kept. -/
theorem takePart_first {opcode key : Nat} {data : List Word} {lenOf : List Word → Option Nat} {whole : List Word → State → State}
    (hnone : findPart s opcode = none) (hpos : data ≠ []) (hmax : data.length ≤ 240)
    (hpart : ∀ l, lenOf data = some l → data.length < l) :
    takePart c opcode key 0 data.length data lenOf whole s = answer c stOk [] { dropPart c.src opcode s with
      parts := ⟨c.src, opcode, key, data, s.clk⟩ :: (dropPart c.src opcode s).parts } := by
  have hfew : ¬ 240 < data.length := Nat.not_lt.2 hmax
  rw [takePart, hnone]
  cases hl : lenOf data with
  | none => simp [hpos, hfew, hl]
  | some l => simp [hpos, hfew, hl, Nat.not_le.2 (hpart l hl)]

theorem opCalRestore_first {w : Word} {r : List Word} {sig : Bool} (hm : inModeList s [3] = true)
    (hres : reservedBad w 0xFFFFFF = false) (hnone : findPart s 0x34 = none) (hpos : r ≠ [])
    (hcount : r.length = field w 16 8) (hshort : r.length ≤ 2) (hoff : field w 0 16 = 0) :
    opCalRestore c (w :: r) sig s = answer c stOk [] { dropPart c.src 0x34 s with
      parts := ⟨c.src, 0x34, 0, r, s.clk⟩ :: (dropPart c.src 0x34 s).parts } := by
  have hpar : par (w :: r) 1 = w := rfl
  have hheader : ¬ 3 ≤ r.length := by omega
  rw [opCalRestore, modeGate_of_inModeList _ _ hm, hpar, refuseIf_of_false _ _ _ _ hres, hoff, ← hcount]
  exact takePart_first hnone hpos (by omega) fun l hl => by simp [hheader] at hl

/-! ### AO_TRIM (R260, R407) -/

section
variable (hm : inModeList s [3, 10] = true) (hres : reservedBad (par ws 1) 0x103FF = false)
  (hlen : wordCount ws 1 (trimReads ws).toNat 1 = true) (hch : chOf (par ws 1) = some ch)
include hm hres hlen hch

theorem opAoTrim_start (hstep : field (par ws 1) 8 2 = 0) : opAoTrim c ws s = trimStart c ch (bitOf (par ws 1) 16) s := by
  rw [opAoTrim, modeGate_of_inModeList _ _ hm, refuseIf_of_false _ _ _ _ (by rw [hres, hlen]; rfl), withCh_of_chOf _ hch]
  exact if_pos hstep

section
variable {t : TrimSt} (ht : (s.cell ch).cal.trim = some t) (hw : t.writing = false)
include ht hw

/-- A step other than START acts on the trim that is open and not yet being written. -/
theorem opAoTrim_open (hstep : field (par ws 1) 8 2 ≠ 0) : opAoTrim c ws s =
    if field (par ws 1) 8 2 = 1 then trimPoint1 c ch (wordInt (par ws 2)) t s
    else if field (par ws 1) 8 2 = 2 then trimPoint2 c ch (wordInt (par ws 2)) t s
    else trimCancel c ch t s := by
  rw [opAoTrim, modeGate_of_inModeList _ _ hm, refuseIf_of_false _ _ _ _ (by rw [hres, hlen]; rfl), withCh_of_chOf _ hch]
  simp [ht, hw, hstep]

theorem opAoTrim_point1 (hstep : field (par ws 1) 8 2 = 1) : opAoTrim c ws s = trimPoint1 c ch (wordInt (par ws 2)) t s := by
  simp [opAoTrim_open hm hres hlen hch ht hw, hstep]

theorem opAoTrim_point2 (hstep : field (par ws 1) 8 2 = 2) : opAoTrim c ws s = trimPoint2 c ch (wordInt (par ws 2)) t s := by
  simp [opAoTrim_open hm hres hlen hch ht hw, hstep]

theorem opAoTrim_cancel (hstep : field (par ws 1) 8 2 = 3) : opAoTrim c ws s = trimCancel c ch t s := by
  simp [opAoTrim_open hm hres hlen hch ht hw, hstep]

end

end

end

/-- Settles O32: each command past its gates, at the state that has accepted the packet, whose mode, cells and operations are
those of `s`. -/
theorem calibrationCommands : Obligations.CalibrationCommands := by
  intro s c ws ch hr p
  refine ⟨fun hm hcells hlen => ?_, fun hm3 hres hlen hch e he hne => ?_,
    fun hm hres hlen hch e he hpos hmax hoff => congrArg _ (opCalExport_window (s := p) hm hres hlen hch he hpos hmax hoff),
    fun hm3 hres hnone w r sig hws hpos hcount hshort hoff => ?_, fun hm hres hlen hch => ?_⟩
  · have run := opSelfcal_good (s := p) (c := c) hm hcells hlen
    refine ⟨fun hidle hroom => congrArg _ (run.trans (if_neg ?_)), fun hbusy => congrArg _ (run.trans (if_pos hbusy))⟩
    rintro (⟨k, hk, hbusy⟩ | hfull)
    · exact Bool.eq_false_iff.1 (hidle k hk) hbusy
    · exact Bool.eq_false_iff.1 hroom hfull
  · have hm : inModeList p [3] = true := inModeList_of_mode hr hm3 (by decide)
    refine ⟨fun hin => congrArg _ (opCalWrite_beyond (s := p) hm hres hlen hch he hne hin), fun hin hidle hfree => ?_⟩
    have run := opCalWrite_within (s := p) (c := c) hm hres hlen hch he hne hin hidle hfree
    exact ⟨fun hfactory hno => congrArg _ (run.trans (if_neg (not_or.2
        ⟨Bool.eq_false_iff.1 hfactory, Bool.eq_false_iff.1 hno⟩))), fun hmay => congrArg _ (run.trans (if_pos hmay))⟩
  · subst hws
    exact congrArg _ (opCalRestore_first (s := p) (inModeList_of_mode hr hm3 (by decide)) hres hnone hpos hcount hshort hoff)
  · exact ⟨fun hstep => congrArg _ (opAoTrim_start (s := p) hm hres hlen hch hstep), fun t ht hw =>
      ⟨fun hstep => congrArg _ (opAoTrim_point1 (s := p) hm hres hlen hch ht hw hstep),
        fun hstep => congrArg _ (opAoTrim_point2 (s := p) hm hres hlen hch ht hw hstep),
        fun hstep => congrArg _ (opAoTrim_cancel (s := p) hm hres hlen hch ht hw hstep)⟩⟩

end Sys2Proof.Machine
end

section
/-! PROOF. What keeps the invariant, the identity and the anti-rollback counters, continued from Laws/Keep: branches and folds, and the
shared operations. -/

namespace Sys2Proof.Machine

open Sys2Proof

/-! ### Branches, folds and plain changes -/

section
variable {s0 u t a b : State} {c : Prop} [Decidable c]

theorem keeps_ite (ha : Keeps s0 a) (hb : Keeps s0 b) : Keeps s0 (if c then a else b) := by
  split
  · exact ha
  · exact hb

theorem keeps_dite {f : c → State} {g : ¬c → State} (hf : ∀ h, Keeps s0 (f h)) (hg : ∀ h, Keeps s0 (g h)) :
    Keeps s0 (dite c f g) := by
  split
  · exact hf _
  · exact hg _

theorem keeps_foldl {α : Type} {f : State → α → State} {l : List α} (h : Keeps s0 u)
    (hf : ∀ v x, Keeps s0 v → Keeps s0 (f v x)) : Keeps s0 (l.foldl f u) := Keeps.foldl hf l h

/-- What a unit is known by: its identity and its anti-rollback counters (R470, R485). -/
def unitOf (f : Fw) : Nat × Bool × Nat × BitVec 24 × Nat × Nat := (f.serial, f.orderG, f.mac, f.idRev, f.arbCfw, f.arbLgp)

theorem sameUnit_of_unitOf (h : unitOf t.fw = unitOf u.fw) : SameUnit u t := by
  simp only [unitOf, Prod.mk.injEq] at h
  obtain ⟨hserial, horder, hmac, hrev, hcfw, hlgp⟩ := h
  exact ⟨hserial, horder, hmac, hrev, hcfw.ge, hlgp.ge⟩

/-- A change that leaves the sources and the unit alone, and keeps the ranges of PWR_CTL and the form of the memories. -/
theorem Keeps.update (h : Keeps s0 u) (hs : t.srcs = u.srcs) (hp : pwrOk u → pwrOk t) (he : memOk u → memOk t)
    (hf : unitOf t.fw = unitOf u.fw) : Keeps s0 t := by
  refine h.trans ⟨fun i => ⟨fun n hn => ?_, fun n hn => ?_, hp i.pwr, he i.mem⟩, sameUnit_of_unitOf hf⟩
  · rw [fsrc_congr hs]; exact i.sources n hn
  · rw [fsrc_congr hs]; exact i.masks n hn

end

/-! ### Answers that may be missing -/

/-- The state that an opcode's list gives, where it gives one, keeps what `Keeps` says. -/
def KeepsOption (s0 : State) (o : Option State) : Prop := ∀ t, o = some t → Keeps s0 t

/-- The state a command leads to keeps what `Keeps` says; a fault or a refusal has none. -/
def KeepsOut (s0 : State) : Outcome → Prop
  | .next t => Keeps s0 t
  | .fault _ | .refused _ => True

section
variable {s0 t : State} {o : Option State}

theorem keepsOption_none : KeepsOption s0 none := fun _ h => nomatch h

theorem keepsOption_some (h : Keeps s0 t) : KeepsOption s0 (some t) := fun _ e => Option.some.inj e ▸ h

theorem keepsOption_orElse {o' : Unit → Option State} (h : KeepsOption s0 o) (h' : KeepsOption s0 (o' ())) :
    KeepsOption s0 (o.orElse o') := by
  cases o
  case none => exact h'
  case some => exact h

theorem keepsOption_getD (h : KeepsOption s0 o) (ht : Keeps s0 t) : Keeps s0 (o.getD t) := by
  cases o
  case none => exact ht
  case some v => exact h v rfl

theorem keepsOut_ite {c : Prop} [Decidable c] {a b : Outcome} (ha : KeepsOut s0 a) (hb : KeepsOut s0 b) :
    KeepsOut s0 (if c then a else b) := by
  split
  · exact ha
  · exact hb

end

section
variable {s0 u : State} {n : Fin 96} {val : Word}

/-! ### Time and power of the core -/

theorem keeps_wakeCore (h : Keeps s0 u) : Keeps s0 (State.wakeCore u) := h.update rfl id id rfl

theorem keeps_whenCore {f : State → State} (hf : ∀ v, Keeps s0 v → Keeps s0 (f v)) (h : Keeps s0 u) : Keeps s0
    (whenCore f u) :=
  keeps_ite (hf _ h) h

/-! ### Events -/

theorem keeps_noteRegRead {reg base width : Nat} (h : Keeps s0 u) : Keeps s0 (noteRegRead reg base width u) :=
  h.plain rfl rfl rfl rfl

theorem keeps_evtPendClear {i : Fin 3} (h : Keeps s0 u) : Keeps s0 (evtPendClear i val u) := by
  unfold evtPendClear
  exact h.plain rfl rfl rfl rfl

theorem keeps_evtSysClear (h : Keeps s0 u) : Keeps s0 (evtSysClear val u) := by
  unfold evtSysClear
  exact h.plain rfl rfl rfl rfl

/-! ### The SOE writer and cleared causes -/

theorem keeps_soeSystem {low : Nat} (h : Keeps s0 u) : Keeps s0 (soeSystem low u) := keeps_soeWrite _ h

theorem keeps_soeTick (h : Keeps s0 u) : Keeps s0 (soeTick u) := by
  unfold soeTick
  exact keeps_ite (h.plain rfl rfl rfl rfl) (keeps_soeSystem (keeps_soeSystem
    ((h.plain rfl rfl rfl rfl).plain rfl rfl rfl rfl)))

theorem keeps_causeClear {ch : Ch} (h : Keeps s0 u) : Keeps s0 (causeClear ch val u) := keeps_modCell _ _ h

/-! ### Reads of a memory -/

theorem keeps_memoryRead {m : Fin 3} {c : Ctx} {opcode : Nat} {f : State → State} (hf : ∀ v, Keeps s0 v → Keeps s0 (f v))
    (h : Keeps s0 u) : Keeps s0 (memoryRead m c opcode f u) :=
  keeps_ite (hf _ h) (keeps_ite (keeps_answerFault _ _ _ (keeps_drawFree h)) (hf _ (keeps_drawFree h)))

end

end Sys2Proof.Machine
end

section
/-! PROOF. What keeps the invariant and the unit: the functions of a cell and the check units (chapters 7 to 11 and 16). -/

namespace Sys2Proof.Machine

open Sys2Proof

section
variable {s0 u : State} {ch : Ch} {k : Fin 4} {v : Word}

/-! ### Binary inputs -/

theorem keeps_diOpenByState (h : Keeps s0 u) : Keeps s0 (diOpenByState ch u) := keeps_ite (keeps_condOff _ _ h) h

theorem keeps_diRawEdge {rising test : Bool} {age : Nat} (h : Keeps s0 u) : Keeps s0 (diRawEdge ch rising test age u) := by
  unfold diRawEdge
  exact keeps_ite h (keeps_diOpenByState (keeps_modCell _ _ h))

theorem keeps_diThresholds (h : Keeps s0 u) : Keeps s0 (diThresholds ch u) := by
  unfold diThresholds
  exact keeps_ite (keeps_diRawEdge h) (keeps_ite (keeps_diRawEdge h) h)

theorem keeps_diReconnect {raw : Bool} (h : Keeps s0 u) : Keeps s0 (diReconnect ch raw u) :=
  keeps_diRawEdge (keeps_modCell _ _ h)

theorem keeps_diDebounceExpire (h : Keeps s0 u) : Keeps s0 (diDebounceExpire ch u) :=
  keeps_ite (keeps_diOpenByState (keeps_modCell _ _ h)) h

/-! ### Switch outputs -/

theorem keeps_refreshOvercurrent (h : Keeps s0 u) : Keeps s0 (refreshOvercurrent ch u) := keeps_condSet _ _ _ h

theorem keeps_swRetry (h : Keeps s0 u) : Keeps s0 (swRetry ch u) := by
  unfold swRetry
  exact keeps_ite h (keeps_ite (keeps_modCell _ _ h) (keeps_condOn _ _ (keeps_modCell _ _ h)))

theorem keeps_swOffConds (h : Keeps s0 u) : Keeps s0 (swOffConds ch u) :=
  keeps_condOff _ _ (keeps_refreshOvercurrent (keeps_modCell _ _ h))

theorem keeps_swProtectiveOff (h : Keeps s0 u) : Keeps s0 (swProtectiveOff ch u) :=
  keeps_ite (keeps_swRetry (keeps_swOffConds (keeps_modCell _ _ h))) (keeps_modCell _ _ h)

theorem keeps_swUnlatch (h : Keeps s0 u) : Keeps s0 (swUnlatch ch u) :=
  keeps_condOff _ _ (keeps_condOff _ _ (keeps_modCell _ _ h))

theorem keeps_swApplyOff (h : Keeps s0 u) : Keeps s0 (swApplyOff ch u) := by
  unfold swApplyOff
  exact keeps_ite (keeps_swUnlatch (keeps_ite (keeps_swOffConds (keeps_modCell _ _ h)) (keeps_modCell _ _ h))) (keeps_ite
    (keeps_swOffConds (keeps_modCell _ _ h)) (keeps_modCell _ _ h))

theorem keeps_swApplyOn (h : Keeps s0 u) : Keeps s0 (swApplyOn ch u) := by
  unfold swApplyOn
  exact keeps_ite (keeps_modCell _ _ h) (keeps_ite (keeps_condOff _ _ (keeps_condOff _ _ (keeps_modCell _ _
    (keeps_modCell _ _ h)))) (keeps_modCell _ _ (keeps_modCell _ _ h)))

theorem keeps_swDeenergise (h : Keeps s0 u) : Keeps s0 (swDeenergise ch u) := keeps_swApplyOff (keeps_modCell _ _ h)

theorem keeps_swApply {on : Bool} (h : Keeps s0 u) : Keeps s0 (swApply ch on u) :=
  keeps_ite (keeps_swApplyOn h) (keeps_swApplyOff h)

theorem keeps_refreshSupplyLow (h : Keeps s0 u) : Keeps s0 (refreshSupplyLow ch u) := by
  unfold refreshSupplyLow
  exact keeps_condSet _ _ _ h

theorem keeps_swSupply {pMv : Nat} (h : Keeps s0 u) : Keeps s0 (swSupply ch pMv u) := by
  unfold swSupply
  extract_lets _ _ s1 s2 s3
  have h1 : Keeps s0 s1 := keeps_modCell _ _ h
  have h2 : Keeps s0 s2 := keeps_ite (keeps_swOffConds (keeps_modCell _ _ h1)) h1
  have h3 : Keeps s0 s3 := keeps_ite (keeps_condOff _ _ h2) h2
  exact keeps_refreshSupplyLow (keeps_ite (keeps_condOff _ _ h3) h3)

theorem keeps_swDiagSet {d : DiagKind} (h : Keeps s0 u) : Keeps s0 (swDiagSet ch d u) := by
  unfold swDiagSet
  dsimp only
  split
  · exact keeps_ite (keeps_refreshOvercurrent (keeps_modCell _ _ h)) h
  · exact keeps_ite (keeps_condOff _ _ (keeps_condOn _ _ h)) h
  · exact keeps_ite (keeps_swProtectiveOff (keeps_refreshOvercurrent (keeps_modCell _ _ h))) h
  · exact keeps_ite (keeps_condOn _ _ h) h
  · exact keeps_ite (keeps_condOn _ _ h) h

theorem keeps_swDiagClear {d : DiagKind} (h : Keeps s0 u) : Keeps s0 (swDiagClear ch d u) := by
  unfold swDiagClear
  split
  · exact keeps_refreshOvercurrent (keeps_modCell _ _ h)
  · exact keeps_condOff _ _ h
  · exact keeps_ite (keeps_refreshOvercurrent (keeps_modCell _ _ h)) h
  · exact keeps_condOff _ _ h
  · exact keeps_condOff _ _ h

theorem keeps_swThermalOff (h : Keeps s0 u) : Keeps s0 (swThermalOff ch u) :=
  keeps_ite h (keeps_swProtectiveOff (keeps_condOn _ _ (keeps_modCell _ _ h)))

theorem keeps_swThermalOn (h : Keeps s0 u) : Keeps s0 (swThermalOn ch u) := keeps_condOff _ _ (keeps_modCell _ _ h)

/-! ### Corrections -/

theorem keeps_checkSet (h : Keeps s0 u) : Keeps s0 (checkSet ch u) := by
  unfold checkSet
  exact keeps_condSet _ _ _ (keeps_modCell _ _ h)

theorem keeps_selfcalTick {failed : Bool} {why : Nat} (h : Keeps s0 u) : Keeps s0 (selfcalTick ch failed why u) :=
  h.plain rfl rfl rfl rfl

theorem keeps_cellSelfcalDone {fs : List PathFactors} (h : Keeps s0 u) : Keeps s0 (cellSelfcalDone ch fs u) := by
  unfold cellSelfcalDone
  exact keeps_ite h (keeps_refreshLoss (keeps_selfcalTick (keeps_condSet _ _ _ (keeps_modCell _ _ h))))

/-! ### Analogue inputs -/

theorem keeps_refreshTestFail (h : Keeps s0 u) : Keeps s0 (refreshTestFail ch u) := keeps_condSet _ _ _ h

theorem keeps_testVerdict {pass : Bool} (h : Keeps s0 u) : Keeps s0 (testVerdict ch pass u) :=
  keeps_refreshTestFail (keeps_modCell _ _ h)

theorem keeps_testComplete {pass : Bool} {payload : List Word} (h : Keeps s0 u) : Keeps s0 (testComplete ch pass payload u) :=
  keeps_finishOpt _ _ _ _ h

/-! ### Current outputs and HART -/

theorem keeps_aoOpenByCurrent (h : Keeps s0 u) : Keeps s0 (aoOpenByCurrent ch u) := keeps_ite (keeps_condOff _ _ h) h

theorem keeps_aoExtEnds {was : AoSt} (h : Keeps s0 u) : Keeps s0 (aoExtEnds ch was u) := keeps_ite (keeps_condOff _ _ h) h

theorem keeps_hartEnd {status reason : Nat} (h : Keeps s0 u) : Keeps s0 (hartEnd ch status reason u) := by
  unfold hartEnd
  split
  · exact h
  · exact keeps_finishOp _ _ _ _ (keeps_modCell _ _ h)

theorem keeps_hartShed (h : Keeps s0 u) : Keeps s0 (hartShed ch u) := by
  unfold hartShed
  dsimp only
  split
  · exact keeps_ite (keeps_hartEnd h) h
  · exact h

theorem keeps_aoMarker {p : Nat} {target : Int} (h : Keeps s0 u) : Keeps s0 (aoMarker ch p target u) := by
  unfold aoMarker
  exact keeps_hartShed (keeps_aoOpenByCurrent (keeps_aoExtEnds (keeps_modCell _ _ h)))

theorem keeps_aoRamp (h : Keeps s0 u) : Keeps s0 (aoRamp ch u) := keeps_hartShed (keeps_aoOpenByCurrent (keeps_modCell _ _ h))

theorem keeps_aoTarget {target : Int} (h : Keeps s0 u) : Keeps s0 (aoTarget ch target u) := keeps_aoRamp (keeps_modCell _ _ h)

theorem keeps_aoThermalCut (h : Keeps s0 u) : Keeps s0 (aoThermalCut ch u) :=
  keeps_hartShed (keeps_aoOpenByCurrent (keeps_modCell _ _ h))

theorem keeps_hartPhase {p : HartPhase} (h : Keeps s0 u) : Keeps s0 (hartPhase ch p u) := keeps_modCell _ _ h

theorem keeps_hartReply {f : HartFrame} {good : Bool} (h : Keeps s0 u) : Keeps s0 (hartReply ch f good u) := by
  unfold hartReply
  exact keeps_ite (keeps_hartEnd (keeps_ite (keeps_modCell _ _ h) h)) (keeps_hartEnd (keeps_ite (keeps_modCell _ _ h) h))

theorem keeps_hartAbort (h : Keeps s0 u) : Keeps s0 (hartAbort ch u) := keeps_modCell _ _ h

/-! ### Check units -/

theorem keeps_modCu {f : Cu → Cu} (h : Keeps s0 u) : Keeps s0 (State.modCu u k f) := h.plain rfl rfl rfl rfl

theorem keeps_cuIn {n : Nat} (h : Keeps s0 u) : Keeps s0 (cuIn n k v u) := keeps_modCu h

theorem keeps_cuRestart (h : Keeps s0 u) : Keeps s0 (cuRestart k v u) := keeps_ite (keeps_modCu h) h

theorem keeps_cuCheck (h : Keeps s0 u) : Keeps s0 (cuCheck k v u) := keeps_modCu h

theorem keeps_cuFold {b : Byte} (h : Keeps s0 u) : Keeps s0 (cuFold k b u) := keeps_modCu h

theorem keeps_cuExpect {b : Byte} (h : Keeps s0 u) : Keeps s0 (cuExpect k b u) := keeps_modCu h

theorem keeps_cuAliveWrite (h : Keeps s0 u) : Keeps s0 (cuAliveWrite k v u) := keeps_ite (keeps_cuFold h) (keeps_cuExpect h)

theorem keeps_cuValWrite (h : Keeps s0 u) : Keeps s0 (cuValWrite k v u) := keeps_modCu h

theorem keeps_cuStatClear (h : Keeps s0 u) : Keeps s0 (cuStatClear k v u) := keeps_modCu h

theorem keeps_cuWrite {off : Nat} (h : Keeps s0 u) : Keeps s0 (cuWrite off k v u) := by
  unfold cuWrite
  split
  · exact keeps_modCu h
  · exact keeps_modCu h
  · exact keeps_modCu h
  · exact keeps_modCu h
  · exact keeps_cuValWrite h
  · exact keeps_cuAliveWrite h
  · exact keeps_cuStatClear h
  · exact keeps_cuIn h
  · exact keeps_cuIn h
  · exact keeps_cuIn h
  · exact keeps_cuRestart h
  · exact keeps_cuCheck h
  · exact h

end

end Sys2Proof.Machine
end

section
/-! PROOF. What keeps the invariant and the unit: the logic engine, whose memories stay in canonical form (chapter 12). -/

namespace Sys2Proof.Machine

open Sys2Proof

/-- The copies of the data memory are in canonical form: what `memOk` says of a state, said of its engine. -/
def EngWf (e : Engine) : Prop :=
  memWf e.memC = true ∧ memWf e.memV = true ∧ memWf e.memW = true ∧ ∀ x, e.start = some x → memWf x.1 = true

section
variable {e : Engine} {v : EvalSt} {p : Program}

theorem engWf_ite {e' : Engine} {c : Prop} [Decidable c] (h : EngWf e) (h' : EngWf e') : EngWf (if c then e else e') := by
  split
  · exact h
  · exact h'

theorem runOp_wf (snap : Mem) (o : EngOp) (h : memWf v.mem = true) : memWf (runOp p snap v o).mem = true := by
  unfold runOp
  dsimp only
  split <;> exact putResults_wf _ _ h

theorem runMain_wf (h : memWf v.mem = true) : memWf (runMain p v).mem = true := by
  unfold runMain
  refine List.foldlRecOn (motive := fun v : EvalSt => memWf v.mem = true) _ _ h fun v hv b _ => ?_
  exact List.foldlRecOn (motive := fun v : EvalSt => memWf v.mem = true) _ _ hv fun w hw o _ => runOp_wf _ o hw

theorem replayBundle_wf {st : EvalSt × List Nat} (b : Bundle) (h : memWf st.1.mem = true) :
    memWf (replayBundle p st b).1.mem = true := by
  unfold replayBundle
  refine List.foldlRecOn (motive := fun st : EvalSt × List Nat => memWf st.1.mem = true) _ _ h fun st hst o _ => ?_
  split
  · exact runOp_wf _ o hst
  · exact hst

theorem runReplay_wf {dirty : List Nat} (h : memWf v.mem = true) : memWf (runReplay p dirty v).mem = true :=
  List.foldlRecOn (motive := fun st : EvalSt × List Nat => memWf st.1.mem = true) _ _ h fun _ hst b _ => replayBundle_wf b hst

theorem baseMem_wf (h : EngWf e) : memWf (baseMem e) = true := by
  obtain ⟨hC, -, -, hstart⟩ := h
  unfold baseMem
  cases hx : e.start with
  | none => exact hC
  | some x => exact hstart x hx

theorem applyRemote_wf (r : RemIn) (h : EngWf e) : EngWf (applyRemote p r e) := by
  obtain ⟨hC, hV, hW, hstart⟩ := h
  unfold applyRemote
  dsimp only
  split
  · exact ⟨hC, hV, hW, hstart⟩
  · exact ⟨hC, hV, memPutAll_wf _ _ hW, hstart⟩

theorem offerRemote_wf {s : State} (ref : RemRef) (h : EngWf s.eng) : EngWf (offerRemote s ref) := by
  unfold offerRemote
  dsimp only
  split
  · split
    · exact applyRemote_wf _ h
    · exact h
  · exact h

theorem copyV_wf (h : EngWf e) : EngWf (copyV e) := by
  obtain ⟨hC, hV, hW, hstart⟩ := h
  unfold copyV
  split
  · exact ⟨hC, hW, hW, hstart⟩
  · exact ⟨hC, hV, hW, hstart⟩

theorem applyHeld'_wf (h : EngWf e) : EngWf (applyHeld' p e) := by
  unfold applyHeld'
  refine List.foldlRecOn (motive := EngWf) _ _ h fun e he r _ => ?_
  split
  · exact he
  · exact applyRemote_wf r he

theorem carryOver_wf (h : EngWf e) : EngWf (carryOver p e) := by
  obtain ⟨hC, hV, hW, -⟩ := h
  refine ⟨hC, hV, hW, fun x hx => ?_⟩
  obtain rfl := Option.some.inj hx
  exact foldl_wf _ (fun _ y hm => memPut_wf y.2 _ hm) _ (initMem_wf p)

theorem commitV_wf (late : Nat) (h : EngWf e) : EngWf (closeWindowLe (commitV late e)) := by
  obtain ⟨-, hV, hW, -⟩ := h
  exact ⟨hV, hV, hW, fun _ hx => nomatch hx⟩

end

section
variable {s0 u : State} {ref : RemRef} {vals : List Word} {p : Program}

/-- A change of the engine that keeps the form of its memories keeps everything. -/
theorem keeps_engWf {e : Engine} (h : Keeps s0 u) (he : EngWf u.eng → EngWf e) : Keeps s0 { u with eng := e } := keeps_eng e h he

theorem keeps_remoteSpeculative (h : Keeps s0 u) : Keeps s0 (remoteSpeculative ref vals u) := by
  unfold remoteSpeculative
  split
  · exact h
  · exact keeps_ite h (keeps_engWf h fun he => engWf_ite he (offerRemote_wf ref he))

theorem keeps_remoteVerified (h : Keeps s0 u) : Keeps s0 (remoteVerified ref vals u) := by
  refine keeps_ite (keeps_engWf h id) (keeps_engWf h fun he => ?_)
  exact engWf_ite (copyV_wf (offerRemote_wf ref he)) (offerRemote_wf ref he)

theorem keeps_remoteReverted (h : Keeps s0 u) : Keeps s0 (remoteReverted ref u) := by
  unfold remoteReverted
  split
  · exact h
  · exact keeps_ite h (keeps_raiseFault _ _ (keeps_engWf h fun he => engWf_ite he (offerRemote_wf ref he)))

theorem keeps_engineStart (h : Keeps s0 u) : Keeps s0 (engineStart u) := by
  unfold engineStart
  split
  · exact h
  · refine h.update rfl id (fun hm => ?_) rfl
    exact ⟨hm.1, initMem_wf _, initMem_wf _, fun x hx => Option.some.inj hx ▸ initMem_wf _⟩

theorem keeps_swapPrograms {online : Bool} (h : Keeps s0 u) : Keeps s0 (swapPrograms online u) :=
  keeps_clearFault _ (keeps_engWf h id)

theorem keeps_frameSwitch (h : Keeps s0 u) : Keeps s0 (frameSwitch u) := by
  unfold frameSwitch
  split
  · exact keeps_engWf (keeps_swapPrograms h) carryOver_wf
  · exact h

theorem keeps_firstEval {image : List Word} (h : Keeps s0 u) : Keeps s0 (firstEval image u) := by
  unfold firstEval
  split
  · exact h
  · refine keeps_engWf h fun he => ?_
    have hbase := baseMem_wf he
    obtain ⟨hC, hV, -, hstart⟩ := he
    exact ⟨hC, hV, runMain_wf (foldl_wf _ (fun _ r hm => memPutAll_wf r.base r.use hm) _ (memPutAll_wf 0 image hbase)), hstart⟩

theorem keepsOut_firstEvalComplete (h : Keeps s0 u) : KeepsOut s0 (execFirstEvalComplete u) := by
  unfold execFirstEvalComplete
  split
  · exact h
  · exact keeps_ite (keeps_engWf h fun he => applyHeld'_wf (copyV_wf he)) h

theorem keepsOut_replayPassComplete (h : Keeps s0 u) : KeepsOut s0 (execReplayPassComplete u) := by
  unfold execReplayPassComplete
  split
  · exact h
  · refine keeps_ite (keeps_engWf h fun he => applyHeld'_wf (copyV_wf ?_)) h
    obtain ⟨hC, hV, hW, hstart⟩ := he
    exact ⟨hC, hV, runReplay_wf hW, hstart⟩

end

end Sys2Proof.Machine
end

section
/-! PROOF. What keeps the invariant and the unit: cells, lanes and their commands (chapters 6 and 17). -/

namespace Sys2Proof.Machine

open Sys2Proof

section
variable {s0 u : State} {ch : Ch} {c : Ctx} {ws : List Word} {why reason opcode : Nat} {now ok : Bool} {w : CfgWrite} {v :
  Int} {f : Func} {t : TrimSt}

/-! ### The cell -/

theorem keeps_endFuncConds (h : Keeps s0 u) : Keeps s0 (endFuncConds ch u) :=
  keeps_foldl h (fun _ _ hv => keeps_ite (keeps_condOff _ _ hv) hv)

theorem keeps_settingConds (h : Keeps s0 u) : Keeps s0 (settingConds ch u) := by
  unfold settingConds
  extract_lets _ s1 s2
  have h1 : Keeps s0 s1 := keeps_ite (keeps_condOff _ _ h) h
  have h2 : Keeps s0 s2 := keeps_ite (keeps_condOff _ _ h1) h1
  exact keeps_ite (keeps_refreshSupplyLow h2) (keeps_ite (keeps_diThresholds h2) h2)

theorem keeps_shadowMarker (h : Keeps s0 u) : Keeps s0 (shadowMarker ch u) := by
  unfold shadowMarker
  dsimp only
  split
  · exact keeps_ite h (keeps_ite (keeps_settingConds (keeps_modCell _ _ h)) (keeps_endFuncConds (keeps_modCell _ _ h)))
  · exact h

theorem keeps_clearMarker (h : Keeps s0 u) : Keeps s0 (clearMarker ch u) := by
  unfold clearMarker
  exact keeps_ite (keeps_causeClear (keeps_swUnlatch (keeps_modCell _ _ h))) (keeps_modCell _ _ h)

theorem keeps_aoCommand {target : Int} (h : Keeps s0 u) : Keeps s0 (aoCommand ch now target u) :=
  keeps_ite (keeps_aoTarget h) (keeps_aoMarker h)

theorem keeps_deenergise (h : Keeps s0 u) : Keeps s0 (deenergise ch now u) := by
  unfold deenergise
  exact keeps_ite (keeps_swDeenergise h) (keeps_ite (keeps_aoCommand (keeps_modCell _ _ h)) h)

theorem keeps_applyHeld {alarm : Bool} (h : Keeps s0 u) : Keeps s0 (applyHeld ch now v alarm u) := by
  unfold applyHeld
  exact keeps_ite (keeps_ite (keeps_modCell _ _ h) (keeps_swApply (keeps_modCell _ _ h))) (keeps_ite (keeps_aoCommand
    (keeps_modCell _ _ h)) h)

theorem keeps_holdOutput (h : Keeps s0 u) : Keeps s0 (holdOutput ch now u) := by
  unfold holdOutput
  exact keeps_ite (keeps_applyHeld h) (keeps_applyHeld h)

theorem keeps_applySafe (h : Keeps s0 u) : Keeps s0 (applySafe ch now u) := by
  unfold applySafe
  refine keeps_ite (keeps_deenergise (keeps_modCell _ _ h)) (keeps_ite (keeps_deenergise (keeps_condOn _ _
    (keeps_modCell _ _ h))) ?_)
  split
  · exact keeps_deenergise (keeps_modCell _ _ h)
  · exact keeps_holdOutput (keeps_modCell _ _ h)
  · exact keeps_applyHeld (keeps_modCell _ _ h)

theorem keeps_aoValue (h : Keeps s0 u) : Keeps s0 (aoValue ch v u) := by
  unfold aoValue
  exact keeps_aoMarker (keeps_modCell _ _ h)

theorem keeps_wdNormal (h : Keeps s0 u) : Keeps s0 (wdNormal ch u) :=
  keeps_ite (keeps_condOff _ _ (keeps_modCell _ _ h)) (keeps_modCell _ _ h)

theorem keeps_applyValue (h : Keeps s0 u) : Keeps s0 (applyValue ch v u) := by
  unfold applyValue
  exact keeps_ite (keeps_swApply (keeps_modCell _ _ (keeps_wdNormal (keeps_modCell _ _ h)))) (keeps_aoValue (keeps_wdNormal
    (keeps_modCell _ _ h)))

theorem keeps_endHoldover (h : Keeps s0 u) : Keeps s0 (endHoldover ch u) := keeps_modCell _ _ h

theorem keeps_applyOut {o : OutFrame} (h : Keeps s0 u) : Keeps s0 (applyOut ch o u) := by
  unfold applyOut
  split
  · exact keeps_applyValue h
  · exact keeps_applySafe (keeps_endHoldover h)
  · exact keeps_deenergise (keeps_endHoldover (keeps_modCell _ _ h))
  · exact keeps_ite (keeps_applySafe h) (keeps_holdOutput h)

theorem keeps_feedInput (h : Keeps s0 u) : Keeps s0 (feedInput ch u) := keeps_wdNormal (keeps_modCell _ _ h)

theorem keeps_markerIdle (h : Keeps s0 u) : Keeps s0 (markerIdle ch u) := by
  unfold markerIdle
  exact keeps_ite (keeps_aoMarker (keeps_modCell _ _ h)) (keeps_ite (keeps_swApplyOn h) h)

theorem keeps_markerCommand {tag : Nat} (h : Keeps s0 u) : Keeps s0 (markerCommand ch tag u) := by
  unfold markerCommand
  extract_lets _ _ s1 s2
  have h1 : Keeps s0 s1 := keeps_modCell _ _ h
  have h2 : Keeps s0 s2 := keeps_ite (keeps_modCell _ _ h1) h1
  refine keeps_ite (keeps_deenergise h2) ?_
  split
  · exact keeps_aoMarker (keeps_modCell _ _ h2)
  · exact keeps_applyOut h2
  · exact keeps_markerIdle h2

theorem keeps_sampleCell {x : CellSample} (h : Keeps s0 u) : Keeps s0 (sampleCell ch x u) :=
  keeps_ite (keeps_ite (keeps_swSupply (keeps_modCell _ _ h)) (keeps_modCell _ _ h)) h

theorem keeps_cellMarker {tag : Nat} {x : CellSample} (h : Keeps s0 u) : Keeps s0 (cellMarker ch tag x u) := by
  unfold cellMarker
  extract_lets s1 s2 s3
  have h2 : Keeps s0 s2 := keeps_clearMarker (keeps_shadowMarker (keeps_modCell _ _ (keeps_sampleCell (keeps_modCell _ _ h))))
  have h3 : Keeps s0 s3 := keeps_ite (keeps_markerCommand h2) (keeps_feedInput h2)
  exact keeps_modCell _ _ h3

theorem keeps_cellMissed (h : Keeps s0 u) : Keeps s0 (cellMissed ch u) := by
  unfold cellMissed
  exact keeps_ite (keeps_aoRamp (keeps_modCell _ _ h)) (keeps_modCell _ _ h)

theorem keeps_wdExpire (h : Keeps s0 u) : Keeps s0 (wdExpire ch u) := by
  unfold wdExpire
  exact keeps_ite (keeps_applySafe (keeps_condOn _ _ (keeps_modCell _ _ h))) (keeps_condOn _ _ (keeps_modCell _ _ h))

theorem keeps_enterHold {secs : Nat} (h : Keeps s0 u) : Keeps s0 (enterHold ch secs u) :=
  keeps_ite (keeps_condOff _ _ (keeps_modCell _ _ h)) h

theorem keeps_powerUpCell {src : Nat} (h : Keeps s0 u) : Keeps s0 (powerUpCell ch src u) := by
  unfold powerUpCell
  exact keeps_ite h (keeps_condSet _ _ _ (keeps_checkSet (keeps_modCell _ _ h)))

theorem keeps_cellResets (h : Keeps s0 u) : Keeps s0 (cellResets ch why u) :=
  keeps_ite h (keeps_refreshLoss (keeps_modCell _ _ (keeps_ite (keeps_causePulse _ _ h) (keeps_ite
    (keeps_causePulse _ _ h) h))))

/-! ### Lanes -/

theorem keeps_modLane {f : Lane → Lane} (h : Keeps s0 u) : Keeps s0 (modLane ch f u) := keeps_modCell _ _ h

theorem keeps_startWrite (h : Keeps s0 u) : Keeps s0 (startWrite ch w u) := keeps_modCell _ _ h

theorem keeps_writeAnswer {status : Nat} {payload : List Word} (h : Keeps s0 u) : Keeps s0
    (writeAnswer w status reason payload u) := by
  unfold writeAnswer
  split
  · exact h
  · exact keeps_ite (keeps_answer _ _ _ h) (keeps_finishOp _ _ _ _ h)

theorem keeps_restoreConfig (h : Keeps s0 u) : Keeps s0 (restoreConfig ch u) := by
  unfold restoreConfig
  exact keeps_ite (keeps_startWrite h) h

theorem keeps_failOne (h : Keeps s0 u) : Keeps s0 (failOne ch reason u) := by
  unfold failOne
  split
  · exact h
  · exact keeps_writeAnswer (keeps_ite (keeps_condOn _ _ (keeps_modCell _ _ h)) (keeps_modCell _ _ h))

theorem keeps_failWrite (h : Keeps s0 u) : Keeps s0 (failWrite ch reason u) := keeps_restoreConfig (keeps_failOne h)

theorem keeps_failWrites (h : Keeps s0 u) : Keeps s0 (failWrites ch reason u) := by
  unfold failWrites
  exact keeps_restoreConfig (keeps_foldl h (fun _ _ hv => keeps_failOne hv))

theorem keeps_rejoinConfig (h : Keeps s0 u) : Keeps s0 (rejoinConfig ch u) := by
  unfold rejoinConfig
  exact keeps_ite h (keeps_ite (keeps_modCell _ _ h) (keeps_startWrite h))

theorem keeps_rejoinLoaded (h : Keeps s0 u) : Keeps s0 (rejoinLoaded ch u) := keeps_ite h (keeps_rejoinConfig h)

theorem keeps_configDone (h : Keeps s0 u) : Keeps s0 (configDone ch w u) := by
  unfold configDone
  exact keeps_ite (keeps_rejoinConfig (keeps_modCell _ _ h)) (keeps_refreshLoss (keeps_writeAnswer (keeps_modCell _ _
    (keeps_modCell _ _ h))))

theorem keeps_writeMarker (h : Keeps s0 u) : Keeps s0 (writeMarker ch u) := by
  unfold writeMarker
  dsimp only
  split
  · split
    · exact keeps_ite (keeps_configDone h) h
    · exact h
  · exact h

theorem keeps_writeConfirmed (h : Keeps s0 u) : Keeps s0 (writeConfirmed ch w u) := by
  unfold writeConfirmed
  split
  · exact h
  · exact keeps_writeAnswer (keeps_condOff _ _ (keeps_modCell _ _ h))
  · exact keeps_modCell _ _ h
  · exact keeps_modCell _ _ h
  · exact keeps_writeAnswer (keeps_noteConfig _ (keeps_modCell _ _ h))
  · exact keeps_modCell _ _ (keeps_hartPhase h)

theorem keeps_writeStoreFails (h : Keeps s0 u) : Keeps s0 (writeStoreFails ch w u) := by
  unfold writeStoreFails
  refine keeps_writeAnswer (keeps_condOn _ _ (keeps_modCell _ _ ?_))
  split
  · exact keeps_drawFree (keeps_modCell _ _ h)
  · exact h
  · exact h
  · exact h
  · exact h
  · exact h

theorem keeps_confirmFrame (h : Keeps s0 u) : Keeps s0 (confirmFrame ch u) := by
  unfold confirmFrame
  split
  · exact h
  · exact keeps_ite (keeps_writeConfirmed (keeps_modCell _ _ h)) (keeps_modCell _ _ h)

theorem keeps_laneDown (h : Keeps s0 u) : Keeps s0 (laneDown ch u) :=
  keeps_refreshLoss (keeps_causeOn _ _ (keeps_modCell _ _ h))

theorem keeps_laneLost (h : Keeps s0 u) : Keeps s0 (laneLost ch u) :=
  keeps_ite h (keeps_ite (keeps_raiseFault _ _ ((keeps_ite (keeps_laneDown h) (keeps_modCell _ _ h)).plain rfl rfl rfl rfl))
    (keeps_ite (keeps_laneDown h) (keeps_modCell _ _ h)))

theorem keeps_dieBack (h : Keeps s0 u) : Keeps s0 (dieBack ch u) :=
  keeps_ite (keeps_ite (keeps_clearFault _ (h.plain rfl rfl rfl rfl)) (h.plain rfl rfl rfl rfl)) h

theorem keeps_frameFailed (h : Keeps s0 u) : Keeps s0 (frameFailed ch why u) := by
  unfold frameFailed
  exact keeps_ite (keeps_laneLost (keeps_causePulse _ _ (keeps_modLane h))) (keeps_causePulse _ _ (keeps_modLane h))

theorem keeps_txFails {f : LaneFrame} (h : Keeps s0 u) : Keeps s0 (txFails ch f why u) := by
  unfold txFails
  split
  · exact keeps_condOn _ _ (keeps_frameFailed (keeps_modLane h))
  · exact keeps_failWrite (keeps_frameFailed h)
  · exact keeps_failWrite (keeps_frameFailed h)
  · exact keeps_failWrite (keeps_frameFailed h)
  · exact keeps_failWrite (keeps_frameFailed h)
  · exact keeps_modCell _ _ (keeps_frameFailed h)
  · exact keeps_modCell _ _ (keeps_frameFailed h)
  · exact keeps_modCell _ _ (keeps_frameFailed h)
  · exact keeps_modCell _ _ (keeps_frameFailed h)
  · exact keeps_modCell _ _ (keeps_frameFailed h)
  · exact keeps_modCell _ _ (keeps_frameFailed h)

theorem keeps_resultStale (h : Keeps s0 u) : Keeps s0 (resultStale ch why u) := keeps_frameFailed (keeps_modCell _ _ h)

theorem keeps_takeEdge (h : Keeps s0 u) : Keeps s0 (takeEdge ch ok u) := by
  unfold takeEdge
  split
  · exact h
  · exact keeps_ite (keeps_foldl (keeps_modCell _ _ h) (fun _ _ hv => keeps_soeWrite _ hv)) (keeps_frameFailed
      (keeps_modCell _ _ h))

theorem keeps_takeInj (h : Keeps s0 u) : Keeps s0 (takeInj ch ok u) := by
  unfold takeInj
  split
  · exact h
  · exact keeps_ite (keeps_modCell _ _ (keeps_modCell _ _ h)) (keeps_frameFailed (keeps_modCell _ _ (keeps_modCell _ _ h)))

theorem keeps_eventLost (h : Keeps s0 u) : Keeps s0 (eventLost ch why u) :=
  keeps_ite (keeps_takeEdge h) (keeps_ite (keeps_takeInj h) (keeps_frameFailed h))

theorem keeps_upFails {f : LaneFrame} (h : Keeps s0 u) : Keeps s0 (upFails ch f why u) := by
  unfold upFails
  split
  · exact keeps_resultStale h
  · exact keeps_modCell _ _ h
  · exact keeps_modCell _ _ h
  · exact keeps_modCell _ _ (keeps_eventLost h)
  · exact keeps_modCell _ _ (keeps_frameFailed h)
  · exact keeps_modCell _ _ (keeps_frameFailed h)
  · exact keeps_modCell _ _ (keeps_frameFailed h)
  · exact keeps_modCell _ _ (keeps_frameFailed h)
  · exact keeps_modCell _ _ (keeps_frameFailed h)
  · exact keeps_modCell _ _ (keeps_frameFailed h)
  · exact keeps_modCell _ _ (keeps_frameFailed h)

theorem keeps_resend {toCell : Bool} (h : Keeps s0 u) : Keeps s0 (resend ch toCell why u) := by
  unfold resend
  dsimp only
  split
  · exact h
  · exact keeps_ite (keeps_modLane h) (keeps_ite (keeps_txFails h) (keeps_upFails h))

theorem keeps_ucodeLoaded {crc : Nat} (h : Keeps s0 u) : Keeps s0 (ucodeLoaded ch crc u) :=
  keeps_ite (keeps_condOff _ _ (keeps_modCell _ _ h)) (keeps_condOn _ _ (keeps_modCell _ _ h))

theorem keeps_resetEndsOps (h : Keeps s0 u) : Keeps s0 (resetEndsOps ch u) :=
  keeps_foldl h (fun _ _ hv => keeps_finishOp _ _ _ _ hv)

theorem keeps_helloReset (h : Keeps s0 u) : Keeps s0 (helloReset ch u) := by
  unfold helloReset
  exact keeps_selfcalTick (keeps_resetEndsOps (keeps_failWrites (keeps_ite (keeps_modCell _ _ h) (keeps_causePulse _ _
    (keeps_modCell _ _ h)))))

theorem keeps_helloResume (h : Keeps s0 u) : Keeps s0 (helloResume ch u) := keeps_modCell _ _ h

theorem keeps_rejoinLate (h : Keeps s0 u) : Keeps s0 (rejoinLate ch u) := by
  unfold rejoinLate
  exact keeps_ite h (keeps_ite (keeps_modCell _ _ h) (keeps_modCell _ _ h))

theorem keeps_reloadCell (h : Keeps s0 u) : Keeps s0 (reloadCell ch u) := keeps_laneDown (keeps_modCell _ _ h)

theorem keeps_joinMarker (h : Keeps s0 u) : Keeps s0 (joinMarker ch u) :=
  keeps_ite (keeps_refreshLoss (keeps_ite (keeps_applySafe (keeps_modCell _ _ h)) (keeps_modCell _ _ h))) h

theorem keeps_takeEvent {ev : CellEvent} (h : Keeps s0 u) : Keeps s0 (takeEvent ch ok ev u) := by
  unfold takeEvent
  split
  · exact keeps_takeEdge h
  · exact keeps_takeInj h
  · exact keeps_ite (keeps_frameFailed h) (keeps_ite (keeps_causeOn _ _ h) h)
  · exact keeps_ite h (keeps_frameFailed h)

/-! ### Load check -/

theorem keeps_noteBudget (h : Keeps s0 u) : Keeps s0 (noteBudget u) := h.update rfl id id rfl

/-! ### Channel and calibration commands -/

theorem keeps_modeGate {l : List Nat} {k : State → State} (hk : ∀ v, Keeps s0 v → Keeps s0 (k v)) (h : Keeps s0 u) : Keeps s0
    (modeGate l c k u) :=
  keeps_inModes _ _ (fun _ hv => hk _ hv) h

theorem keeps_longChannel {arg : Word} {k : State → State} (hk : ∀ v, Keeps s0 v → Keeps s0 (k v)) (h : Keeps s0 u) : Keeps s0
    (longChannel c opcode ch arg k u) :=
  keeps_ite (keeps_answer _ _ _ h) (keeps_ite (hk _ (keeps_startOp _ _ h)) (keeps_finishOp _ _ _ _ (keeps_startOp _ _ h)))

theorem keeps_dropPart {src : Src} (h : Keeps s0 u) : Keeps s0 (dropPart src opcode u) := h.plain rfl rfl rfl rfl

theorem keeps_takePart {key off k : Nat} {data : List Word} {lenOf : List Word → Option Nat} {whole :
    List Word → State → State} (hwhole : ∀ ws v, Keeps s0 v → Keeps s0 (whole ws v)) (h : Keeps s0 u) : Keeps s0
    (takePart c opcode key off k data lenOf whole u) := by
  have hdrop : Keeps s0 (dropPart c.src opcode u) := keeps_dropPart h
  exact keeps_ite (keeps_answer _ _ _ h) (keeps_ite (keeps_answer _ _ _ h) (keeps_ite (keeps_answer _ _ _ h)
    (keeps_ite (hwhole _ _ hdrop) (keeps_answer _ _ _ (hdrop.plain rfl rfl rfl rfl)))))

theorem keeps_acceptConfig {pars : List (Nat × Int)} (h : Keeps s0 u) : Keeps s0 (acceptConfig ch f pars u) :=
  keeps_noteBudget (keeps_modCell _ _ h)

theorem keeps_deferConfig {pars : List (Nat × Int)} (h : Keeps s0 u) : Keeps s0 (deferConfig c ch f pars u) := by
  unfold deferConfig
  exact keeps_refreshLoss (keeps_finishOp _ _ _ _ (keeps_ite (keeps_rejoinConfig (keeps_modCell _ _ (keeps_startOp _ _
    (keeps_acceptConfig h)))) (keeps_modCell _ _ (keeps_startOp _ _ (keeps_acceptConfig h)))))

theorem keeps_configChannel (h : Keeps s0 u) : Keeps s0 (configChannel c ws ch f u) := by
  unfold configChannel
  dsimp only
  split
  · exact keeps_answer _ _ _ h
  · exact keeps_ite (keeps_answer _ _ _ h) (keeps_ite (keeps_answer _ _ _ h) (keeps_ite (keeps_deferConfig
      (keeps_noteConfig _ h)) (keeps_startWrite (keeps_startOp _ _ (keeps_acceptConfig (keeps_noteConfig _ h))))))

theorem keeps_opChConfig (h : Keeps s0 u) : Keeps s0 (opChConfig c ws u) := by
  unfold opChConfig
  refine keeps_modeGate (fun _ hv => keeps_withCh _ _ (fun _ _ hw => ?_) hv) h
  split
  · exact keeps_answer _ _ _ hw
  · exact keeps_inModes _ _ (fun _ hx => keeps_configChannel hx) hw

theorem keeps_opChReadConfig (h : Keeps s0 u) : Keeps s0 (opChReadConfig c ws u) :=
  keeps_modeGate (fun _ hv => keeps_refuseIf _ _ _ (fun _ hw => keeps_withCh _ _ (fun _ _ hx =>
    keeps_answer _ _ _ hx) hw) hv) h

theorem keeps_opChSetFailsafe (h : Keeps s0 u) : Keeps s0 (opChSetFailsafe c ws u) := by
  unfold opChSetFailsafe
  refine keeps_modeGate (fun _ hv => keeps_refuseIf _ _ _ (fun _ hw => keeps_withCh _ _ (fun _ _ hx => ?_) hw) hv) h
  dsimp only
  split
  · exact keeps_answer _ _ _ hx
  · exact keeps_longChannel (fun _ hy => keeps_startWrite hy) hx

theorem keeps_opChForce (h : Keeps s0 u) : Keeps s0 (opChForce c ws u) := by
  unfold opChForce
  refine keeps_modeGate (fun _ hv => ?_) h
  dsimp only
  split
  · exact keeps_answer _ _ _ hv
  · exact keeps_refuseIf _ _ _ (fun _ hw => keeps_answer _ _ _ (keeps_foldl hw (fun _ _ hv => keeps_modCell _ _ hv))) hv

theorem keeps_opChClearLatch (h : Keeps s0 u) : Keeps s0 (opChClearLatch c ws u) :=
  keeps_modeGate (fun _ hv => keeps_refuseIf _ _ _ (fun _ hw => keeps_withCh _ _ (fun _ _ hx => keeps_refuseIf _ _ _
    (fun _ hy => keeps_answer _ _ _ (keeps_modCell _ _ hy)) hx) hw) hv) h

theorem keeps_opInputTest (h : Keeps s0 u) : Keeps s0 (opInputTest c ws u) :=
  keeps_modeGate (fun _ hv => keeps_refuseIf _ _ _ (fun _ hw => keeps_withCh _ _ (fun _ _ hx => keeps_refuseIf _ _ _
    (fun _ hy => keeps_ite (keeps_answer _ _ _ hy) (keeps_longChannel (fun _ hz => keeps_modCell _ _ hz) hy)) hx) hw) hv) h

theorem keeps_opInjSeqConfig (h : Keeps s0 u) : Keeps s0 (opInjSeqConfig c ws u) :=
  keeps_modeGate (fun _ hv => keeps_refuseIf _ _ _ (fun _ hw => keeps_withCh _ _ (fun _ _ hx => keeps_refuseIf _ _ _
    (fun _ hy => keeps_ite (keeps_answerFault _ _ _ hy) (keeps_startWrite hy)) hx) hw) hv) h

theorem keeps_opHartTx (h : Keeps s0 u) : Keeps s0 (opHartTx c ws u) :=
  keeps_modeGate (fun _ hv => keeps_refuseIf _ _ _ (fun _ hw => keeps_withCh _ _ (fun _ _ hx => keeps_refuseIf _ _ _
    (fun _ hy => keeps_longChannel (fun _ hz => keeps_startWrite (keeps_modCell _ _ hz)) hy) hx) hw) hv) h

theorem keeps_opHartRx (h : Keeps s0 u) : Keeps s0 (opHartRx c ws u) :=
  keeps_modeGate (fun _ hv => keeps_refuseIf _ _ _ (fun _ hw => keeps_withCh _ _ (fun _ _ hx => keeps_ite (keeps_answer _ _ _
    (keeps_modCell _ _ hx)) (keeps_answer _ _ _ (keeps_modCell _ _ hx))) hw) hv) h

theorem keeps_selfcalStart {m : Word} (h : Keeps s0 u) : Keeps s0 (selfcalStart m u) :=
  keeps_foldl h (fun _ _ hv => keeps_ite (keeps_ite (keeps_modCell _ _ (keeps_hartEnd hv)) (keeps_selfcalTick hv)) hv)

theorem keeps_opSelfcal (h : Keeps s0 u) : Keeps s0 (opSelfcal c ws u) := by
  unfold opSelfcal
  exact keeps_inModes _ _ (fun _ hv => keeps_ite (keeps_answer _ _ _ hv) (keeps_ite (keeps_answer _ _ _ hv)
    (keeps_selfcalStart (keeps_startOp _ _ hv)))) h

theorem keeps_startEntryWrite {p : CalPend} (h : Keeps s0 u) : Keeps s0 (startEntryWrite ch p opcode u) :=
  keeps_startWrite (keeps_modCell _ _ h)

theorem keeps_opCalWrite (h : Keeps s0 u) : Keeps s0 (opCalWrite c ws u) := by
  unfold opCalWrite
  refine keeps_modeGate (fun _ hv => keeps_refuseIf _ _ _ (fun _ hw => keeps_withCh _ _ (fun _ _ hx => ?_) hw) hv) h
  dsimp only
  split
  · exact keeps_answer _ _ _ hx
  · exact keeps_ite (keeps_answer _ _ _ hx) (keeps_ite (keeps_answer _ _ _ hx) (keeps_ite (keeps_answer _ _ _ hx) (keeps_ite
      (keeps_answer _ _ _ hx) (keeps_longChannel (fun _ hy => keeps_startEntryWrite hy) hx))))

theorem keeps_opCalExport (h : Keeps s0 u) : Keeps s0 (opCalExport c ws u) := by
  unfold opCalExport
  refine keeps_modeGate (fun _ hv => keeps_refuseIf _ _ _ (fun _ hw => keeps_withCh _ _ (fun _ _ hx => ?_) hw) hv) h
  split
  · exact keeps_answer _ _ _ hx
  · exact keeps_ite (keeps_answer _ _ _ hx) (keeps_answer _ _ _ hx)

theorem keeps_restoreRecord {sigOk : Bool} {r : List Word} (h : Keeps s0 u) : Keeps s0 (restoreRecord c sigOk r u) := by
  unfold restoreRecord
  extract_lets w
  clear_value w
  split
  · refine keeps_ite (keeps_answer _ _ _ h) (keeps_ite (keeps_answer _ _ _ h) (keeps_ite (keeps_answer _ _ _ h) ?_))
    exact keeps_longChannel (fun _ hv => keeps_startEntryWrite hv) h
  · exact keeps_answer _ _ _ h

theorem keeps_opCalRestore {sigOk : Bool} (h : Keeps s0 u) : Keeps s0 (opCalRestore c ws sigOk u) :=
  keeps_modeGate (fun _ hv => keeps_refuseIf _ _ _ (fun _ hw => keeps_takePart (fun _ _ hx =>
    keeps_restoreRecord hx) hw) hv) h

theorem keeps_trimStart {factoryOk : Bool} (h : Keeps s0 u) : Keeps s0 (trimStart c ch factoryOk u) :=
  keeps_ite (keeps_answer _ _ _ h) (keeps_ite (keeps_answer _ _ _ h) (keeps_ite (keeps_answer _ _ _ h) (keeps_longChannel
    (fun _ hv => keeps_modCell _ _ hv) h)))

theorem keeps_trimPoint1 {m : Int} (h : Keeps s0 u) : Keeps s0 (trimPoint1 c ch m t u) :=
  keeps_ite (keeps_answer _ _ _ h) (keeps_answer _ _ _ (keeps_modCell _ _ h))

theorem keeps_trimPoint2 {m : Int} (h : Keeps s0 u) : Keeps s0 (trimPoint2 c ch m t u) := by
  unfold trimPoint2
  split
  · exact keeps_answer _ _ _ h
  · exact keeps_ite (keeps_answer _ _ _ h) (keeps_startEntryWrite (keeps_answer _ _ _ (keeps_modCell _ _ h)))

theorem keeps_trimCancel (h : Keeps s0 u) : Keeps s0 (trimCancel c ch t u) :=
  keeps_finishOp _ _ _ _ (keeps_answer _ _ _ (keeps_modCell _ _ h))

theorem keeps_opAoTrim (h : Keeps s0 u) : Keeps s0 (opAoTrim c ws u) := by
  unfold opAoTrim
  refine keeps_modeGate (fun _ hv => keeps_refuseIf _ _ _ (fun _ hw => keeps_withCh _ _ (fun _ _ hx => keeps_ite
    (keeps_trimStart hx) ?_) hw) hv) h
  split
  · exact keeps_answer _ _ _ hx
  · exact keeps_ite (keeps_answer _ _ _ hx) (keeps_ite (keeps_trimPoint1 hx) (keeps_ite (keeps_trimPoint2 hx)
      (keeps_trimCancel hx)))

end

end Sys2Proof.Machine
end

section
/-! PROOF. What keeps the invariant and the unit: records, images and the owner (chapters 19 and 20). -/

namespace Sys2Proof.Machine

open Sys2Proof

section
variable {s0 u : State} {c : Ctx} {ws : List Word} {n i ty slot : Nat}

/-! ### Records and life counters -/

theorem keeps_setSlot {l : List TickRec} (h : Keeps s0 u) : Keeps s0 (setSlot n l u) :=
  keeps_dite (fun _ => h.plain rfl rfl rfl rfl) (fun _ => h)

theorem keeps_closeRecord {trunc : Bool} (h : Keeps s0 u) : Keeps s0 (closeRecord trunc u) := by
  unfold closeRecord
  split
  · exact h
  · have h1 := fun ts sums => keeps_setSlot (n := u.recs.wslot) (l := ts)
      (h.plain (t := { u with recs := { u.recs with opened := none, post := 0, sums := sums } }) rfl rfl rfl rfl)
    dsimp only
    split
    · exact keeps_setSlot ((h1 _ _).plain rfl rfl rfl rfl)
    · exact h1 _ _

theorem keeps_releaseRecord {num : Nat} (h : Keeps s0 u) : Keeps s0 (releaseRecord num u) := h.plain rfl rfl rfl rfl

theorem keeps_openRecord (h : Keeps s0 u) : Keeps s0 (openRecord n u) := by
  unfold openRecord
  exact h.plain rfl rfl rfl rfl

theorem keeps_recTrigger (h : Keeps s0 u) : Keeps s0 (recTrigger u n) := by
  unfold recTrigger
  refine keeps_ite h ?_
  split
  · exact h.plain rfl rfl rfl rfl
  · refine keeps_ite (keeps_openRecord h) (keeps_ite ?_ (h.plain rfl rfl rfl rfl))
    split
    · exact keeps_openRecord (keeps_releaseRecord h)
    · exact h.plain rfl rfl rfl rfl

theorem keeps_recordFrame {t : TickRec} {triggers : List Nat} (h : Keeps s0 u) : Keeps s0 (recordFrame t triggers u) := by
  unfold recordFrame
  refine keeps_ite h (keeps_foldl ?_ (fun _ _ hv => keeps_recTrigger hv))
  split
  · exact (keeps_setSlot (keeps_ite (keeps_closeRecord h) h)).plain rfl rfl rfl rfl
  · exact keeps_setSlot (keeps_ite (keeps_closeRecord h) h)

theorem keeps_discardRecords {mark : RecSum → RecSum} (h : Keeps s0 u) : Keeps s0 (discardRecords mark u) :=
  h.plain rfl rfl rfl rfl

theorem keeps_opRecConfig (h : Keeps s0 u) : Keeps s0 (opRecConfig c ws u) := by
  unfold opRecConfig
  refine keeps_modeGate (fun _ hv => ?_) h
  split
  · exact keeps_answer _ _ _ hv
  · exact keeps_ite (keeps_answer _ _ _ hv) (keeps_answer _ _ _ (keeps_noteBudget (keeps_ite (keeps_noteConfig _
      (hv.plain rfl rfl rfl rfl)) (keeps_discardRecords (keeps_noteConfig _ (hv.plain rfl rfl rfl rfl))))))

theorem keeps_opRecTrigger (h : Keeps s0 u) : Keeps s0 (opRecTrigger c ws u) :=
  keeps_modeGate (fun _ hv => keeps_inModes _ _ (fun _ hw => keeps_refuseIf _ _ _ (fun _ hx => keeps_answer _ _ _
    (hx.plain rfl rfl rfl rfl)) hw) hv) h

theorem keeps_noteRead {num off words total : Nat} (h : Keeps s0 u) : Keeps s0 (noteRead num off words total u) := by
  unfold noteRead
  exact keeps_ite (h.plain rfl rfl rfl rfl) (keeps_ite (keeps_releaseRecord ((h.plain rfl rfl rfl rfl).plain rfl rfl rfl rfl))
    ((h.plain rfl rfl rfl rfl).plain rfl rfl rfl rfl))

theorem keeps_answerStream {stream : List Byte} {off words : Nat} {after : State → State} (hafter : ∀ v, Keeps s0 v → Keeps s0
    (after v)) (h : Keeps s0 u) : Keeps s0 (answerStream c stream off words after u) :=
  keeps_ite (keeps_answer _ _ _ h) (keeps_answer _ _ _ (hafter _ h))

theorem keeps_opRecRead (h : Keeps s0 u) : Keeps s0 (opRecRead c ws u) := by
  unfold opRecRead
  refine keeps_modeGate (fun _ hv => keeps_ite (keeps_answer _ _ _ hv) (keeps_ite (keeps_memoryRead (fun _ hw =>
    keeps_answerStream (fun _ hx => hx) hw) hv) ?_)) h
  split
  · exact keeps_answer _ _ _ hv
  · exact keeps_memoryRead (fun _ hw => keeps_answerStream (fun _ hx => keeps_noteRead hx) hw) hv

theorem keeps_opSoeRead (h : Keeps s0 u) : Keeps s0 (opSoeRead c ws u) :=
  keeps_modeGate (fun _ hv => keeps_refuseIf _ _ _ (fun _ hw => keeps_memoryRead (fun _ hx => keeps_answer _ _ _ hx) hw) hv) h

theorem keeps_ctrAdd (h : Keeps s0 u) : Keeps s0 (ctrAdd i n u) := keeps_dite (fun _ => h.plain rfl rfl rfl rfl) (fun _ => h)

theorem keeps_lifeCount (h : Keeps s0 u) : Keeps s0 (lifeCount u) := by
  unfold lifeCount
  exact keeps_ctrAdd (keeps_ctrAdd (keeps_ctrAdd (h.plain rfl rfl rfl rfl)))

theorem keeps_lifeSave (h : Keeps s0 u) : Keeps s0 (lifeSave u) := by
  unfold lifeSave
  extract_lets s1
  have h1 : Keeps s0 s1 := keeps_ctrAdd (keeps_drawFree (keeps_lifeCount h))
  exact (keeps_mapCells (fun _ c => { c with lifeSaved := c.life }) h1).plain rfl rfl rfl rfl

theorem keeps_opLifeRead (h : Keeps s0 u) : Keeps s0 (opLifeRead c ws u) :=
  keeps_modeGate (fun _ hv => keeps_refuseIf _ _ _ (fun _ hw => keeps_memoryRead (fun _ hx => keeps_ite
    (keeps_answer _ _ _ hx) (keeps_withCh _ _ (fun _ _ hy => keeps_answer _ _ _ hy) hx)) (keeps_lifeCount hw)) hv) h

/-! ### Images, owner and logic programs -/

theorem keeps_modSlot {f : Slot → Slot} (h : Keeps s0 u) : Keeps s0 (modSlot i f u) :=
  keeps_dite (fun _ => h.update rfl id id rfl) (fun _ => h.update rfl id id rfl)

theorem keeps_flashErase {region : Nat} (h : Keeps s0 u) : Keeps s0 (flashErase region n u) := by
  unfold flashErase
  exact keeps_ite (keeps_ctrAdd (keeps_ctrAdd (h.plain rfl rfl rfl rfl))) (keeps_ctrAdd (h.plain rfl rfl rfl rfl))

/-- A boot record that names the same unit keeps everything. -/
theorem keeps_writeBootRecord {f : Fw → Fw} (hf : SameUnit u { u with fw := f u.fw }) (h : Keeps s0 u) : Keeps s0
    (writeBootRecord f u) :=
  keeps_flashErase (h.other rfl rfl rfl hf)

theorem keeps_noteUpdate {status reason : Nat} (h : Keeps s0 u) : Keeps s0 (noteUpdate status reason ty slot u) :=
  h.update rfl id id rfl

theorem keeps_opImgBegin (h : Keeps s0 u) : Keeps s0 (opImgBegin c ws u) := by
  unfold opImgBegin
  refine keeps_inModes _ _ (fun _ hv => ?_) h
  have hslot {i n : Nat} := keeps_modSlot (i := i) (f := fun _ => {}) (keeps_flashErase (region := i) (n := n) hv)
  exact keeps_ite (keeps_answer _ _ _ hv) (keeps_ite (keeps_answer _ _ _ hv) (keeps_ite (keeps_answer _ _ _ hv)
    (keeps_ite (keeps_answer _ _ _ hv) (keeps_answer _ _ _ (keeps_dropPart (hslot.update rfl id id rfl))))))

theorem keeps_writeBlock {x : Xfer} {block : List Word} (h : Keeps s0 u) : Keeps s0 (writeBlock c n x block u) :=
  keeps_ite (keeps_answerFault _ _ _ h) (keeps_answer _ _ _ ((keeps_modSlot h).update rfl id id rfl))

theorem keeps_opImgBlock (h : Keeps s0 u) : Keeps s0 (opImgBlock c ws u) := by
  unfold opImgBlock
  refine keeps_inModes _ _ (fun _ hv => keeps_ite (keeps_answer _ _ _ hv) ?_) h
  split
  · exact keeps_answer _ _ _ hv
  · exact keeps_ite (keeps_answer _ _ _ hv) (keeps_takePart (fun _ _ hw => keeps_writeBlock hw) hv)

theorem keeps_opImgVerify (h : Keeps s0 u) : Keeps s0 (opImgVerify c ws u) :=
  keeps_inModes _ _ (fun _ hv => keeps_ite (keeps_answer _ _ _ hv) (keeps_ite (keeps_answer _ _ _ hv)
    (keeps_startOp _ _ hv))) h

theorem keeps_applyPatch (h : Keeps s0 u) : Keeps s0 (applyPatch u) := by
  unfold applyPatch
  exact keeps_modSlot (keeps_flashErase (keeps_drawFree h))

theorem keeps_finishVerify {o : LongOp} {v : VerifyResult} (h : Keeps s0 u) : Keeps s0 (finishVerify o v u) := by
  unfold finishVerify
  exact keeps_finishOp _ _ _ _ (keeps_noteUpdate (keeps_ite (keeps_ite (keeps_ite (keeps_applyPatch (keeps_modSlot h))
    (keeps_modSlot h)) (keeps_raiseFault _ _ (keeps_modSlot h))) (keeps_raiseFault _ _ (keeps_ite (keeps_ite (keeps_applyPatch
    (keeps_modSlot h)) (keeps_modSlot h)) (keeps_raiseFault _ _ (keeps_modSlot h))))))

/-- The counter takes the larger of its value and the image's: it does not fall (R470). -/
theorem keeps_raiseLgpCounter (h : Keeps s0 u) : Keeps s0 (raiseLgpCounter i u) :=
  h.other rfl rfl rfl ⟨rfl, rfl, rfl, rfl, Nat.le_refl _, Nat.le_max_left _ _⟩

theorem keeps_activate (h : Keeps s0 u) : Keeps s0 (activate ty slot u) := by
  unfold activate
  split
  · exact keeps_writeBootRecord (SameUnit.refl _) h
  · exact keeps_raiseLgpCounter (keeps_writeBootRecord (SameUnit.refl _) h)
  · exact keeps_writeBootRecord (SameUnit.refl _) h
  · exact keeps_writeBootRecord (SameUnit.refl _) h

theorem keeps_finishActivate {r : CmdRef} {dig : List Word} (h : Keeps s0 u) : Keeps s0 (finishActivate r ty slot dig u) :=
  keeps_ite (keeps_finishOp _ _ _ _ (keeps_noteUpdate h)) (keeps_ite (keeps_finishOp _ _ _ _ (keeps_noteUpdate
    (keeps_activate h))) ((keeps_finishOp _ _ _ _ (keeps_noteUpdate (keeps_activate h))).plain rfl rfl rfl rfl))

theorem keeps_opImgActivate (h : Keeps s0 u) : Keeps s0 (opImgActivate c ws u) :=
  keeps_inModes _ _ (fun _ hv => keeps_ite (keeps_answer _ _ _ hv) (keeps_ite (keeps_answer _ _ _ hv) (keeps_ite
    (keeps_answer _ _ _ hv) (keeps_finishActivate (keeps_startOp _ _ hv))))) h

theorem keeps_enrol {sigOk : Bool} {rec : List Word} (h : Keeps s0 u) : Keeps s0 (enrol c sigOk rec u) := by
  unfold enrol
  exact keeps_ite (keeps_answer _ _ _ h) (keeps_ite (keeps_finishOp _ _ _ _ (keeps_flashErase
    ((keeps_startOp _ _ h).update rfl id id rfl))) (keeps_finishOp _ _ _ _ (keeps_startOp _ _ h)))

theorem keeps_opOwnerEnrol {sigOk : Bool} (h : Keeps s0 u) : Keeps s0 (opOwnerEnrol c ws sigOk u) :=
  keeps_modeGate (fun _ hv => keeps_ite (keeps_answer _ _ _ hv) (keeps_ite (keeps_answer _ _ _ hv) (keeps_takePart
    (fun _ _ hw => keeps_enrol hw) hv))) h

theorem keeps_opAttest (h : Keeps s0 u) : Keeps s0 (opAttest c ws u) := by
  unfold opAttest
  refine keeps_modeGate (fun _ hv => keeps_ite (keeps_answer _ _ _ hv) (keeps_ite (keeps_answer _ _ _ hv) (keeps_ite ?_
    (keeps_ite (keeps_answer _ _ _ hv) (keeps_ite (keeps_answer _ _ _ hv) (keeps_startOp _ _ (hv.update rfl id id rfl))))))) h
  split
  · exact keeps_answer _ _ _ hv
  · exact keeps_ite (keeps_answer _ _ _ hv) (keeps_answer _ _ _ hv)

theorem keeps_opLpStage (h : Keeps s0 u) : Keeps s0 (opLpStage c ws u) :=
  keeps_modeGate (fun _ hv => keeps_ite (keeps_answer _ _ _ hv) (keeps_ite (keeps_answer _ _ _ hv) (keeps_ite
    (keeps_answer _ _ _ hv) (keeps_startOp _ _ (hv.update rfl id id rfl))))) h

theorem keeps_finishStage {o : LongOp} {flashOk : Bool} (h : Keeps s0 u) : Keeps s0 (finishStage o flashOk u) := by
  unfold finishStage
  refine keeps_ite (keeps_finishOp _ _ _ _ (keeps_raiseFault _ _ h)) ?_
  split
  · exact keeps_finishOp _ _ _ _ h
  · exact keeps_finishOp _ _ _ _ (h.update rfl id id rfl)

theorem keeps_noteLgpVer (h : Keeps s0 u) : Keeps s0 (noteLgpVer u) := h.update rfl id id rfl

theorem keeps_activateNow {r : CmdRef} {online : Bool} (h : Keeps s0 u) : Keeps s0 (activateNow r online u) :=
  keeps_finishOp _ _ _ _ (keeps_noteLgpVer (keeps_swapPrograms h))

theorem keeps_opLpActivate (h : Keeps s0 u) : Keeps s0 (opLpActivate c ws u) := by
  unfold opLpActivate
  refine keeps_inModes _ _ (fun _ hv => keeps_ite (keeps_answer _ _ _ hv) (keeps_ite (keeps_answer _ _ _ hv) ?_)) h
  split
  · exact keeps_answer _ _ _ hv
  · exact keeps_ite (keeps_answer _ _ _ hv) (keeps_ite (keeps_answer _ _ _ hv) (keeps_ite
      ((keeps_startOp _ _ hv).update rfl id id rfl) (keeps_activateNow (keeps_startOp _ _ hv))))

theorem keeps_opLpStats (h : Keeps s0 u) : Keeps s0 (opLpStats c ws u) :=
  keeps_modeGate (fun _ hv => keeps_refuseIf _ _ _ (fun _ hw => keeps_answer _ _ _ (keeps_ite
    (hw.update rfl id id rfl) hw)) hv) h

theorem keeps_opLpReadVar (h : Keeps s0 u) : Keeps s0 (opLpReadVar c ws u) := by
  unfold opLpReadVar
  refine keeps_inModes _ _ (fun _ hv => keeps_ite (keeps_answer _ _ _ hv) ?_) h
  split
  · exact keeps_answer _ _ _ hv
  · exact keeps_answer _ _ _ hv

/-! ### The idle cycle -/

theorem keeps_idleCycle (h : Keeps s0 u) : Keeps s0 (idleCycle u) := by
  unfold idleCycle
  exact keeps_ite ((h.plain rfl rfl rfl rfl).plain rfl rfl rfl rfl) (h.plain rfl rfl rfl rfl)

end

end Sys2Proof.Machine
end

section
/-! PROOF. What keeps the invariant and the unit: time, network, culvert and group (chapters 5, 13 and 14). -/

namespace Sys2Proof.Machine

open Sys2Proof

section
variable {s0 u : State} {c : Ctx} {ws : List Word} {port : NetPort} {d : FrameDef} {f : GooseFrame} {i : Fin 64} {off : Int}
  {key : Option (BitVec 64)} {ok fromB : Bool} {a : GroupAct} {k : SubRef} {img : CasImage} {n : Nat}

/-! ### The spring -/

theorem keeps_deactivateFor {code : Nat} (h : Keeps s0 u) : Keeps s0 (deactivateFor code u) := by
  unfold deactivateFor
  split
  · exact keeps_ite h (keeps_raiseFault _ _ (h.update rfl id id rfl))
  · exact h

theorem keeps_opSetTick (h : Keeps s0 u) : Keeps s0 (opSetTick c ws u) :=
  keeps_modeGate (fun _ hv => keeps_ite (keeps_answer _ _ _ hv) (keeps_ite (keeps_answer _ _ _ hv) (keeps_finishOpt _ _ _ _
    (keeps_modSpring _ (keeps_startOp _ _ (keeps_noteConfig _ hv)))))) h

theorem keeps_setSpring {st : SpringState} (h : Keeps s0 u) : Keeps s0 (setSpring st u) := by
  unfold setSpring
  refine keeps_ite h ?_
  extract_lets _ s1 s2
  have h2 : Keeps s0 s2 := keeps_evtRaise _ (keeps_modSpring _ h)
  exact keeps_ite (keeps_clearFault _ (keeps_clearFault _ (h2.plain rfl rfl rfl rfl))) h2

theorem keeps_enterHoldover (h : Keeps s0 u) : Keeps s0 (enterHoldover u) :=
  keeps_raiseFault _ _ (keeps_setSpring (keeps_modSpring _ h))

theorem keeps_decideStep {amount : Int} (h : Keeps s0 u) : Keeps s0 (decideStep amount u) := keeps_modSpring _ h

theorem keeps_decideSlew (h : Keeps s0 u) : Keeps s0 (decideSlew off u) := keeps_modSpring _ h

theorem keeps_measureState (h : Keeps s0 u) : Keeps s0 (measureState off u) := by
  have acquire : Keeps s0 (setSpring .acquiring (modSpring (fun p => { p with acqFrom := p.state, good := 0 }) u)) :=
    keeps_setSpring (keeps_modSpring _ h)
  unfold measureState
  dsimp only
  split
  · exact acquire
  · exact acquire
  · exact keeps_ite (keeps_setSpring h) acquire
  · exact h
  · exact h

theorem keeps_countGood {stepped : Bool} (h : Keeps s0 u) : Keeps s0 (countGood off stepped u) :=
  keeps_ite (keeps_ite (keeps_setSpring (keeps_modSpring _ h)) (keeps_modSpring _ h)) h

theorem keeps_measure (h : Keeps s0 u) : Keeps s0 (measure off u) := by
  unfold measure
  extract_lets _ s1 s2
  have h1 : Keeps s0 s1 := keeps_measureState (keeps_modSpring _ h)
  have h2 : Keeps s0 s2 := keeps_ite (keeps_decideStep h1) (keeps_ite h1 (keeps_decideSlew h1))
  exact keeps_countGood (keeps_modSpring _ h2)

theorem keeps_noteFreq {freq : Int} (h : Keeps s0 u) : Keeps s0 (noteFreq freq u) := by
  unfold noteFreq
  exact keeps_ite (keeps_raiseFault _ _ (keeps_modSpring _ h)) (keeps_ite (keeps_modSrc _ _ (keeps_modSpring _ h) (fun _ =>
    ⟨id, rfl, rfl⟩)) (keeps_modSpring _ h))

theorem keeps_opClockSet (h : Keeps s0 u) : Keeps s0 (opClockSet c ws u) := by
  unfold opClockSet
  refine keeps_modeGate (fun _ hv => ?_) h
  split
  · exact keeps_ite (keeps_answer _ _ _ hv) (keeps_ite (keeps_answer _ _ _ (keeps_ite (keeps_modSpring _ (keeps_decideStep
      (keeps_modSpring _ hv))) (keeps_decideStep (keeps_modSpring _ hv)))) (keeps_answer _ _ _ hv))
  · exact keeps_answer _ _ _ hv

theorem keeps_modPort {p : NetPort} {f : Port → Port} (h : Keeps s0 u) : Keeps s0 (modPort p f u) := by
  unfold modPort
  split
  · exact h.plain rfl rfl rfl rfl
  · exact h.plain rfl rfl rfl rfl

theorem keeps_setRoles {f : NetPort → Nat} (h : Keeps s0 u) : Keeps s0 (setRoles f u) := by
  unfold setRoles
  exact h.plain rfl rfl rfl rfl

theorem keeps_selectMaster (h : Keeps s0 u) : Keeps s0 (selectMaster u) := by
  unfold selectMaster
  refine keeps_ite (keeps_setRoles (h.plain rfl rfl rfl rfl)) ?_
  split
  · exact keeps_setRoles (h.plain rfl rfl rfl rfl)
  · exact keeps_setRoles h

theorem keeps_takeUtc {a : Announce} (h : Keeps s0 u) : Keeps s0 (takeUtc a u) := keeps_ite (keeps_modSpring _ h) h

theorem keeps_countTx (h : Keeps s0 u) : Keeps s0 (countTx port u) := keeps_modPort h

theorem keeps_putFrame {seq : Option Nat} {express : Bool} {f : SentFrame} {p : NetPort} (h : Keeps s0 u) : Keeps s0
    (putFrame seq express f u p) :=
  keeps_countTx (h.plain rfl rfl rfl rfl)

theorem keeps_sendOn {ports : List NetPort} {f : SentFrame} (h : Keeps s0 u) : Keeps s0 (sendOn ports f u) := by
  unfold sendOn
  exact keeps_ite h (keeps_ite (keeps_foldl (h.plain rfl rfl rfl rfl) (fun _ _ hv => keeps_putFrame hv)) (keeps_foldl h
    (fun _ _ hv => keeps_putFrame hv)))

theorem keeps_opPtpConfig (h : Keeps s0 u) : Keeps s0 (opPtpConfig c ws u) := by
  unfold opPtpConfig
  refine keeps_modeGate (fun _ hv => ?_) h
  split
  · exact keeps_answer _ _ _ hv
  · exact keeps_answer _ _ _ (keeps_selectMaster (keeps_noteConfig _ (hv.plain rfl rfl rfl rfl)))

theorem keeps_stampEdge (h : Keeps s0 u) : Keeps s0 (stampEdge u) := keeps_modSpring _ h

theorem keeps_checkAgree {diff : Nat} (h : Keeps s0 u) : Keeps s0 (checkAgree diff u) :=
  keeps_ite (keeps_ite (keeps_modSrc _ _ h (fun _ => ⟨id, rfl, rfl⟩)) (keeps_raiseFault _ _ (keeps_modSrc _ _ h (fun _ =>
    ⟨id, rfl, rfl⟩)))) (keeps_ite (keeps_ite (keeps_clearFault _ (keeps_modSrc _ _ h (fun _ => ⟨id, rfl, rfl⟩)))
    (keeps_modSrc _ _ h (fun _ => ⟨id, rfl, rfl⟩))) (keeps_modSrc _ _ h (fun _ => ⟨id, rfl, rfl⟩)))

theorem keeps_rejectEdge (h : Keeps s0 u) : Keeps s0 (rejectEdge u) := keeps_modSpring _ h

theorem keeps_ppsSource {errNs freq : Int} (h : Keeps s0 u) : Keeps s0 (ppsSource errNs freq u) :=
  keeps_ite (keeps_ite (keeps_raiseFault _ _ (keeps_rejectEdge (keeps_modSpring _ h))) (keeps_rejectEdge
    (keeps_modSpring _ h))) (keeps_measure (keeps_noteFreq (keeps_ite (keeps_checkAgree (keeps_clearFault _ (keeps_stampEdge
    (keeps_modSpring _ h)))) (keeps_clearFault _ (keeps_stampEdge (keeps_modSpring _ h))))))

theorem keeps_ppsMonitor {errNs : Int} (h : Keeps s0 u) : Keeps s0 (ppsMonitor errNs u) := by
  unfold ppsMonitor
  exact keeps_ite (keeps_ite (keeps_rejectEdge (keeps_stampEdge h)) (keeps_stampEdge h)) (keeps_ite (keeps_checkAgree
    (keeps_ite (keeps_rejectEdge (keeps_stampEdge h)) (keeps_stampEdge h))) (keeps_stampEdge h))

theorem keeps_sendTriggers (h : Keeps s0 u) : Keeps s0 (sendTriggers u) := keeps_mapCells _ h

theorem keeps_clockGoodSecond (h : Keeps s0 u) : Keeps s0 (clockGoodSecond u) :=
  keeps_ite (keeps_ite (keeps_clearFault _ (keeps_modSrc _ _ (keeps_modSrc _ _ h (fun _ => ⟨id, rfl, rfl⟩)) (fun _ =>
    ⟨id, rfl, rfl⟩))) (keeps_modSrc _ _ h (fun _ => ⟨id, rfl, rfl⟩))) h

/-! ### The station network -/

theorem keeps_restartPorts (h : Keeps s0 u) : Keeps s0 (restartPorts u) := by
  unfold restartPorts
  extract_lets _ _ s1 s2 s3
  have h1 : Keeps s0 s1 := keeps_selectMaster (h.plain rfl rfl rfl rfl)
  have h2 : Keeps s0 s2 := keeps_ite h1 (keeps_clearFault _ h1)
  have h3 : Keeps s0 s3 := keeps_ite h2 (keeps_clearFault _ h2)
  exact keeps_refreshLoss (keeps_ite h3 (keeps_clearFault _ h3))

theorem keeps_opNetConfig (h : Keeps s0 u) : Keeps s0 (opNetConfig c ws u) := by
  refine keeps_modeGate (fun v hv => ?_) h
  split
  · exact keeps_answer _ _ _ hv
  next cfg _ =>
    have accepted : Keeps s0 (noteBudget (noteConfig c.src { v with net := { v.net with cfg := cfg, applied := true } })) :=
      keeps_noteBudget (keeps_noteConfig _ (hv.plain rfl rfl rfl rfl))
    have started := keeps_startOp c (newOp c 0x50 0 (par ws 1)) accepted
    dsimp only
    refine keeps_ite (keeps_answer _ _ _ hv) (keeps_ite (keeps_answer _ _ _ hv) (keeps_restartPorts ?_))
    exact started.plain rfl rfl rfl rfl

theorem keeps_countRx (h : Keeps s0 u) : Keeps s0 (countRx port u) := keeps_modPort h

theorem keeps_countFcs (h : Keeps s0 u) : Keeps s0 (countFcs port u) := by
  unfold countFcs
  exact keeps_raiseFault _ _ ((keeps_modPort h).plain rfl rfl rfl rfl)

theorem keeps_countDup (h : Keeps s0 u) : Keeps s0 (countDup port u) := by
  unfold countDup
  exact (keeps_modPort h).plain rfl rfl rfl rfl

theorem keeps_portHeard (h : Keeps s0 u) : Keeps s0 (portHeard port u) :=
  keeps_ite (keeps_ite (keeps_modPort h) (keeps_clearFault _ (keeps_modPort h))) h

theorem keeps_prpHeard (h : Keeps s0 u) : Keeps s0 (prpHeard port u) := keeps_ite (keeps_portHeard h) h

theorem keeps_modDup {key : BitVec 64} {f : DupEntry → DupEntry} (h : Keeps s0 u) : Keeps s0 (modDup key f u) :=
  h.plain rfl rfl rfl rfl

theorem keeps_dropDup {key : BitVec 64} (h : Keeps s0 u) : Keeps s0 (dropDup key u) := h.plain rfl rfl rfl rfl

theorem keeps_insertDup {key : BitVec 64} (h : Keeps s0 u) : Keeps s0 (insertDup key port u) := by
  unfold insertDup
  refine keeps_ite (h.plain rfl rfl rfl rfl) ?_
  split
  · exact h
  · exact keeps_ite (keeps_raiseFault _ _ ((h.plain rfl rfl rfl rfl).plain rfl rfl rfl rfl)) (h.plain rfl rfl rfl rfl)

theorem keeps_enterDup (h : Keeps s0 u) : Keeps s0 (enterDup key port u) := by
  unfold enterDup
  split
  · exact h
  · exact keeps_ite h (keeps_insertDup h)

theorem keeps_verifyDup {f : DupEntry → DupEntry} (h : Keeps s0 u) : Keeps s0 (verifyDup key port f u) := by
  unfold verifyDup
  split
  · exact h
  · exact keeps_modDup (keeps_enterDup h)

theorem keeps_failDup (h : Keeps s0 u) : Keeps s0 (failDup key port u) := by
  unfold failDup
  split
  · exact h
  · split
    · exact keeps_ite h (keeps_dropDup h)
    · exact h

theorem keeps_touchDup (h : Keeps s0 u) : Keeps s0 (touchDup key u) := by
  unfold touchDup
  split
  · exact h
  · exact keeps_modDup h

theorem keeps_forwardCopy {f : RingFrame} (h : Keeps s0 u) : Keeps s0 (forwardCopy f u) := by
  unfold forwardCopy
  extract_lets out x copy _ s1 s2 _
  have h1 : Keeps s0 s1 := keeps_countTx (h.plain rfl rfl rfl rfl)
  have h2 : Keeps s0 s2 := keeps_modPort h1
  exact keeps_ite (h2.plain rfl rfl rfl rfl) h1

theorem keeps_modSub {f : GSub → GSub} (h : Keeps s0 u) : Keeps s0 (modSub k f u) := by
  unfold modSub
  split
  · exact h.plain rfl rfl rfl rfl
  · exact h.plain rfl rfl rfl rfl

theorem keeps_subHealth (h : Keeps s0 u) : Keeps s0 (subHealth u) := by
  unfold subHealth
  exact keeps_ite (keeps_clearFault _ (keeps_ite (keeps_clearFault _ h) h)) (keeps_ite (keeps_clearFault _ h) h)

theorem keeps_setConfErr (h : Keeps s0 u) : Keeps s0 (setConfErr k u) := by
  unfold setConfErr
  exact keeps_ite (keeps_modSub h) (keeps_raiseFault _ _ (keeps_modSub h))

theorem keeps_expireSub (h : Keeps s0 u) : Keeps s0 (expireSub u k) := by
  unfold expireSub
  exact keeps_ite (keeps_raiseFault _ _ (keeps_modSub h)) h

theorem keeps_expireSubs (h : Keeps s0 u) : Keeps s0 (expireSubs u) :=
  keeps_foldl (keeps_foldl h (fun _ _ hv => keeps_expireSub hv)) (fun _ _ hv => keeps_expireSub hv)

theorem keeps_gooseWords (h : Keeps s0 u) : Keeps s0 (gooseWords f u i) := by
  unfold gooseWords
  dsimp only
  split
  · exact h
  · exact keeps_ite (keeps_remoteSpeculative (keeps_modSub h)) h

theorem keeps_gooseJudge (h : Keeps s0 u) : Keeps s0 (gooseJudge f i d u) := by
  unfold gooseJudge
  dsimp only
  split
  · exact keeps_remoteVerified (keeps_modSub h)
  · exact keeps_setConfErr (keeps_remoteReverted h)
  · exact keeps_modSub (keeps_remoteReverted h)
  · exact keeps_remoteReverted h

theorem keeps_gooseFresh (h : Keeps s0 u) : Keeps s0 (gooseFresh f i d u) := keeps_ite (keeps_modSub h) (keeps_gooseJudge h)

theorem keeps_gooseRelease (h : Keeps s0 u) : Keeps s0 (gooseRelease i d u) :=
  keeps_foldl (keeps_modSub h) (fun _ _ hv => keeps_verifyDup (keeps_gooseFresh hv))

theorem keeps_gooseCheck (h : Keeps s0 u) : Keeps s0 (gooseCheck f ok u i) := by
  unfold gooseCheck
  dsimp only
  split
  · exact h
  · refine keeps_ite h ?_
    split
    · exact keeps_ite (keeps_ite (keeps_gooseRelease (keeps_verifyDup (keeps_gooseJudge (keeps_modSub h))))
        (keeps_gooseRelease (keeps_failDup (keeps_remoteReverted (keeps_modSub h))))) (keeps_ite (keeps_modSub h) h)
    · exact keeps_ite (keeps_gooseFresh h) h

theorem keeps_gooseEnd (h : Keeps s0 u) : Keeps s0 (gooseEnd f ok u) := by
  unfold gooseEnd
  extract_lets s1 s2 _ _ s3
  have h1 : Keeps s0 s1 := keeps_countRx h
  have h2 : Keeps s0 s2 := keeps_ite (keeps_prpHeard h1) (keeps_countFcs h1)
  have h3 : Keeps s0 s3 := keeps_foldl h2 (fun _ _ hv => keeps_gooseCheck hv)
  exact keeps_ite (keeps_countDup (keeps_touchDup h3)) (keeps_ite (keeps_ite h3 (keeps_verifyDup h3)) (keeps_failDup h3))

theorem keeps_mirrorWords {f : MirrorFrame} {i : Fin 16} (h : Keeps s0 u) : Keeps s0 (mirrorWords f u i) := by
  unfold mirrorWords
  dsimp only
  split
  · exact h
  · exact keeps_ite (keeps_remoteSpeculative (keeps_modSub h)) h

theorem keeps_mirrorJudge {f : MirrorFrame} {i : Fin 16} (h : Keeps s0 u) : Keeps s0 (mirrorJudge f i d u) := by
  unfold mirrorJudge
  dsimp only
  split
  · exact keeps_remoteVerified (keeps_modSub h)
  · exact keeps_setConfErr (keeps_remoteReverted h)
  · exact keeps_remoteReverted h
  · exact keeps_remoteReverted h

theorem keeps_mirrorFresh {f : MirrorFrame} {i : Fin 16} (h : Keeps s0 u) : Keeps s0 (mirrorFresh f i d u) :=
  keeps_ite (keeps_modSub h) (keeps_mirrorJudge h)

theorem keeps_mirrorRelease {i : Fin 16} (h : Keeps s0 u) : Keeps s0 (mirrorRelease i d u) :=
  keeps_foldl (keeps_modSub h) (fun _ _ hv => keeps_verifyDup (keeps_mirrorFresh hv))

theorem keeps_mirrorCheck {f : MirrorFrame} {i : Fin 16} (h : Keeps s0 u) : Keeps s0 (mirrorCheck f ok u i) := by
  unfold mirrorCheck
  dsimp only
  split
  · exact h
  · refine keeps_ite h ?_
    split
    · exact keeps_ite (keeps_ite (keeps_mirrorRelease (keeps_verifyDup (keeps_mirrorJudge (keeps_modSub h))))
        (keeps_mirrorRelease (keeps_failDup (keeps_remoteReverted (keeps_modSub h))))) (keeps_ite (keeps_modSub h) h)
    · exact keeps_ite (keeps_mirrorFresh h) h

theorem keeps_mirrorBad {fcs : Bool} (h : Keeps s0 u) : Keeps s0 (mirrorBad fcs port u) :=
  keeps_ite (keeps_raiseFault _ _ h) (keeps_countFcs h)

theorem keeps_mirrorEnd {f : MirrorFrame} {fcs : Bool} (h : Keeps s0 u) : Keeps s0 (mirrorEnd f fcs u) := by
  unfold mirrorEnd
  extract_lets _ s1 s2 _ _ s3
  have h1 : Keeps s0 s1 := keeps_countRx h
  have h2 : Keeps s0 s2 := keeps_ite (keeps_prpHeard h1) (keeps_mirrorBad h1)
  have h3 : Keeps s0 s3 := keeps_foldl h2 (fun _ _ hv => keeps_mirrorCheck hv)
  exact keeps_ite (keeps_countDup (keeps_touchDup h3)) (keeps_ite (keeps_ite h3 (keeps_verifyDup h3)) (keeps_failDup h3))

theorem keeps_setDef {kind idx : Nat} {d : Option FrameDef} (h : Keeps s0 u) : Keeps s0 (setDef kind idx d u) := by
  unfold setDef
  exact h.update rfl id id rfl

theorem keeps_defineFrame {kind idx : Nat} {d : Option FrameDef} (h : Keeps s0 u) : Keeps s0 (defineFrame c kind idx d u) :=
  keeps_ite (keeps_answer _ _ _ h) (keeps_answer _ _ _ (keeps_subHealth (keeps_noteConfig _ (keeps_setDef h))))

theorem keeps_opFrameDef (h : Keeps s0 u) : Keeps s0 (opFrameDef c ws u) :=
  keeps_modeGate (fun _ hv => keeps_ite (keeps_answer _ _ _ hv) (keeps_ite (keeps_answer _ _ _ hv) (keeps_ite
    (keeps_answer _ _ _ hv) (keeps_ite (keeps_ite (keeps_defineFrame hv) (keeps_answer _ _ _ hv)) (keeps_ite
    (keeps_answer _ _ _ hv) (keeps_takePart (fun _ _ hw => keeps_ite (keeps_defineFrame hw)
    (keeps_answer _ _ _ hw)) hv)))))) h

theorem keeps_opNetStats (h : Keeps s0 u) : Keeps s0 (opNetStats c ws u) :=
  keeps_modeGate (fun _ hv => keeps_ite (keeps_answer _ _ _ hv) (keeps_answer _ _ _ (keeps_ite
    (hv.plain rfl rfl rfl rfl) hv))) h

theorem keeps_rateLimit {k : State → State} (hk : ∀ v, Keeps s0 v → Keeps s0 (k v)) (h : Keeps s0 u) : Keeps s0
    (rateLimit k u) := by
  unfold rateLimit
  exact keeps_ite (hk _ ((h.plain rfl rfl rfl rfl).plain rfl rfl rfl rfl)) (keeps_raiseFault _ _
    ((h.plain rfl rfl rfl rfl).plain rfl rfl rfl rfl))

theorem keeps_mgmtFrame {k : State → State} (hk : ∀ v, Keeps s0 v → Keeps s0 (k v)) (h : Keeps s0 u) : Keeps s0
    (mgmtFrame k u) :=
  keeps_ite (keeps_rateLimit (fun _ hv => hk _ hv) (keeps_wakeCore h)) h

theorem keeps_takeMessage1 {part : HsPart} (h : Keeps s0 u) : Keeps s0 (takeMessage1 part u) := by
  unfold takeMessage1
  exact keeps_ite (keeps_foldl ((keeps_drawFree h).plain rfl rfl rfl rfl) (fun _ _ hv => keeps_sendOn hv))
    (h.plain rfl rfl rfl rfl)

theorem keeps_failHandshake (h : Keeps s0 u) : Keeps s0 (failHandshake u) := h.plain rfl rfl rfl rfl

theorem keeps_openSession {id : BitVec 32} (h : Keeps s0 u) : Keeps s0 (openSession id u) := by
  unfold openSession
  exact keeps_ite (h.plain rfl rfl rfl rfl) (h.plain rfl rfl rfl rfl)

theorem keeps_takeMessage3 {part : HsPart} {sigOk : Bool} (h : Keeps s0 u) : Keeps s0 (takeMessage3 part sigOk u) := by
  unfold takeMessage3
  split
  · exact h
  · exact keeps_ite (keeps_failHandshake h) (keeps_ite h (keeps_ite (h.plain rfl rfl rfl rfl) (keeps_ite (keeps_openSession h)
      (keeps_failHandshake h))))

theorem keeps_closeSession {id : Nat} (h : Keeps s0 u) : Keeps s0 (closeSession id u) := h.plain rfl rfl rfl rfl

/-! ### Culvert and group -/

theorem keeps_applyCas {cfg : List (Nat × Int)} {m : Option (List Word)} (h : Keeps s0 u) : Keeps s0
    (applyCas c cfg m u) := by
  unfold applyCas
  exact keeps_ite (keeps_answer _ _ _ h) (keeps_answer _ _ _ (keeps_refreshLoss (keeps_noteBudget (keeps_noteConfig _
    (h.update rfl id id rfl)))))

theorem keeps_reclaim (h : Keeps s0 u) : Keeps s0 (reclaim c u) :=
  keeps_ite (keeps_answer _ _ _ h) (keeps_ite (keeps_answer _ _ _ h) (keeps_startOp _ _ (keeps_modCas _ h)))

theorem keeps_opCasConfig (h : Keeps s0 u) : Keeps s0 (opCasConfig c ws u) := by
  unfold opCasConfig
  refine keeps_ite (keeps_modeGate (fun _ hv => keeps_refuseIf _ _ _ (fun _ hw => keeps_reclaim hw) hv) h) (keeps_modeGate
    (fun _ hv => ?_) h)
  dsimp only
  split
  · exact keeps_answer _ _ _ hv
  · exact keeps_ite (keeps_answer _ _ _ hv) (keeps_applyCas hv)

theorem keeps_casWell (h : Keeps s0 u) : Keeps s0 (casWell u) := keeps_ite (keeps_clearFault _ h) h

theorem keeps_modPeer {i : Fin 8} {f : CasPeer → CasPeer} (h : Keeps s0 u) : Keeps s0 (modPeer i f u) := keeps_modCas _ h

theorem keeps_imageWords {i : Fin 8} (h : Keeps s0 u) : Keeps s0 (imageWords fromB img i u) := by
  unfold imageWords
  exact keeps_ite (keeps_remoteSpeculative (keeps_modPeer h)) h

theorem keeps_imageVerified {i : Fin 8} (h : Keeps s0 u) : Keeps s0 (imageVerified fromB img i u) :=
  keeps_ite h (keeps_ite (keeps_modPeer h) (keeps_remoteVerified (keeps_modPeer h)))

theorem keeps_imageRelease {i : Fin 8} (h : Keeps s0 u) : Keeps s0 (imageRelease fromB i u) := by
  unfold imageRelease
  split
  · exact keeps_imageVerified (keeps_modPeer h)
  · exact h

theorem keeps_imageEnd {i : Fin 8} (h : Keeps s0 u) : Keeps s0 (imageEnd fromB img ok i u) := by
  unfold imageEnd
  extract_lets _ t1
  have ht1 : Keeps s0 t1 := keeps_ite h (keeps_modCas _ h)
  exact keeps_ite (keeps_imageRelease (keeps_ite (keeps_imageVerified (keeps_modPeer ht1)) (keeps_remoteReverted
    (keeps_modPeer ht1)))) (keeps_ite ht1 (keeps_ite (keeps_modPeer ht1) (keeps_imageVerified ht1)))

theorem keeps_refreshPeers (h : Keeps s0 u) : Keeps s0 (refreshPeers u) := keeps_modCas _ h

theorem keeps_sendService (h : Keeps s0 u) : Keeps s0 (sendService u) := by
  unfold sendService
  exact keeps_modCas _ h

theorem keeps_groupWell (h : Keeps s0 u) : Keeps s0 (groupWell u) := keeps_ite (keeps_clearFault _ h) h

theorem keeps_opGroupConfig (h : Keeps s0 u) : Keeps s0 (opGroupConfig c ws u) := by
  unfold opGroupConfig
  refine keeps_modeGate (fun _ hv => keeps_ite (keeps_answer _ _ _ hv) ?_) h
  split
  · split
    · exact keeps_answer _ _ _ hv
    · exact keeps_ite (keeps_answer _ _ _ hv) (keeps_answer _ _ _ (keeps_groupWell (keeps_noteConfig _
        (hv.plain rfl rfl rfl rfl))))
  · exact keeps_ite (keeps_answer _ _ _ hv) (keeps_answer _ _ _ (keeps_noteConfig _ (hv.plain rfl rfl rfl rfl)))
  · exact keeps_ite (keeps_answer _ _ _ hv) (keeps_answer _ _ _ (keeps_noteConfig _ (hv.plain rfl rfl rfl rfl)))
  · exact keeps_answer _ _ _ hv

theorem keeps_modWorker {f : Worker → Worker} (h : Keeps s0 u) : Keeps s0 (modWorker n f u) := h.plain rfl rfl rfl rfl

theorem keeps_sendGroup {w : Worker} (h : Keeps s0 u) : Keeps s0 (sendGroup w ws u).1 := by
  unfold sendGroup
  extract_lets _ s1 s2
  have h2 : Keeps s0 s2 := keeps_modWorker (h.plain rfl rfl rfl rfl)
  split
  · split
    · exact h2.plain rfl rfl rfl rfl
    · exact h
  · exact keeps_sendOn h2

theorem keeps_sendUp {via : Option (Fin 8)} (h : Keeps s0 u) : Keeps s0 (sendUp via u ws) := by
  unfold sendUp
  dsimp only
  split
  · exact keeps_sendOn (h.plain rfl rfl rfl rfl)
  · exact (h.plain rfl rfl rfl rfl).plain rfl rfl rfl rfl

theorem keeps_flushGroup (h : Keeps s0 u) : Keeps s0 (flushGroup u) :=
  keeps_foldl (h.plain rfl rfl rfl rfl) (fun _ _ hv => keeps_sendUp hv)

theorem keeps_finishForward (h : Keeps s0 u) : Keeps s0 (finishForward a u) := by
  unfold finishForward
  exact keeps_finishOp _ _ _ _ (h.plain rfl rfl rfl rfl)

theorem keeps_failAction {bad : List Nat} (h : Keeps s0 u) : Keeps s0 (failAction a bad u) :=
  keeps_raiseFault _ _ (keeps_finishOp _ _ _ _ (h.plain rfl rfl rfl rfl))

theorem keeps_sendAll {ws : Worker → List Word} {l : List Nat} (h : Keeps s0 u) : Keeps s0 (sendAll ws l u).1 := by
  unfold sendAll
  refine List.foldlRecOn (motive := fun r : State × List Nat => Keeps s0 r.1) _ _ h fun r hr n _ => ?_
  split
  · exact keeps_sendGroup hr
  · exact hr

theorem keeps_commitAction {b : Nat} (h : Keeps s0 u) : Keeps s0 (commitAction a b u) := by
  unfold commitAction
  refine keeps_ite (keeps_ite (keeps_finishForward h) ?_) (keeps_finishForward (keeps_sendAll h))
  have sent : ∀ ws l, Keeps s0 (sendAll ws l u).1 := fun _ _ => keeps_sendAll h
  exact (sent _ _).plain rfl rfl rfl rfl

theorem keeps_advanceAction (h : Keeps s0 u) : Keeps s0 (advanceAction a u) := by
  unfold advanceAction
  refine keeps_ite (h.plain rfl rfl rfl rfl) ?_
  split
  · exact keeps_finishForward h
  · exact keeps_ite (keeps_commitAction h) (keeps_failAction h)
  · exact keeps_commitAction h

theorem keeps_workerAnswers {status : Nat} {payload : List Word} (h : Keeps s0 u) : Keeps s0
    (workerAnswers n status payload u) := by
  unfold workerAnswers
  split
  · exact h
  · exact keeps_ite (keeps_advanceAction h) h

theorem keeps_startForward {named : List Nat} {coord stagger : Bool} {lead : Nat} {packet : List Word} (h : Keeps s0 u) :
    Keeps s0 (startForward c named coord stagger lead packet u) := by
  unfold startForward
  extract_lets s1 a s2 r
  have h1 : Keeps s0 s1 := keeps_startOp _ _ h
  have h2 : Keeps s0 s2 := keeps_ite h1 (keeps_foldl h1 fun _ _ hv => keeps_modWorker hv)
  have hr : Keeps s0 r.1 := keeps_sendAll h2
  exact keeps_foldl (hr.plain rfl rfl rfl rfl) fun _ _ hv => keeps_workerAnswers hv

theorem keeps_opGroupForward (h : Keeps s0 u) : Keeps s0 (opGroupForward c ws u) :=
  keeps_modeGate (fun _ hv => keeps_ite (keeps_answer _ _ _ hv) (keeps_ite (keeps_answer _ _ _ hv) (keeps_ite
    (keeps_answer _ _ _ hv) (keeps_startForward hv)))) h

theorem keeps_takeSummary (h : Keeps s0 u) : Keeps s0 (takeSummary n ws u) := by
  unfold takeSummary
  dsimp only
  split
  · exact keeps_ite (keeps_advanceAction (keeps_groupWell (keeps_modWorker h))) (keeps_groupWell (keeps_modWorker h))
  · exact keeps_groupWell (keeps_modWorker h)

end

end Sys2Proof.Machine
end

section
/-! PROOF. What keeps the invariant and the unit: modes, the commit and the system commands (chapters 4, 12 and 17). -/

namespace Sys2Proof.Machine

open Sys2Proof

section
variable {s0 u : State} {c : Ctx} {ws : List Word} {ch : Ch} {o : LongOp} {m old : Mode} {why : Nat} {f : GPub → GPub}

/-! ### Modes -/

theorem keeps_abortCell (h : Keeps s0 u) : Keeps s0 (abortCell o ch u) := by
  unfold abortCell
  split
  · exact keeps_ite (keeps_diReconnect h) (keeps_modCell _ _ h)
  · exact keeps_hartAbort (keeps_modCell _ _ h)
  · exact keeps_ite (keeps_modCell _ _ h) h
  · exact keeps_modCell _ _ h
  · exact keeps_restoreConfig (keeps_modCell _ _ h)

theorem keeps_abortModule (h : Keeps s0 u) : Keeps s0 (abortModule o u) := by
  unfold abortModule
  split
  · exact keeps_modMd _ h
  · exact keeps_ite (keeps_ite h (keeps_modMd _ h)) (keeps_modMd _ h)
  · exact keeps_modSpring _ h
  · exact h.update rfl id id rfl
  · exact h.plain rfl rfl rfl rfl
  · exact keeps_modCas _ h
  · exact h.plain rfl rfl rfl rfl
  · exact h.update rfl id id rfl
  · exact h

theorem keeps_abortEffects (h : Keeps s0 u) : Keeps s0 (abortEffects o u) :=
  keeps_abortModule (keeps_foldl h (fun _ _ hv => keeps_ite (keeps_abortCell hv) hv))

theorem keeps_abortOp (h : Keeps s0 u) : Keeps s0 (abortOp o u) := keeps_finishOp _ _ _ _ (keeps_abortEffects h)

theorem keeps_abortUnaccepted (h : Keeps s0 u) : Keeps s0 (abortUnaccepted u) :=
  keeps_foldl h (fun _ _ hv => keeps_abortOp hv)

theorem keeps_engineStop (h : Keeps s0 u) : Keeps s0 (engineStop u) := by
  unfold engineStop
  extract_lets _ s1 s2
  have h1 : Keeps s0 s1 := keeps_engWf h id
  have h2 : Keeps s0 s2 := by
    unfold s2
    split
    · exact keeps_activateNow h1
    · exact h1
  split
  · exact keeps_finishOp _ _ _ _ (keeps_noteLgpVer (keeps_engWf h2 id))
  · exact h2

theorem keeps_releaseAll (h : Keeps s0 u) : Keeps s0 (releaseAll u) := keeps_mapCells _ h

theorem keeps_releaseStorm (h : Keeps s0 u) : Keeps s0 (releaseStorm u) :=
  keeps_clearFault _ (keeps_modMd _ (h.plain rfl rfl rfl rfl))

theorem keeps_leaveMode (h : Keeps s0 u) : Keeps s0 (leaveMode m u) := by
  unfold leaveMode
  extract_lets _ t1 t2 t3 _ t4
  have ht1 : Keeps s0 t1 := keeps_ite (keeps_engineStop h) h
  have ht2 : Keeps s0 t2 := keeps_ite (keeps_releaseAll ht1) ht1
  have ht3 : Keeps s0 t3 := keeps_ite (keeps_closeRecord ht2) ht2
  have ht4 : Keeps s0 t4 := keeps_ite (keeps_modMd _ (ht3.plain rfl rfl rfl rfl)) ht3
  exact keeps_ite (keeps_releaseStorm ht4) ht4

theorem keeps_sendHoldover (h : Keeps s0 u) : Keeps s0 (sendHoldover ch u) := by
  unfold sendHoldover
  exact keeps_ite (keeps_startWrite h) h

theorem keeps_enterService (h : Keeps s0 u) : Keeps s0 (enterService old u) := by
  unfold enterService
  exact keeps_ite (keeps_foldl (keeps_modMd _ h) (fun _ _ hv => keeps_sendHoldover hv)) (keeps_modMd _ h)

theorem keeps_enterQuiesce (h : Keeps s0 u) : Keeps s0 (enterQuiesce old why u) :=
  keeps_modMd _ (keeps_modPwr _ (keeps_ite (keeps_mapCells _ h) h) id)

theorem keeps_resumeSelfcal (h : Keeps s0 u) : Keeps s0 (resumeSelfcal u) := keeps_mapCells _ h

theorem keeps_enterArmed (h : Keeps s0 u) : Keeps s0 (enterArmed u) := keeps_modMd _ h

/-- The confirmed image raises the counter to its own number where that is larger (R470). -/
theorem keeps_confirmTrial (h : Keeps s0 u) : Keeps s0 (confirmTrial u) :=
  keeps_ite (keeps_writeBootRecord ⟨rfl, rfl, rfl, rfl, Nat.le_max_left _ _, Nat.le_refl _⟩ (keeps_modSlot h)) h

theorem keeps_restartPublications (h : Keeps s0 u) : Keeps s0 (restartPublications u) := h.plain rfl rfl rfl rfl

theorem keeps_enterFactory (h : Keeps s0 u) : Keeps s0 (enterFactory u) := h.plain rfl rfl rfl rfl

theorem keeps_arriveMode (h : Keeps s0 u) : Keeps s0 (arriveMode old why u) := by
  unfold arriveMode
  extract_lets m t1 t2
  have h1 : Keeps s0 t1 := keeps_ite (keeps_engineStart h) h
  have h2 : Keeps s0 t2 := keeps_ite (keeps_restartPublications h1) h1
  clear_value t2 t1 m
  split
  · exact keeps_ite (keeps_resumeSelfcal h2) h2
  · exact keeps_enterArmed (keeps_confirmTrial h2)
  · exact keeps_enterQuiesce h2
  · exact keeps_ite h2 (keeps_enterService h2)
  · exact keeps_modMd _ h2
  · exact keeps_modMd _ h2
  · exact keeps_modMd _ h2
  · exact keeps_enterFactory h2
  all_goals exact h2

theorem keeps_enterMode (h : Keeps s0 u) : Keeps s0 (enterMode m why u) := by
  unfold enterMode
  exact keeps_arriveMode (keeps_abortUnaccepted (keeps_soeSystem (keeps_evtRaise _ (keeps_modMd _ (keeps_leaveMode h)))))

theorem keeps_dropTrigger {x : PendMode} (h : Keeps s0 u) : Keeps s0 (dropTrigger u x) := by
  unfold dropTrigger
  split
  · exact keeps_finishOp _ _ _ _ h
  · exact h
  · exact h
  · exact h
  · exact h
  · exact h

theorem keeps_actTrigger {p : PendMode} (h : Keeps s0 u) : Keeps s0 (actTrigger p u) := by
  unfold actTrigger
  extract_lets _ _ s1 s2 _ _ s3
  have h1 : Keeps s0 s1 := keeps_modMd _ h
  have h2 : Keeps s0 s2 := keeps_foldl h1 (fun _ _ hv => keeps_dropTrigger hv)
  have h3 : Keeps s0 s3 := keeps_ite (keeps_enterMode h2) h2
  split
  · exact keeps_ite (keeps_finishOp _ _ _ _ h3) (keeps_finishOp _ _ _ _ h3)
  · exact h3
  · exact h3
  · exact h3
  · exact h3
  · exact h3

theorem keeps_leaveQuiesce (h : Keeps s0 u) : Keeps s0 (leaveQuiesce u) := by
  unfold leaveQuiesce
  exact keeps_modMd _ (keeps_enterMode h)

theorem keeps_modeCommit (h : Keeps s0 u) : Keeps s0 (modeCommit u) := by
  unfold modeCommit
  refine keeps_ite (keeps_ite (keeps_leaveQuiesce h) h) ?_
  dsimp only
  split
  · exact keeps_actTrigger (keeps_modMd _ h)
  · exact keeps_modMd _ h

theorem keeps_finishQuiesce {status : Nat} (h : Keeps s0 u) : Keeps s0 (finishQuiesce status u) :=
  keeps_foldl h (fun _ _ hv => keeps_finishOp _ _ _ _ hv)

theorem keeps_removalAck (h : Keeps s0 u) : Keeps s0 (removalAck u) := keeps_ite (keeps_finishQuiesce (keeps_modPwr _ h id)) h

theorem keeps_requestRemoval {byCmd hold : Bool} (h : Keeps s0 u) : Keeps s0 (requestRemoval byCmd hold u) :=
  keeps_decideMode _ (keeps_modPwr _ h id)

theorem keeps_cancelRemoval (h : Keeps s0 u) : Keeps s0 (cancelRemoval u) := by
  unfold cancelRemoval
  exact keeps_ite (keeps_modMd _ (keeps_finishQuiesce (keeps_modPwr _ h id))) (keeps_modMd _ (keeps_finishQuiesce
    (keeps_modPwr _ h id)))

theorem keeps_flushMram (h : Keeps s0 u) : Keeps s0 (flushMram u) := keeps_modPwr _ (keeps_lifeSave h) id

/-! ### Publications -/

theorem keeps_sendDefined {d : FrameDef} {f : SentFrame} (h : Keeps s0 u) : Keeps s0 (sendDefined d f u) := keeps_sendOn h

theorem keeps_modGpub {i : Fin 16} (h : Keeps s0 u) : Keeps s0 (modGpub i f u) := h.plain rfl rfl rfl rfl

theorem keeps_goosePublish {i : Fin 16} (h : Keeps s0 u) : Keeps s0 (goosePublish u i) := by
  unfold goosePublish
  dsimp only
  split
  · exact h
  · exact keeps_ite (keeps_sendDefined (keeps_modGpub h)) h

theorem keeps_modSv {i : Fin 4} (h : Keeps s0 u) : Keeps s0 (modSv i f u) := h.plain rfl rfl rfl rfl

theorem keeps_svPublish {i : Fin 4} (h : Keeps s0 u) : Keeps s0 (svPublish u i) := by
  unfold svPublish
  dsimp only
  split
  · exact h
  · exact keeps_ite (keeps_sendDefined (keeps_modSv h)) (keeps_modSv h)

theorem keeps_modMpub {i : Fin 8} (h : Keeps s0 u) : Keeps s0 (modMpub i f u) := h.plain rfl rfl rfl rfl

theorem keeps_mirrorPublish {i : Fin 8} (h : Keeps s0 u) : Keeps s0 (mirrorPublish u i) := by
  unfold mirrorPublish
  dsimp only
  split
  · exact h
  · exact keeps_sendDefined (keeps_modMpub h)

theorem keeps_mirrorStream {k : Nat} (h : Keeps s0 u) : Keeps s0 (mirrorStream u k) :=
  keeps_foldl h (fun _ _ hv => keeps_ite (keeps_mirrorPublish hv) hv)

theorem keeps_publishCommit (h : Keeps s0 u) : Keeps s0 (publishCommit u) :=
  keeps_ite (keeps_foldl (keeps_foldl h (fun _ _ hv => keeps_mirrorStream hv)) (fun _ _ hv => keeps_goosePublish hv)) h

theorem keeps_publishSv (h : Keeps s0 u) : Keeps s0 (publishSv u) :=
  keeps_ite (keeps_foldl h (fun _ _ hv => keeps_svPublish hv)) h

/-! ### Tick and commit -/

theorem keeps_goodCount {n : Fin 96} {lim : Nat} {good : Bool} (h : Keeps s0 u) : Keeps s0 (goodCount n lim good u) :=
  keeps_ite (keeps_ite (keeps_clearFault _ (keeps_modSrc _ _ h (fun _ => ⟨id, rfl, rfl⟩))) (keeps_modSrc _ _ h (fun _ =>
    ⟨id, rfl, rfl⟩))) (keeps_raiseFault _ _ (keeps_modSrc _ _ h (fun _ => ⟨id, rfl, rfl⟩)))

theorem keeps_advanceTick (h : Keeps s0 u) : Keeps s0 (advanceTick u) := by
  unfold advanceTick
  exact keeps_modCas _ (h.plain rfl rfl rfl rfl)

theorem keeps_settleSetTick (h : Keeps s0 u) : Keeps s0 (settleSetTick u) :=
  keeps_foldl h (fun _ _ hv => keeps_finishOp _ _ _ _ hv)

theorem keeps_discardOutputs (h : Keeps s0 u) : Keeps s0 (discardOutputs m u) := keeps_ite h (keeps_mapCells _ h)

theorem keeps_tickCell {tag : Nat} {x : SluiceIn} (h : Keeps s0 u) : Keeps s0 (tickCell tag x u ch) := by
  unfold tickCell
  exact keeps_modCell _ _ (keeps_ite (keeps_modCell _ _ h) (keeps_ite (keeps_modCell _ _ (keeps_cellMissed h)) (keeps_ite
    (keeps_cellMissed h) (keeps_joinMarker (keeps_writeMarker (keeps_cellMarker h))))))

theorem keeps_clearNew (h : Keeps s0 u) : Keeps s0 (clearNew u) := h.plain rfl rfl rfl rfl

theorem keeps_countCommit (h : Keeps s0 u) : Keeps s0 (countCommit u) := by
  unfold countCommit
  exact keeps_ite (keeps_removalAck (keeps_modPwr _ (keeps_ite (keeps_modMd _ h) h) id)) (keeps_ite (keeps_modMd _ h) h)

theorem keeps_sluiceCommit {x : SluiceIn} (h : Keeps s0 u) : Keeps s0 (sluiceCommit x u) :=
  keeps_ite (keeps_countCommit (keeps_subHealth (keeps_clearNew (keeps_refreshPeers (keeps_foldl (keeps_modeCommit
    (keeps_discardOutputs (keeps_soeTick (keeps_settleSetTick (keeps_advanceTick h))))) (fun _ _ hv =>
    keeps_tickCell hv)))))) h

theorem keeps_sendCasImage (h : Keeps s0 u) : Keeps s0 (sendCasImage u) := keeps_ite (keeps_modCas _ h) h

theorem keeps_missingResult (h : Keeps s0 u) : Keeps s0 (missingResult u ch) := by
  unfold missingResult
  exact keeps_ite (keeps_resultStale h) h

theorem keeps_releaseEngine (h : Keeps s0 u) : Keeps s0 (releaseEngine u) := keeps_ite (keeps_engineStart h) h

theorem keeps_logUser {codes : List Nat} (h : Keeps s0 u) : Keeps s0 (logUser codes u) := by
  unfold logUser
  exact (keeps_foldl h (fun _ _ hv => keeps_soeWrite _ hv)).plain rfl rfl rfl rfl

theorem keeps_commitFaults {p : Program} {fb : Bool} {late arith : Nat} (h : Keeps s0 u) : Keeps s0
    (commitFaults p fb late arith u) := by
  unfold commitFaults
  exact keeps_goodCount (keeps_levelFault _ _ _ (keeps_ite (keeps_clearFault _ (keeps_ite (keeps_ite
    (keeps_raiseFault _ _ h) h) (keeps_raiseFault _ _ (keeps_ite (keeps_raiseFault _ _ h) h)))) (keeps_raiseFault _ _
    (keeps_ite (keeps_ite (keeps_raiseFault _ _ h) h) (keeps_raiseFault _ _ (keeps_ite (keeps_raiseFault _ _ h) h))))))

theorem keeps_finishOnline (h : Keeps s0 u) : Keeps s0 (finishOnline u) := by
  unfold finishOnline
  split
  · exact keeps_finishOp _ _ _ _ (keeps_noteLgpVer (h.update rfl id id rfl))
  · exact h

theorem keeps_sendOut {tag : Nat} (h : Keeps s0 u) : Keeps s0 (sendOut tag u ch) := by
  unfold sendOut
  dsimp only
  split
  · exact h
  · exact keeps_modLane h

theorem keeps_sendOutputs {none' : Bool} (h : Keeps s0 u) : Keeps s0 (sendOutputs none' u) :=
  keeps_ite h (keeps_foldl h (fun _ _ hv => keeps_sendOut hv))

theorem keeps_switchBuffer {flags : Word} (h : Keeps s0 u) : Keeps s0 (switchBuffer flags u) := by
  unfold switchBuffer
  exact h.plain rfl rfl rfl rfl

theorem keeps_writeRecord {missed : Bool} {trigs : List Nat} (h : Keeps s0 u) : Keeps s0 (writeRecord missed trigs u) := by
  unfold writeRecord
  exact keeps_goodCount (keeps_ite (h.plain rfl rfl rfl rfl) (keeps_recordFrame (h.plain rfl rfl rfl rfl)))

theorem keeps_commitFrame {p : Program} {x : CutoffIn} (h : Keeps s0 u) : Keeps s0 (commitFrame p x u) := by
  unfold commitFrame
  extract_lets fb late ab arith up _ s1 s2 s3
  have h1 : Keeps s0 s1 := keeps_engWf h (commitV_wf late)
  have h2 : Keeps s0 s2 := keeps_finishOnline (keeps_logUser (keeps_commitFaults h1))
  have h3 : Keeps s0 s3 := keeps_publishSv (keeps_publishCommit (keeps_sendOutputs h2))
  exact keeps_writeRecord (keeps_switchBuffer h3)

theorem keeps_emptyFrame (h : Keeps s0 u) : Keeps s0 (emptyFrame u) := by
  unfold emptyFrame
  exact keeps_switchBuffer (keeps_sendOutputs (keeps_ite (keeps_modSrc _ _ (h.update rfl id id rfl) (fun _ => ⟨id, rfl, rfl⟩))
    (keeps_goodCount (h.update rfl id id rfl))))

theorem keeps_stoppedFrame {x : CutoffIn} (h : Keeps s0 u) : Keeps s0 (stoppedFrame x u) := by
  unfold stoppedFrame
  exact keeps_ite (keeps_writeRecord (keeps_switchBuffer (keeps_publishSv (keeps_sendOutputs h)))) (keeps_switchBuffer
    (keeps_publishSv (keeps_sendOutputs h)))

theorem keeps_sendTickSymbol (h : Keeps s0 u) : Keeps s0 (sendTickSymbol u) := keeps_ite (keeps_modCas _ h) h

/-! ### System commands -/

theorem keeps_opQuery {payload : State → List Word} (h : Keeps s0 u) : Keeps s0 (opQuery c ws payload u) :=
  keeps_modeGate (fun _ hv => keeps_refuseIf _ _ _ (fun _ hw => keeps_answer _ _ _ hw) hv) h

theorem keeps_opGetInfo (h : Keeps s0 u) : Keeps s0 (opGetInfo c ws u) := keeps_opQuery h

theorem keeps_opGetStatus (h : Keeps s0 u) : Keeps s0 (opGetStatus c ws u) := keeps_opQuery h

theorem keeps_startSetMode (h : Keeps s0 u) : Keeps s0 (startSetMode c ws u) := by
  unfold startSetMode
  split
  · exact keeps_decideMode _ (keeps_startOp _ _ h)
  · exact h

theorem keeps_opSetMode (h : Keeps s0 u) : Keeps s0 (opSetMode c ws u) := by
  unfold opSetMode
  exact keeps_ite (keeps_answer _ _ _ h) (keeps_refuseIf _ _ _ (fun _ hv => keeps_startSetMode hv) h)

theorem keeps_opAbort (h : Keeps s0 u) : Keeps s0 (opAbort c ws u) := by
  unfold opAbort
  refine keeps_modeGate (fun _ hv => keeps_refuseIf _ _ _ (fun _ hw => ?_) hv) h
  split
  · exact keeps_abortOp (keeps_answer _ _ _ hw)
  · exact keeps_answer _ _ _ hw

theorem keeps_dueReset {r : RstReq} (h : Keeps s0 u) : Keeps s0 (dueReset r u) := keeps_modMd _ h

theorem keeps_opReset (h : Keeps s0 u) : Keeps s0 (opReset c ws u) :=
  keeps_modeGate (fun _ hv => keeps_refuseIf _ _ _ (fun _ hw => keeps_dueReset (keeps_answer _ _ _ hw)) hv) h

theorem keeps_quiesceRequest {w : Word} (h : Keeps s0 u) : Keeps s0 (quiesceRequest c w u) :=
  keeps_refuseIf _ _ _ (fun _ hv => keeps_requestRemoval (keeps_startOp _ _ hv)) h

theorem keeps_quiesceCancel (h : Keeps s0 u) : Keeps s0 (quiesceCancel c u) :=
  keeps_inModes _ _ (fun _ hv => keeps_cancelRemoval (keeps_answer _ _ _ hv)) h

theorem keeps_opQuiesce (h : Keeps s0 u) : Keeps s0 (opQuiesce c ws u) :=
  keeps_ite (keeps_modeGate (fun _ hv => keeps_refuseIf _ _ _ (fun _ hw => keeps_quiesceCancel hw) hv) h) (keeps_modeGate
    (fun _ hv => keeps_refuseIf _ _ _ (fun _ hw => keeps_quiesceRequest hw) hv) h)

theorem keeps_applyErrCtl (h : Keeps s0 u) : Keeps s0 (applyErrCtl u) := h.plain rfl rfl rfl rfl

theorem keeps_opSysConfig (h : Keeps s0 u) : Keeps s0 (opSysConfig c ws u) := by
  unfold opSysConfig
  refine keeps_modeGate (fun _ hv => ?_) h
  split
  · exact keeps_answer _ _ _ (keeps_noteConfig _ (keeps_endHolds (keeps_applyErrCtl (hv.plain rfl rfl rfl rfl))))
  · exact keeps_answer _ _ _ hv

end

end Sys2Proof.Machine
end

section
/-! PROOF. What keeps the invariant and the unit: fault commands, packets and the register window (chapters 15, 17, 18 and 21). -/

namespace Sys2Proof.Machine

open Sys2Proof

section
variable {s0 u : State} {c : Ctx} {ws : List Word} {v st : Word} {row : Fin 8} {f : HostFrame} {a addr lost op : Nat} {n :
  Fin 96}

/-! ### Fault detectors and fault commands -/

theorem keeps_markBad {i : Fin 3} (h : Keeps s0 u) : Keeps s0 (markBad i addr u) := h.plain rfl rfl rfl rfl

theorem keeps_countSingle {i : Fin 3} (h : Keeps s0 u) : Keeps s0 (countSingle i u) := h.plain rfl rfl rfl rfl

/-- `raise` is given the sources of the memories alone, FS64 and FS81 to FS87. -/
theorem keeps_memoryFound {raise : Fin 96 → Nat → State → State} {m : MemKind} {double : Bool} (hraise :
    ∀ n d v, n.val ≠ 95 → Keeps s0 v → Keeps s0 (raise n d v)) (h : Keeps s0 u) : Keeps s0
    (memoryFound raise m addr double u) := by
  cases m
  case dram => exact keeps_ite (hraise _ _ _ (by decide) (keeps_markBad h)) (keeps_countSingle h)
  case mram => exact keeps_ite (hraise _ _ _ (by decide) (keeps_markBad h)) (keeps_countSingle h)
  case sram => exact keeps_ite (hraise _ _ _ (by decide) (keeps_markBad h)) (keeps_countSingle h)
  case flash => exact hraise _ _ _ (by decide) h
  case engine => exact keeps_ite (hraise _ _ _ (by decide) (keeps_engWf h id)) (keeps_engWf h id)

theorem keeps_memoryError {m : MemKind} {double : Bool} (h : Keeps s0 u) : Keeps s0 (memoryError m addr double u) :=
  keeps_memoryFound (fun _ _ _ _ hv => keeps_raiseFault _ _ hv) h

theorem keeps_scrubPass {m : ScrubMem} {corrected : List Nat} (h : Keeps s0 u) : Keeps s0 (scrubPass m corrected u) := by
  unfold scrubPass
  exact keeps_foldl (h.plain rfl rfl rfl rfl) (fun _ _ hv => keeps_raiseFault _ _ hv)

theorem keeps_modXing {f : Xing → Xing} (h : Keeps s0 u) : Keeps s0 (modXing row f u) := h.plain rfl rfl rfl rfl

theorem keeps_xingRequestTimeout {otherReset : Bool} (h : Keeps s0 u) : Keeps s0 (xingRequestTimeout row lost otherReset u) :=
  keeps_raiseFault _ _ (keeps_modXing h)

theorem keeps_stoppedLoss (h : Keeps s0 u) : Keeps s0 (stoppedLoss row lost u) :=
  keeps_ite h (keeps_raiseFault _ _ (keeps_modXing h))

theorem keeps_crossingTimeout {otherReset : Bool} (h : Keeps s0 u) : Keeps s0 (crossingTimeout row lost otherReset u) :=
  keeps_ite (keeps_stoppedLoss h) (keeps_ite (keeps_raiseFault _ _ (keeps_ite (keeps_xingRequestTimeout h) h)) (keeps_ite
    (keeps_xingRequestTimeout h) h))

theorem keeps_pulseSaturate (h : Keeps s0 u) : Keeps s0 (pulseSaturate row u) :=
  keeps_ite h (keeps_raiseFault _ _ (keeps_modXing h))

theorem keeps_dynToggle (h : Keeps s0 u) : Keeps s0 (dynToggle u) := by
  unfold dynToggle
  exact keeps_ite ((h.plain rfl rfl rfl rfl).plain rfl rfl rfl rfl) (h.plain rfl rfl rfl rfl)

theorem keeps_driverSupply {back : Bool} (h : Keeps s0 u) : Keeps s0 (driverSupply back u) :=
  keeps_levelFault _ _ _ (keeps_modPwr _ h id)

theorem keeps_latchTamper (h : Keeps s0 u) : Keeps s0 (latchTamper u) :=
  keeps_ite (h.update rfl id id rfl) (keeps_ite (h.update rfl id id rfl) ((keeps_drawFree h).update rfl id id rfl))

theorem keeps_tamperReact (h : Keeps s0 u) : Keeps s0 (tamperReact u) :=
  keeps_foldl (keeps_raiseFault _ _ h) (fun _ _ hv => keeps_closeSession hv)

theorem keeps_tamperSample {isOpen : Bool} (h : Keeps s0 u) : Keeps s0 (tamperSample isOpen u) :=
  keeps_ite (keeps_whenCore (fun _ hv => keeps_tamperReact hv) (keeps_latchTamper h)) (keeps_whenCore (fun _ hv =>
    keeps_clearFault _ hv) (h.update rfl id id rfl))

theorem keeps_secCtlWrite {val : Word} (h : Keeps s0 u) : Keeps s0 (secCtlWrite val u) := keeps_ite (h.update rfl id id rfl) h

/-- A stored mask of FS92 or FS93 holds ERR and CHIP whatever is written (R419). -/
theorem storedMask_held (hn : n.val = 92 ∨ n.val = 93) (m : Nat) : storedMask n m &&& 0x18 = 0x18 := by
  unfold storedMask
  rw [if_pos hn]
  generalize BitVec.ofNat 6 m = b
  revert b
  decide

theorem keeps_setClass (h : Keeps s0 u) : Keeps s0 (setClass n ws u) := by
  refine h.trans ⟨fun i => ⟨fun k hk => ?_, fun k hk => ?_, i.pwr, i.mem⟩, SameUnit.refl u⟩
  · unfold setClass
    rw [fsrc_modSrc]
    split
    · subst k; exact i.sources n hk
    · exact i.sources k hk
  · unfold setClass
    rw [fsrc_modSrc]
    split
    · subst k; exact ⟨storedMask_held hk _, storedMask_held hk _⟩
    · exact i.masks k hk

theorem keeps_opFltConfig (h : Keeps s0 u) : Keeps s0 (opFltConfig c ws u) := by
  unfold opFltConfig
  refine keeps_modeGate (fun _ hv => keeps_refuseIf _ _ _ (fun _ hw => ?_) hv) h
  split
  · exact keeps_answer _ _ _ (keeps_noteConfig _ (keeps_setClass hw))
  · exact hw

theorem keeps_opFltRead (h : Keeps s0 u) : Keeps s0 (opFltRead c ws u) := by
  unfold opFltRead
  refine keeps_modeGate (fun _ hv => keeps_refuseIf _ _ _ (fun _ hw => ?_) hv) h
  split
  · exact keeps_memoryRead (fun _ hx => keeps_answer _ _ _ hx) hw
  · exact keeps_answer _ _ _ hw

theorem keeps_clearSource {history : Bool} (h : Keeps s0 u) : Keeps s0 (clearSource history n u) := by
  unfold clearSource
  extract_lets s1 s2
  have h1 : Keeps s0 s1 := by
    refine keeps_modSrc n _ h fun x => ?_
    split <;> exact ⟨id, rfl, rfl⟩
  have h2 : Keeps s0 s2 := keeps_modSrc _ _ h1 fun _ => ⟨id, rfl, rfl⟩
  exact keeps_ite h1 (keeps_dite (fun _ => keeps_modCell _ _ h2) fun _ => h2)

theorem keeps_clearNamed {w : Word} (h : Keeps s0 u) : KeepsOption s0 (clearNamed w u) := by
  unfold clearNamed
  split
  · exact keepsOption_some (keeps_foldl h fun _ _ hv => keeps_clearSource hv)
  · cases srcOf (field w 0 7)
    case none => exact keepsOption_none
    case some n => exact keepsOption_some (keeps_clearSource h)

theorem keeps_opFltClear (h : Keeps s0 u) : Keeps s0 (opFltClear c ws u) := by
  refine keeps_modeGate (fun _ hv => keeps_refuseIf _ _ _ (fun w hw => ?_) hv) h
  have hcleared := keeps_clearNamed (w := par ws 1) hw
  split
  · exact keeps_answer _ _ _ (hcleared _ ‹_›)
  · exact keeps_answer _ _ _ hw

theorem keeps_injectFault {fs : Fin 96} {bit : Fin 26} (h : Keeps s0 u) : Keeps s0 (injectFault fs bit u) :=
  keeps_dite (fun _ => keeps_causeEvent _ _ _ h) (fun _ => keeps_handleEvent _ h)

theorem keeps_opInject {fs : Fin 96} {bit : Fin 26} (h : Keeps s0 u) : Keeps s0 (opInject c fs bit u) :=
  keeps_refuseIf _ _ _ (fun _ hv => keeps_answer _ _ _ (keeps_injectFault hv)) h

/-- An injected error may make present what is not "Event only", and never FS95. -/
theorem keeps_raiseInjected {detail : Nat} (hn : n.val ≠ 95) (h : Keeps s0 u) : Keeps s0 (raiseInjected n detail u) := by
  refine keeps_handleEvent _ ?_
  split
  · exact h
  · exact keeps_setPresent n true h fun _ => ⟨Bool.eq_false_iff.2 ‹_›, hn⟩

theorem keeps_injectStop (h : Keeps s0 u) : Keeps s0 (injectStop row u) :=
  keeps_ite (keeps_raiseInjected (by decide) (keeps_modXing h)) (keeps_modXing h)

/-! ### Packets -/

theorem keeps_opLow (h : Keeps s0 u) : KeepsOption s0 (opLow op c ws u) := by
  unfold opLow
  split
  · exact keepsOption_some (keeps_opGetInfo h)
  · exact keepsOption_some (keeps_opSetMode h)
  · exact keepsOption_some (keeps_opGetStatus h)
  · exact keepsOption_some (keeps_opAbort h)
  · exact keepsOption_some (keeps_opReset h)
  · exact keepsOption_some (keeps_opQuiesce h)
  · exact keepsOption_some (keeps_opSetTick h)
  · exact keepsOption_some (keeps_opSysConfig h)
  · exact keepsOption_some (keeps_opChConfig h)
  · exact keepsOption_some (keeps_opChReadConfig h)
  · exact keepsOption_some (keeps_opChSetFailsafe h)
  · exact keepsOption_some (keeps_opChForce h)
  · exact keepsOption_some (keeps_opChClearLatch h)
  · exact keepsOption_some (keeps_opInputTest h)
  · exact keepsOption_some (keeps_opInjSeqConfig h)
  · exact keepsOption_some (keeps_opHartTx h)
  · exact keepsOption_some (keeps_opHartRx h)
  · exact keepsOption_some (keeps_opSelfcal h)
  · exact keepsOption_some (keeps_opCalWrite h)
  · exact keepsOption_some (keeps_opCalExport h)
  · exact keepsOption_some (keeps_opAoTrim h)
  · exact keepsOption_some (keeps_opCalRestore (keeps_drawFree h))
  · exact keepsOption_none

theorem keeps_opHigh (h : Keeps s0 u) : KeepsOption s0 (opHigh op c ws u) := by
  unfold opHigh
  split
  · exact keepsOption_some (keeps_opLpStage h)
  · exact keepsOption_some (keeps_opLpActivate h)
  · exact keepsOption_some (keeps_opLpStats h)
  · exact keepsOption_some (keeps_opLpReadVar h)
  · exact keepsOption_some (keeps_opNetConfig h)
  · exact keepsOption_some (keeps_opPtpConfig h)
  · exact keepsOption_some (keeps_opFrameDef h)
  · exact keepsOption_some (keeps_opNetStats h)
  · exact keepsOption_some (keeps_opCasConfig h)
  · exact keepsOption_some (keeps_opGroupConfig h)
  · exact keepsOption_some (keeps_opGroupForward h)
  · exact keepsOption_some (keeps_opRecConfig h)
  · exact keepsOption_some (keeps_opRecTrigger h)
  · exact keepsOption_some (keeps_opRecRead h)
  · exact keepsOption_some (keeps_opSoeRead h)
  · exact keepsOption_some (keeps_opLifeRead h)
  · exact keepsOption_some (keeps_opClockSet h)
  · exact keepsOption_some (keeps_opFltConfig h)
  · exact keepsOption_some (keeps_opFltRead h)
  · exact keepsOption_some (keeps_opFltClear h)
  · exact keepsOption_some (keeps_opImgBegin h)
  · exact keepsOption_some (keeps_opImgBlock h)
  · exact keepsOption_some (keeps_opImgVerify h)
  · exact keepsOption_some (keeps_opImgActivate h)
  · exact keepsOption_some (keeps_opAttest h)
  · exact keepsOption_some (keeps_opOwnerEnrol (keeps_drawFree h))
  · exact keepsOption_none

theorem keeps_runOpcode (h : Keeps s0 u) : Keeps s0 (runOpcode op c ws u) := by
  refine keeps_ite (keeps_answer _ _ _ h) ?_
  have hop : KeepsOption s0 (opLow op c ws u <|> opHigh op c ws u) := keepsOption_orElse (keeps_opLow h) (keeps_opHigh h)
  split
  · exact hop _ ‹_›
  · exact keeps_answer _ _ _ h

theorem keeps_countHost {f : HostPort → HostPort} (h : Keeps s0 u) : Keeps s0 (countHost c f u) :=
  keeps_ite (h.plain rfl rfl rfl rfl) h

theorem keeps_answerUncached {status : Nat} (h : Keeps s0 u) : Keeps s0 (answerUncached c status u) := keeps_deliver _ _ _ h

theorem keeps_packetCrcFail (h : Keeps s0 u) : Keeps s0 (packetCrcFail c u) :=
  keeps_raiseFault _ _ (keeps_countHost (keeps_answerUncached h))

theorem keeps_packetAliveErr (h : Keeps s0 u) : Keeps s0 (packetAliveErr c u) :=
  keeps_raiseFault _ _ (keeps_countHost (keeps_answerUncached h))

theorem keeps_packetAgain (h : Keeps s0 u) : Keeps s0 (packetAgain c u) := keeps_countHost (keeps_deliver _ _ _ h)

theorem keeps_runPacket {src : Src} {p : List Word} (h : Keeps s0 u) : Keeps s0 (runPacket src p u) := by
  unfold runPacket
  refine keeps_ite (keeps_packetCrcFail h) ?_
  split
  · exact keeps_packetAgain h
  · exact keeps_packetAliveErr h
  · exact keeps_runOpcode (keeps_acceptPacket _ h)

/-! ### The register window and host frames -/

theorem keeps_latchHi (h : Keeps s0 u) : Keeps s0 (latchHi a u) := keeps_ite (keeps_modHp _ h) h

theorem keeps_sampleEffect (h : Keeps s0 u) : Keeps s0 (sampleEffect a u) := by
  unfold sampleEffect
  split
  · exact keeps_modCell _ _ h
  · exact keeps_latchHi h

theorem keeps_endEffect (h : Keeps s0 u) : Keeps s0 (endEffect a u) := by
  unfold endEffect
  split
  · exact keeps_modCell _ _ h
  · exact keeps_ite (keeps_noteRegRead h) (keeps_ite (keeps_noteRegRead h) h)

theorem keeps_readRun : ∀ (n a : Nat) {u : State}, Keeps s0 u → Keeps s0 (readRun n a u).2
  | 0, _, _, h => h
  | n + 1, a, _, h => keeps_readRun n (a + 4) (keeps_sampleEffect h)

theorem keeps_maskWrite {i : Nat} (h : Keeps s0 u) : Keeps s0 (maskWrite i v u) := by
  unfold maskWrite
  exact h.plain rfl rfl rfl rfl

theorem keeps_intCtlWrite (h : Keeps s0 u) : Keeps s0 (intCtlWrite v u) := h.plain rfl rfl rfl rfl

theorem keeps_hpClear (h : Keeps s0 u) : Keeps s0 (hpClear u) := keeps_modHp _ h

theorem keeps_errCtlWrite (h : Keeps s0 u) : Keeps s0 (errCtlWrite v u) := keeps_endHolds (h.plain rfl rfl rfl rfl)

theorem keeps_errAckWrite (h : Keeps s0 u) : Keeps s0 (errAckWrite v u) := keeps_ite (keeps_ackHolds h) h

theorem keeps_tiLockOn (h : Keeps s0 u) : Keeps s0 (tiLockOn u) := h.plain rfl rfl rfl rfl

theorem keeps_tiLockOff (h : Keeps s0 u) : Keeps s0 (tiLockOff u) := h.plain rfl rfl rfl rfl

theorem keeps_caseCheck (h : Keeps s0 u) : Keeps s0 (caseCheck u) := by
  unfold caseCheck
  exact keeps_levelFault _ _ _ h

/-- A write of PWR_CTL is held to the ranges of Table 3-13. -/
theorem keeps_pwrCtlWrite (h : Keeps s0 u) : Keeps s0 (pwrCtlWrite v u) :=
  keeps_caseCheck (keeps_modPwr _ h fun _ =>
    ⟨Nat.min_le_left _ _, Nat.le_min.2 ⟨by decide, Nat.le_max_left _ _⟩, Nat.min_le_left _ _⟩)

theorem keeps_plainWrite (h : Keeps s0 u) : Keeps s0 (plainWrite a v u) := by
  unfold plainWrite
  split
  · exact keeps_evtPendClear h
  · exact keeps_evtPendClear h
  · exact keeps_evtPendClear h
  · exact keeps_maskWrite h
  · exact keeps_maskWrite h
  · exact keeps_maskWrite h
  · exact keeps_intCtlWrite h
  · exact keeps_evtSysClear h
  · exact keeps_ite (keeps_hpClear h) h
  · exact keeps_errCtlWrite h
  · exact keeps_errAckWrite h
  · exact keeps_ite (keeps_tiLockOn h) h
  · exact keeps_ite (keeps_tiLockOff h) h
  · exact keeps_pwrCtlWrite h
  · exact keeps_secCtlWrite h
  · exact h

theorem keeps_regWrite (h : Keeps s0 u) : Keeps s0 (regWrite a v u) :=
  keeps_ite h (keeps_ite (keeps_cuWrite h) (keeps_ite (keeps_ite (keeps_causeClear h) h) (keeps_plainWrite h)))

theorem keeps_writeRun : ∀ (a : Nat) (ws : List Word) {u : State}, Keeps s0 u → Keeps s0 (writeRun a ws u)
  | _, [], _, h => h
  | a, _ :: ws, _, h => keeps_writeRun (a + 4) ws (keeps_regWrite h)

theorem keeps_countFrame (h : Keeps s0 u) : Keeps s0 (countFrame f u) := keeps_modHp _ h

theorem keeps_endFrame {result : Nat} {out : List Word} (h : Keeps s0 u) : Keeps s0 (endFrame result out u) := keeps_modHp _ h

theorem keeps_countQuiet (h : Keeps s0 u) : Keeps s0 (countQuiet u) := by
  unfold countQuiet
  exact keeps_ite (keeps_clearFault _ (keeps_modHp _ h)) (keeps_modHp _ h)

theorem keeps_busyEvent (h : Keeps s0 u) : Keeps s0 (busyEvent u) := keeps_raiseFault _ _ (keeps_modHp _ h)

theorem keeps_rejectFrame {result : Nat} (h : Keeps s0 u) : Keeps s0 (rejectFrame result st u) := by
  unfold rejectFrame
  exact keeps_countQuiet (keeps_raiseFault _ _ (keeps_endFrame (keeps_modHp _ h)))

theorem keeps_checkFailFrame {out : List Word} (h : Keeps s0 u) : Keeps s0 (checkFailFrame out u) :=
  keeps_countQuiet (keeps_raiseFault _ _ (keeps_endFrame (keeps_modHp _ h)))

theorem keeps_readFrame (h : Keeps s0 u) : Keeps s0 (readFrame f st u) := by
  unfold readFrame
  have hread := keeps_readRun (regCount (f.words.headD 0)) (regAddr (f.words.headD 0)) h
  exact keeps_ite (keeps_countQuiet (keeps_endFrame (keeps_foldl (keeps_countFrame hread) fun _ _ hv => keeps_endEffect hv)))
    (keeps_checkFailFrame (keeps_countFrame h))

theorem keeps_writeFrame (h : Keeps s0 u) : Keeps s0 (writeFrame st ws u) :=
  keeps_ite (keeps_countQuiet (keeps_endFrame (keeps_writeRun _ _ h))) (keeps_checkFailFrame h)

theorem keeps_pktFrame (h : Keeps s0 u) : Keeps s0 (pktFrame st ws u) := by
  unfold pktFrame
  exact keeps_ite (keeps_countQuiet (keeps_runPacket (keeps_endFrame (keeps_wakeCore h)))) (keeps_busyEvent (keeps_endFrame
    (keeps_modHp _ (keeps_wakeCore h))))

theorem keeps_rspFrame (h : Keeps s0 u) : Keeps s0 (rspFrame st ws u) := by
  unfold rspFrame
  refine keeps_ite (keeps_countQuiet (keeps_endFrame h)) (keeps_countQuiet (keeps_endFrame ?_))
  split
  · exact keeps_ite (keeps_modHp _ h) h
  · exact h

theorem keeps_kindFrame {k : FrameKind} (h : Keeps s0 u) : Keeps s0 (kindFrame k f st u) := by
  unfold kindFrame
  split
  · exact keeps_countQuiet (keeps_endFrame (keeps_countFrame h))
  · exact keeps_readFrame h
  · exact keeps_writeFrame (keeps_countFrame h)
  · exact keeps_pktFrame (keeps_countFrame h)
  · exact keeps_rspFrame (keeps_countFrame h)

theorem keeps_countViol (h : Keeps s0 u) : Keeps s0 (countViol f u) := keeps_ite (keeps_modHp _ h) h

theorem keeps_hostFrame (h : Keeps s0 u) : Keeps s0 (hostFrame f u) := by
  unfold hostFrame
  refine keeps_ite h ?_
  dsimp only
  split
  · exact keeps_kindFrame h
  · exact keeps_rejectFrame (keeps_countViol (keeps_countFrame h))

theorem keeps_stretchFrame (h : Keeps s0 u) : Keeps s0 (stretchFrame f u) := by
  unfold stretchFrame
  refine keeps_ite h ?_
  dsimp only
  split
  · exact keeps_busyEvent (keeps_endFrame (keeps_modHp _ (keeps_countFrame h)))
  · exact h
  · exact keeps_rejectFrame (keeps_countViol (keeps_countFrame h))

end

end Sys2Proof.Machine
end

section
/-! PROOF. What keeps the invariant and the unit: resets, supplies, boot and the other transports (chapters 3, 4 and 13 to 15). -/

namespace Sys2Proof.Machine

open Sys2Proof

section
variable {s0 u : State} {i id : Nat} {ws : List Word} {via : Option (Fin 8)} {g : GroupMsg}

/-! ### Resets -/

theorem defaultSrc_present (i : Nat) : (defaultSrc i).present = false := by
  unfold defaultSrc
  repeat (split; · rfl)
  rfl

/-- The default masks of FS92 and FS93 hold ERR and CHIP (R419, Table 18-1). -/
theorem defaultSrc_masks (hi : i = 92 ∨ i = 93) : (defaultSrc i).maskN &&& 0x18 = 0x18 ∧
    (defaultSrc i).maskS &&& 0x18 = 0x18 := by
  obtain rfl | rfl := hi <;> decide

/-- After a module reset no source is present, every mask has its default, PWR_CTL its reset value and the engine's memories are
empty; the identity and the counters stay (R417, R418). -/
theorem keeps_coreReset (h : Keeps s0 u) : Keeps s0 (coreReset u) := by
  have hsrc : ∀ n : Fin 96, (coreReset u).fsrc n = coreSrc n.val (u.fsrc n) := fun n => by simp [State.fsrc, coreReset]
  refine h.trans ⟨fun _ => ⟨fun n _ => ?_, fun n hn => ?_, ?_, ?_⟩, ⟨rfl, rfl, rfl, rfl, Nat.le_refl _, Nat.le_refl _⟩⟩
  · rw [hsrc]; exact defaultSrc_present n.val
  · rw [hsrc]; exact defaultSrc_masks hn
  · exact (by decide : 4 ≤ 4 ∧ 60 ≤ 0x5F ∧ 0x5F ≤ 100)
  · exact ⟨rfl, rfl, rfl, fun _ hx => nomatch hx⟩

theorem keeps_couplersOff (h : Keeps s0 u) : Keeps s0 (couplersOff u) := keeps_modPwr _ (keeps_mapCells _ h) id

theorem keeps_restoreHists (h : Keeps s0 u) : Keeps s0 (restoreHists u) := by
  refine keeps_ite h (h.srcs rfl rfl rfl fun n => ?_)
  simp [State.fsrc]

theorem keeps_moduleReset {r : RstReq} (h : Keeps s0 u) : Keeps s0 (moduleReset r u) := by
  unfold moduleReset
  extract_lets _ s1 s2 s3
  have h1 : Keeps s0 s1 := keeps_coreReset (keeps_lifeSave h)
  have h2 : Keeps s0 s2 := keeps_modMd _ (keeps_restoreHists h1)
  have h3 : Keeps s0 s3 := keeps_ite (keeps_couplersOff h2) h2
  exact keeps_ite (keeps_openWindow _ h3) h3

theorem keeps_tripEvent {t : Nat} (h : Keeps s0 u) : Keeps s0 (tripEvent t u) := keeps_handleEvent _ h

/-! ### Supplies -/

theorem keeps_powerOnReset {cause : Nat} (h : Keeps s0 u) : Keeps s0 (powerOnReset cause u) := by
  unfold powerOnReset
  exact keeps_modMd _ (keeps_modPwr _ (keeps_couplersOff (keeps_restoreHists (keeps_coreReset h))) id)

theorem keeps_startPowerFail {why : Nat} (h : Keeps s0 u) : Keeps s0 (startPowerFail why u) := by
  unfold startPowerFail
  exact keeps_modPwr _ (keeps_modMd _ (keeps_mapCells _ (keeps_couplersOff (keeps_closeRecord (h.update rfl id id rfl))))) id

theorem keeps_holdCore {m : Mode} (h : Keeps s0 u) : Keeps s0 (holdCore m u) := by
  unfold holdCore
  exact keeps_modMd _ (keeps_modPwr _ (keeps_coreReset h) id)

theorem keeps_holdAfterQack (h : Keeps s0 u) : Keeps s0 (holdAfterQack u) :=
  keeps_holdCore (keeps_couplersOff (keeps_modPwr _ h id))

theorem keeps_losePower {why : Nat} (h : Keeps s0 u) : Keeps s0 (losePower why u) :=
  keeps_ite h (keeps_ite (keeps_holdAfterQack h) (keeps_startPowerFail h))

theorem keeps_holdReset (h : Keeps s0 u) : Keeps s0 (holdReset u) := keeps_holdCore h

theorem keeps_endPowerFail {inTime : Bool} (h : Keeps s0 u) : Keeps s0 (endPowerFail inTime u) := by
  unfold endPowerFail
  exact keeps_ite (keeps_powerOnReset (keeps_holdReset (keeps_ite (keeps_modPwr _ (keeps_lifeSave h) id) h))) (keeps_holdReset
    (keeps_ite (keeps_modPwr _ (keeps_lifeSave h) id) h))

theorem keeps_freeRtc (h : Keeps s0 u) : Keeps s0 (freeRtc u) := keeps_modSpring _ h

theorem keeps_leapAfter (h : Keeps s0 u) : Keeps s0 (leapAfter u) := keeps_ite h (keeps_modSpring _ (keeps_drawFree h))

theorem keeps_vsysBack (h : Keeps s0 u) : Keeps s0 (vsysBack u) := by
  unfold vsysBack
  exact keeps_modPwr _ (keeps_leapAfter (keeps_modSpring _ (keeps_drawFree h))) id

theorem keeps_presDown (h : Keeps s0 u) : Keeps s0 (presDown u) := keeps_modPwr _ h id

theorem keeps_presWait (h : Keeps s0 u) : Keeps s0 (presWait u) := keeps_modPwr _ h id

theorem keeps_vioCheck {ok : Bool} (h : Keeps s0 u) : Keeps s0 (vioCheck ok u) := keeps_levelFault _ _ _ (keeps_modPwr _ h id)

theorem keeps_inputFault {start : Bool} (h : Keeps s0 u) : Keeps s0 (inputFault start u) := keeps_levelFault _ _ _ h

theorem keeps_temperatures {caseT coreT : Int} (h : Keeps s0 u) : Keeps s0 (temperatures caseT coreT u) := by
  unfold temperatures
  exact keeps_modSpring _ (keeps_levelFault _ _ _ (keeps_caseCheck (keeps_modPwr _ h id)))

/-! ### Boot and the configuration load -/

theorem keeps_bootSlot {prev : Bool} (h : Keeps s0 u) : Keeps s0 (bootSlot i prev u) := by
  unfold bootSlot
  exact keeps_ite (keeps_raiseFault _ _ (h.update rfl id id rfl)) (h.update rfl id id rfl)

theorem keeps_startRecovery (h : Keeps s0 u) : Keeps s0 (startRecovery u) := keeps_modMd _ (h.update rfl id id rfl)

theorem keeps_bootOther {b : BootCheck} (h : Keeps s0 u) : Keeps s0 (bootOther b i u) :=
  keeps_ite (keeps_bootSlot h) (keeps_startRecovery h)

theorem keeps_rejectTrial (h : Keeps s0 u) : Keeps s0 (rejectTrial i u) :=
  keeps_writeBootRecord (SameUnit.refl _) (keeps_modSlot h)

theorem keeps_chooseSlot {b : BootCheck} (h : Keeps s0 u) : Keeps s0 (chooseSlot b u) := by
  unfold chooseSlot
  exact keeps_ite (keeps_bootOther (keeps_rejectTrial h)) (keeps_ite (keeps_bootSlot (keeps_ite (keeps_writeBootRecord
    (SameUnit.refl _) h) h)) (keeps_bootOther (keeps_raiseFault _ _ (keeps_ite (keeps_writeBootRecord
    (SameUnit.refl _) h) h))))

theorem keeps_drawKeys (h : Keeps s0 u) : Keeps s0 (drawKeys u) := by
  unfold drawKeys
  exact keeps_drawFree (keeps_drawFree (h.plain rfl rfl rfl rfl))

theorem keeps_stormCheck (h : Keeps s0 u) : Keeps s0 (stormCheck u) := by
  unfold stormCheck
  extract_lets n storm s1
  have h1 : Keeps s0 s1 := keeps_modMd _ h
  exact keeps_ite (keeps_raiseFault _ _ (h1.plain rfl rfl rfl rfl)) h1

theorem keeps_startClock (h : Keeps s0 u) : Keeps s0 (startClock u) := by
  unfold startClock
  exact keeps_ite (keeps_raiseFault _ _ (keeps_modPwr _ (keeps_modSpring _ h) id)) (keeps_modSpring _ h)

theorem keeps_exitCheck (h : Keeps s0 u) : Keeps s0 (exitCheck u) := keeps_ite (keeps_raiseFault _ _ h) h

theorem keeps_slotCheck (h : Keeps s0 u) : Keeps s0 (slotCheck u) := by
  unfold slotCheck
  exact keeps_ite (keeps_raiseFault _ _ (keeps_modMd _ h)) (keeps_modMd _ h)

theorem keeps_cmcCheck {ok : Bool} (h : Keeps s0 u) : Keeps s0 (cmcCheck ok u) := by
  unfold cmcCheck
  exact (keeps_ite h (keeps_raiseFault _ _ (keeps_writeBootRecord (SameUnit.refl _) h))).update rfl id id rfl

theorem keeps_lifeBoot {mramOk : Bool} (h : Keeps s0 u) : Keeps s0 (lifeBoot mramOk u) := by
  unfold lifeBoot
  extract_lets _ s1 s2
  have h1 : Keeps s0 s1 := h.plain rfl rfl rfl rfl
  have h2 : Keeps s0 s2 := keeps_ite h1 (keeps_raiseFault _ _ (keeps_mapCells _ h1))
  exact keeps_ite h2 (keeps_ite (keeps_ctrAdd (keeps_ctrAdd h2)) (keeps_ctrAdd h2))

theorem keeps_noteCfgVer (h : Keeps s0 u) : Keeps s0 (noteCfgVer u) := by
  unfold noteCfgVer
  exact h.update rfl id id rfl

theorem keeps_bootRegs {vbatMv : Nat} (h : Keeps s0 u) : Keeps s0 (bootRegs vbatMv u) := by
  unfold bootRegs
  exact keeps_levelFault _ _ _ (keeps_modPwr _ (keeps_noteCfgVer (h.update rfl id id rfl)) id)

theorem keeps_openPort (h : Keeps s0 u) : Keeps s0 (openPort u) := keeps_modPwr _ (keeps_modMd _ (keeps_modHp _ h)) id

theorem keeps_migrate (h : Keeps s0 u) : Keeps s0 (migrate u) := by
  unfold migrate
  exact keeps_noteCfgVer (keeps_writeBootRecord (SameUnit.refl _) (keeps_modSlot (keeps_flashErase h)))

theorem keeps_migrationFails (h : Keeps s0 u) : Keeps s0 (migrationFails u) := by
  unfold migrationFails
  exact keeps_dueReset (keeps_modSrc _ _ (keeps_writeBootRecord (SameUnit.refl _) (keeps_modSlot (keeps_mapCells _ h)))
    (fun _ => ⟨id, rfl, rfl⟩))

theorem keeps_loadFails (h : Keeps s0 u) : Keeps s0 (loadFails u) := keeps_modMd _ h

theorem keeps_sendPacket {p : List Word} (h : Keeps s0 u) : Keeps s0 (sendPacket p u) := by
  unfold sendPacket
  extract_lets c t
  have ht : Keeps s0 t := keeps_modMd _ (keeps_setAlive _ _ h)
  exact keepsOption_getD (keepsOption_orElse (keeps_opLow ht) (keeps_opHigh ht)) ht

theorem keeps_packetDone (h : Keeps s0 u) : Keeps s0 (packetDone u) := by
  unfold packetDone
  split
  · exact h
  · exact keeps_ite (keeps_modMd _ h) (keeps_ite (keeps_loadFails h) (keeps_ite h (keeps_modMd _ h)))

theorem keeps_runPackets : ∀ (k : Nat) {u : State}, Keeps s0 u → Keeps s0 (runPackets k u)
  | 0, _, h => h
  | k + 1, u, h => by
    unfold runPackets
    refine keeps_ite (keeps_loadFails h) ?_
    split
    · exact h
    · extract_lets t
      have ht : Keeps s0 t := keeps_packetDone (keeps_ite h (keeps_sendPacket h))
      exact keeps_ite (keeps_runPackets k ht) ht

theorem keeps_loadStep (h : Keeps s0 u) : Keeps s0 (loadStep u) := keeps_ite (keeps_runPackets _ h) h

theorem keeps_startLoad {cfg : ImgCheck} (h : Keeps s0 u) : Keeps s0 (startLoad cfg u) := by
  unfold startLoad
  exact keeps_loadStep (keeps_ite (keeps_raiseFault _ _ (keeps_modMd _ h)) (keeps_modMd _ h))

/-- The classes of a source return to those of Table 18-2, whose masks of FS92 and FS93 hold ERR and CHIP. -/
theorem keeps_dropImage (h : Keeps s0 u) : Keeps s0 (dropImage u) := by
  unfold dropImage
  extract_lets d s1 s2
  have h2 : Keeps s0 s2 := keeps_modSpring _ (keeps_mapCells _ h)
  have hd : ∀ n : Fin 96, d.srcs[n] = defaultSrc n.val := fun n => by simp [d, defaultSrcs]
  clear_value s2 d
  have h3 : Keeps s0 (applyErrCtl { s2 with sys := [] }) := keeps_applyErrCtl (h2.plain rfl rfl rfl rfl)
  refine ⟨fun i => ⟨fun n hn => ?_, fun n hn => ?_, (h3.inv i).pwr, (h3.inv i).mem⟩, h3.unit⟩
  · simpa [State.fsrc] using (h2.inv i).sources n hn
  · simpa [State.fsrc, hd] using defaultSrc_masks hn

theorem keeps_imageInForce (h : Keeps s0 u) : Keeps s0 (imageInForce u) := by
  unfold imageInForce
  exact keeps_evtRaise _ (keeps_noteCfgVer ((keeps_modSlot (keeps_applyErrCtl h)).plain rfl rfl rfl rfl))

theorem keeps_endSource (h : Keeps s0 u) : Keeps s0 (endSource u) := keeps_modMd _ (h.plain rfl rfl rfl rfl)

theorem keeps_configureCells (h : Keeps s0 u) : Keeps s0 (configureCells u) :=
  keeps_refreshLoss (keeps_foldl h (fun _ _ hv => keeps_rejoinConfig hv))

theorem keeps_startProgram {p : Program} (h : Keeps s0 u) : Keeps s0 (startProgram p u) := by
  unfold startProgram
  exact keeps_clearFault _ (keeps_noteLgpVer (keeps_modSlot (h.update rfl id id rfl)))

theorem keeps_lgpLoad {lgp : ImgCheck} (h : Keeps s0 u) : Keeps s0 (lgpLoad lgp u) := by
  unfold lgpLoad
  split
  · exact h
  · exact keeps_raiseFault _ _ (keeps_raiseFault _ _ h)
  · split
    · exact keeps_startProgram h
    · exact keeps_raiseFault _ _ h

theorem keeps_waitForConfig (h : Keeps s0 u) : Keeps s0 (waitForConfig u) := keeps_modMd _ (keeps_evtRaise _ h)

theorem keeps_endLoad {loaded : Bool} (h : Keeps s0 u) : Keeps s0 (endLoad loaded u) :=
  keeps_ite (keeps_waitForConfig h) (keeps_ite (keeps_enterMode h) (keeps_ite (keeps_enterMode h) (keeps_waitForConfig
    (keeps_ite h (keeps_raiseFault _ _ h)))))

/-! ### Other transports -/

theorem keeps_svcLenErr {alive tag : Byte} (h : Keeps s0 u) : Keeps s0 (svcLenErr alive tag u) := keeps_answerUncached h

theorem keeps_authDrop (h : Keeps s0 u) : Keeps s0 (authDrop u) := keeps_raiseFault _ _ (h.plain rfl rfl rfl rfl)

theorem keeps_takeDatagram {seq : Nat} (h : Keeps s0 u) : Keeps s0 (takeDatagram id seq u) := h.plain rfl rfl rfl rfl

theorem keeps_closeFull (h : Keeps s0 u) : Keeps s0 (closeFull id u) := keeps_ite (keeps_closeSession h) h

theorem keeps_datagramPacket (h : Keeps s0 u) : Keeps s0 (datagramPacket id ws u) :=
  keeps_ite (keeps_runPacket h) (keeps_answerUncached h)

theorem keeps_sessionDatagram {x : Session} {seq : Nat} {tagOk : Bool} (h : Keeps s0 u) : Keeps s0
    (sessionDatagram x seq tagOk ws u) :=
  keeps_ite (keeps_authDrop h) (keeps_closeFull (keeps_datagramPacket (keeps_takeDatagram h)))

theorem keeps_workerDenied (h : Keeps s0 u) : Keeps s0 (workerDenied via ws u) := keeps_raiseFault _ _ (keeps_sendUp h)

theorem keeps_obeyManager {b : GroupBody} (h : Keeps s0 u) : Keeps s0 (obeyManager b u) := by
  unfold obeyManager
  split
  · exact keeps_ite (keeps_answerUncached h) (keeps_ite (keeps_runPacket h) (keeps_answerUncached h))
  · exact keeps_deliver _ _ _ (h.plain rfl rfl rfl rfl)
  · split
    · exact keeps_ite (h.plain rfl rfl rfl rfl) h
    · exact h
  · exact h
  · exact h
  · exact h

theorem keeps_workerTakes (h : Keeps s0 u) : Keeps s0 (workerTakes via g u) :=
  keeps_ite (keeps_workerDenied h) (keeps_ite (keeps_raiseFault _ _ (keeps_authDrop h)) (keeps_flushGroup (keeps_obeyManager
    (h.plain rfl rfl rfl rfl))))

theorem keeps_cacheReply {n : Nat} (h : Keeps s0 u) : Keeps s0 (cacheReply n ws u) := keeps_modWorker h

theorem keeps_managerTakes {w : Worker} (h : Keeps s0 u) : Keeps s0 (managerTakes w g u) := by
  unfold managerTakes
  refine keeps_ite (keeps_raiseFault _ _ (keeps_authDrop h)) ?_
  dsimp only
  split
  · exact keeps_workerAnswers (keeps_cacheReply (keeps_modWorker h))
  · exact keeps_workerAnswers (keeps_modWorker h)
  · exact keeps_takeSummary (keeps_modWorker h)
  · exact keeps_modWorker h
  · exact keeps_modWorker h
  · exact keeps_modWorker h

theorem keeps_groupDatagram (h : Keeps s0 u) : Keeps s0 (groupDatagram via g u) := by
  unfold groupDatagram
  refine keeps_ite (keeps_raiseFault _ _ (keeps_authDrop h)) (keeps_ite (keeps_workerTakes h) ?_)
  split
  · exact keeps_managerTakes h
  · exact keeps_raiseFault _ _ (keeps_authDrop h)

theorem keeps_coordAct {p : List Word} (h : Keeps s0 u) : Keeps s0 (coordAct p u) := by
  unfold coordAct
  exact keeps_modeCommit (keeps_discardOutputs (keeps_runOpcode (h.plain rfl rfl rfl rfl)))

theorem keeps_forwardService {fromB : Bool} {f : SvcFrame} (h : Keeps s0 u) : Keeps s0 (forwardService fromB f u) := by
  unfold forwardService
  split
  · exact h.plain rfl rfl rfl rfl
  · exact h

end

end Sys2Proof.Machine
end

section
/-! PROOF. Every step keeps the invariant and the unit (R69, R414, R419, R470, R485). -/

namespace Sys2Proof.Machine

open Sys2Proof

section
variable {s0 u : State} {ch : Ch} {ok : Bool} {r : LaneRx}

/-! ### Every command -/

theorem keepsOut_execStartupSelfcalComplete {mig : MigResult} {cfg : ImgCheck} (h : Keeps s0 u) : KeepsOut s0
    (execStartupSelfcalComplete mig cfg u) := by
  unfold execStartupSelfcalComplete
  refine keeps_ite ?_ h
  dsimp only
  split
  · exact keeps_startLoad (keeps_enterMode h)
  · exact keeps_startLoad (keeps_migrate (keeps_enterMode h))
  · exact keeps_migrationFails (keeps_enterMode h)

theorem keepsOut_execConfigLoadComplete {lgp : ImgCheck} (h : Keeps s0 u) : KeepsOut s0 (execConfigLoadComplete lgp u) := by
  unfold execConfigLoadComplete
  have loaded : Keeps s0 (loadStep u) := keeps_loadStep h
  have dropped : Keeps s0 (dropImage (loadStep u)) := keeps_dropImage loaded
  refine keeps_ite (keeps_endLoad (keeps_lgpLoad (keeps_configureCells (keeps_endSource ?_)))) loaded
  refine keeps_ite (keeps_imageInForce loaded) ?_
  generalize dropImage (loadStep u) = v at dropped ⊢
  exact ⟨fun i => ⟨(dropped.inv i).sources, (dropped.inv i).masks, (dropped.inv i).pwr, (dropped.inv i).mem⟩, loaded.unit⟩

theorem keepsOut_execThermalTripRestart (h : Keeps s0 u) : KeepsOut s0 (execThermalTripRestart u) := by
  unfold execThermalTripRestart
  refine keeps_ite ?_ h
  dsimp only
  split
  · exact keeps_tripEvent (keeps_modPwr _ h id)
  · exact keeps_modPwr _ h id

theorem keepsOut_execVioRangeChange {mv : Nat} (h : Keeps s0 u) : KeepsOut s0 (execVioRangeChange mv u) := by
  unfold execVioRangeChange
  exact keeps_ite (keeps_vioCheck (keeps_modPwr _ h id)) (keeps_modPwr _ h id)

theorem keepsOut_execRemovalRequest (h : Keeps s0 u) : KeepsOut s0 (execRemovalRequest u) := by
  unfold execRemovalRequest
  exact keeps_ite (keeps_requestRemoval (keeps_wakeCore (keeps_modPwr _ h id))) (keeps_wakeCore (keeps_modPwr _ h id))

theorem keepsOut_execRateChange (h : Keeps s0 u) : KeepsOut s0 (execRateChange u) := by
  unfold execRateChange
  split
  · exact h
  · exact keeps_ite (keeps_mapCells _ (keeps_finishOpt _ _ _ _ (keeps_deactivateFor (keeps_modSpring _ h)))) h

theorem keepsOut_execLocalImageComplete {inTime : Bool} (h : Keeps s0 u) : KeepsOut s0 (execLocalImageComplete inTime u) := by
  unfold execLocalImageComplete
  refine keeps_ite ?_ h
  extract_lets s1 s2 _ s3
  have h1 : Keeps s0 s1 := keeps_goodCount (keeps_foldl h (fun _ _ hv => keeps_missingResult hv))
  have h2 : Keeps s0 s2 := keeps_frameSwitch (keeps_releaseEngine (keeps_expireSubs h1))
  clear_value s2
  have h3 : Keeps s0 s3 := h2.plain rfl rfl rfl rfl
  clear_value s3
  exact keeps_sendCasImage (keeps_ite (keeps_firstEval h3) h3)

theorem keepsOut_execCommitCutoff {x : CutoffIn} (h : Keeps s0 u) : KeepsOut s0 (execCommitCutoff x u) := by
  unfold execCommitCutoff
  refine keeps_ite (keeps_sendTickSymbol (keeps_sendService (keeps_flushGroup (keeps_goodCount (keeps_ite
    (keeps_stoppedFrame h) ?_))))) h
  split
  · exact keeps_ite (keeps_commitFrame h) (keeps_emptyFrame h)
  · exact keeps_emptyFrame h

theorem keepsOut_execPtpSourceTimeout (h : Keeps s0 u) : KeepsOut s0 (execPtpSourceTimeout u) := by
  unfold execPtpSourceTimeout
  split
  · exact keeps_enterHoldover h
  · exact keeps_setSpring (keeps_ite (keeps_modSpring _ h) h)
  · exact h
  · exact h
  · exact h

theorem keepsOut_execStepApply (h : Keeps s0 u) : KeepsOut s0 (execStepApply u) := by
  unfold execStepApply
  split
  · exact h
  · exact keeps_raiseFault _ _ (keeps_modSpring _ h)

theorem keepsOut_execPtpMasterTransmit (h : Keeps s0 u) : KeepsOut s0 (execPtpMasterTransmit u) := by
  unfold execPtpMasterTransmit
  exact keeps_sendOn (keeps_sendOn (keeps_sendOn h))

theorem keepsOut_execPtpPdelayMessage {port : NetPort} {m : PdelayMsg} (h : Keeps s0 u) : KeepsOut s0
    (execPtpPdelayMessage port m u) := by
  unfold execPtpPdelayMessage
  refine keeps_ite ?_ h
  split
  · exact keeps_sendOn (keeps_wakeCore h)
  · exact keeps_modPort (keeps_wakeCore h)

theorem keepsOut_execSyncInEdge {rising : Bool} {highNs lowNs : Nat} {errNs freq : Int} (h : Keeps s0 u) : KeepsOut s0
    (execSyncInEdge rising highNs lowNs errNs freq u) := by
  unfold execSyncInEdge
  refine keeps_ite h ?_
  split
  · exact keeps_ite h (keeps_ite (keeps_ppsSource h) (keeps_ppsMonitor h))
  · exact keeps_ite h (keeps_sendTriggers (keeps_stampEdge h))
  · exact h

theorem keepsOut_execLaneAck {toCell : Bool} (h : Keeps s0 u) : KeepsOut s0 (execLaneAck ch toCell u) := by
  unfold execLaneAck
  refine keeps_ite ?_ (keeps_modCell _ _ h)
  split
  · exact keeps_confirmFrame h
  · exact keeps_modCell _ _ h
  · exact h
  · exact h
  · exact h
  · exact h
  · exact keeps_modCell _ _ h
  · exact keeps_modCell _ _ h
  · exact keeps_modCell _ _ h
  · exact keeps_modCell _ _ h
  · exact keeps_modCell _ _ h
  · exact keeps_modCell _ _ h

theorem keepsOut_execResultReceived (h : Keeps s0 u) : KeepsOut s0 (execResultReceived ch ok u) := by
  unfold execResultReceived
  split
  · exact h
  · exact keeps_ite h (keeps_ite (keeps_modCell _ _ h) (keeps_resultStale h))

theorem keepsOut_execHoldoverReceived (h : Keeps s0 u) : KeepsOut s0 (execHoldoverReceived ch r u) := by
  unfold execHoldoverReceived
  split
  · exact keeps_ite (keeps_modCell _ _ (keeps_enterHold h)) h
  · exact h

theorem keepsOut_execUcodeReceived {last : Bool} {crc : Nat} (h : Keeps s0 u) : KeepsOut s0
    (execUcodeReceived ch r last crc u) := by
  unfold execUcodeReceived
  split
  · exact keeps_ite h (keeps_ite (keeps_ucodeLoaded (keeps_modCell _ _ h)) (keeps_modCell _ _ h))
  · exact h

theorem keepsOut_execCfgaReceived (h : Keeps s0 u) : KeepsOut s0 (execCfgaReceived ch r u) := by
  unfold execCfgaReceived
  split
  · exact keeps_ite h (keeps_ite (keeps_confirmFrame (keeps_modCell _ _ h)) (keeps_writeStoreFails (keeps_modCell _ _ h)))
  · exact h

theorem keepsOut_execHelloReceived (h : Keeps s0 u) : KeepsOut s0 (execHelloReceived ch ok u) := by
  unfold execHelloReceived
  refine keeps_ite h ?_
  extract_lets s1 s2 s3 s4
  have h1 : Keeps s0 s1 := keeps_modLane (keeps_wakeCore h)
  have h2 : Keeps s0 s2 := keeps_ite (keeps_helloReset h1) (keeps_helloResume h1)
  have h3 : Keeps s0 s3 := keeps_dieBack (keeps_reportConds _ (keeps_causeOff _ _ h2))
  have h4 : Keeps s0 s4 := keeps_ite (keeps_reloadCell h3) (keeps_ite (keeps_modCell _ _ (keeps_rejoinLate h3))
    (keeps_modCell _ _ h3))
  exact keeps_refreshLoss h4

theorem keepsOut_execInputTestEnd {lo hi : Int} {rawAfter : Bool} (h : Keeps s0 u) : KeepsOut s0
    (execInputTestEnd ch lo hi rawAfter u) := by
  unfold execInputTestEnd
  exact keeps_ite h (keeps_ite (keeps_testComplete (keeps_testVerdict (keeps_diReconnect h))) (keeps_testComplete
    (keeps_testVerdict (keeps_modCell _ _ h))))

theorem keepsOut_execRefbConversion {ratio : Int} (h : Keeps s0 u) : KeepsOut s0 (execRefbConversion ch ratio u) := by
  unfold execRefbConversion
  refine keeps_ite h ?_
  extract_lets s1 _ _ s2
  have h1 : Keeps s0 s1 := keeps_modCell _ _ h
  have h2 : Keeps s0 s2 := keeps_ite (keeps_condOn _ _ h1) (keeps_ite (keeps_condOff _ _ h1) h1)
  exact keeps_ite (keeps_condOn _ _ h2) (keeps_ite (keeps_condOff _ _ h2) h2)

theorem keepsOut_execAoaOpenDetect {absent : Bool} (h : Keeps s0 u) : KeepsOut s0 (execAoaOpenDetect ch absent u) := by
  unfold execAoaOpenDetect
  exact keeps_ite h (keeps_ite (keeps_ite (keeps_condOff _ _ h) h) (keeps_ite (keeps_condOn _ _ h) h))

theorem keepsOut_execHartFrameReceived {bytes : List Byte} {ageNs : Nat} {parityOk laneOk : Bool} (h : Keeps s0 u) :
    KeepsOut s0 (execHartFrameReceived ch bytes ageNs parityOk laneOk u) := by
  unfold execHartFrameReceived
  exact keeps_ite h (keeps_ite (keeps_hartReply h) (keeps_ite (keeps_modCell _ _ h) h))

theorem keepsOut_execHsrFrameForward {f : RingFrame} (h : Keeps s0 u) : KeepsOut s0 (execHsrFrameForward f u) := by
  unfold execHsrFrameForward
  refine keeps_ite ?_ h
  extract_lets s1 s2
  have h1 : Keeps s0 s1 := keeps_countRx h
  have h2 : Keeps s0 s2 := keeps_ite h1 (keeps_countFcs h1)
  exact keeps_ite (keeps_ite (keeps_portHeard h2) h2) (keeps_ite (keeps_countDup (keeps_touchDup h2)) (keeps_ite
    (keeps_verifyDup (keeps_ite (keeps_enterDup h2) (keeps_forwardCopy (keeps_enterDup h2)))) (keeps_failDup (keeps_ite
    (keeps_enterDup h2) (keeps_forwardCopy (keeps_enterDup h2))))))

theorem keepsOut_execGooseFrameReceived {f : GooseFrame} (h : Keeps s0 u) : KeepsOut s0 (execGooseFrameReceived f u) := by
  unfold execGooseFrameReceived
  refine keeps_ite ?_ h
  dsimp only
  split
  · exact keeps_ite (keeps_wakeCore h) (keeps_foldl (keeps_enterDup (keeps_wakeCore h)) (fun _ _ hv => keeps_gooseWords hv))
  · exact keeps_subHealth (keeps_gooseEnd (keeps_wakeCore h))

theorem keepsOut_execMirrorFrameReceived {f : MirrorFrame} (h : Keeps s0 u) : KeepsOut s0 (execMirrorFrameReceived f u) := by
  unfold execMirrorFrameReceived
  refine keeps_ite ?_ h
  dsimp only
  split
  · exact keeps_ite (keeps_wakeCore h) (keeps_foldl (keeps_enterDup (keeps_wakeCore h)) (fun _ _ hv => keeps_mirrorWords hv))
  · exact keeps_subHealth (keeps_mirrorEnd (keeps_wakeCore h))

theorem keepsOut_execUdpDataDatagram {session : BitVec 32} {seq : BitVec 64} {tagOk : Bool} {ws : List Word}
    (h : Keeps s0 u) : KeepsOut s0 (execUdpDataDatagram session seq tagOk ws u) := by
  unfold execUdpDataDatagram
  refine keeps_ite h ?_
  split
  · exact keeps_rateLimit (fun _ hv => hv) (keeps_wakeCore h)
  · exact keeps_sessionDatagram (keeps_wakeCore h)

theorem keepsOut_execCasReclaimHandover (h : Keeps s0 u) : KeepsOut s0 (execCasReclaimHandover u) := by
  unfold execCasReclaimHandover
  split
  · exact keeps_finishOp _ _ _ _ (keeps_modCas _ h)
  · exact keeps_ite (keeps_modCas _ h) h

theorem keepsOut_execCasImageReceived {fromB : Bool} {img : CasImage} {crcOk : Bool} (h : Keeps s0 u) : KeepsOut s0
    (execCasImageReceived fromB img crcOk u) := by
  unfold execCasImageReceived
  refine keeps_ite h ?_
  extract_lets i s1 s2 bad
  have h1 : Keeps s0 s1 := keeps_modCas _ h
  have h2 : Keeps s0 s2 := by
    unfold s2
    cases img.phase
    case words => exact keeps_imageWords h1
    case check => exact keeps_imageEnd h1
  exact keeps_ite (keeps_raiseFault _ _ h2) h2

theorem keepsOut_execCoordActivation (h : Keeps s0 u) : KeepsOut s0 (execCoordActivation u) := by
  unfold execCoordActivation
  split
  · exact keeps_ite (keeps_coordAct h) h
  · exact h
  · exact h

theorem keepsOut_execStaggerBatchLimit (h : Keeps s0 u) : KeepsOut s0 (execStaggerBatchLimit u) := by
  unfold execStaggerBatchLimit
  split
  · exact keeps_ite (keeps_failAction h) h
  · exact h

theorem keepsOut_execSelfcalComplete (h : Keeps s0 u) : KeepsOut s0 (execSelfcalComplete u) := by
  unfold execSelfcalComplete
  split
  · exact keeps_ite (keeps_finishOp _ _ _ _ h) (keeps_finishOp _ _ _ _ h)
  · exact h

theorem keepsOut_execCalStoreWriteComplete (h : Keeps s0 u) : KeepsOut s0 (execCalStoreWriteComplete ch ok u) := by
  unfold execCalStoreWriteComplete
  split
  · exact h
  · exact keeps_ite (keeps_finishOp _ _ _ _ (keeps_condSet _ _ _ (keeps_modCell _ _ h))) (keeps_finishOp _ _ _ _
      (keeps_condOn _ _ (keeps_modCell _ _ h)))

theorem keepsOut_execAoTrimTimeout (h : Keeps s0 u) : KeepsOut s0 (execAoTrimTimeout ch u) := by
  unfold execAoTrimTimeout
  split
  · exact keeps_ite h (keeps_finishOp _ _ _ _ (keeps_modCell _ _ h))
  · exact h

theorem keepsOut_execLpStageComplete {flashOk : Bool} (h : Keeps s0 u) : KeepsOut s0 (execLpStageComplete flashOk u) := by
  unfold execLpStageComplete
  split
  · exact keeps_finishStage h
  · exact h

theorem keepsOut_execImgVerifyComplete {v : VerifyResult} (h : Keeps s0 u) : KeepsOut s0 (execImgVerifyComplete v u) := by
  unfold execImgVerifyComplete
  split
  · exact keeps_finishVerify h
  · exact h

theorem keepsOut_execAttestComplete (h : Keeps s0 u) : KeepsOut s0 (execAttestComplete u) := by
  unfold execAttestComplete
  split
  · exact h
  · exact keeps_finishOp _ _ _ _ (keeps_drawFree (h.update rfl id id rfl))

theorem keepsOut_execAnnounceReceiptTimeout {port : NetPort} (h : Keeps s0 u) : KeepsOut s0
    (execAnnounceReceiptTimeout port u) := by
  unfold execAnnounceReceiptTimeout
  exact keeps_ite (keeps_modSpring _ (keeps_selectMaster (h.plain rfl rfl rfl rfl))) (keeps_selectMaster
    (h.plain rfl rfl rfl rfl))

theorem keepsOut_execSeHealthTestFail {trng : Bool} (h : Keeps s0 u) : KeepsOut s0 (execSeHealthTestFail trng u) := by
  unfold execSeHealthTestFail
  exact keeps_whenCore (fun _ hv => keeps_raiseFault _ _ hv) h

theorem keepsOut_execFactoryCommand {c : Ctx} {op : FactoryOp} (h : Keeps s0 u) : KeepsOut s0
    (execFactoryCommand c op u) := by
  have h1 : Keeps s0 (acceptPacket c u) := keeps_acceptPacket c h
  refine keepsOut_ite (keeps_answer _ _ _ h1) ?_
  cases op
  case inject => exact keeps_opInject h1
  case memoryWord => exact keeps_answer _ _ _ (keeps_memoryFound (fun _ _ _ hn hv => keeps_raiseInjected hn hv) h1)
  case laneCheck => exact keeps_answer _ _ _ (keeps_resend h1)
  case stopClock => exact keeps_answer _ _ _ (keeps_injectStop h1)
  case other => trivial

/-- Every command keeps the invariant and the unit. -/
theorem keepsOut_exec (h : Keeps s0 u) : ∀ i : Instr, KeepsOut s0 (exec i u)
  | .vsysValid _ => keeps_ite h (keeps_ite (keeps_vsysBack h) (keeps_powerOnReset (keeps_vsysBack h)))
  | .vsysPowerFail _ => keeps_ite (keeps_losePower (keeps_freeRtc (keeps_modPwr _ h id))) h
  | .powerFailComplete _ => keeps_ite (keeps_endPowerFail h) h
  | .holdupCharged => keeps_modPwr _ h id
  | .presNLow => keeps_ite h (keeps_ite (keeps_powerOnReset (keeps_presDown h)) (keeps_ite (keeps_modMd _ (keeps_presWait
      (keeps_presDown h))) (keeps_wakeCore (keeps_presDown h))))
  | .presNRelease => keeps_ite h (keeps_ite (keeps_wakeCore (keeps_modPwr _ h id)) (keeps_losePower (keeps_wakeCore
      (keeps_modPwr _ h id))))
  | .bootBegin _ _ _ => keeps_ite (keeps_chooseSlot (keeps_drawKeys (keeps_modMd _ (keeps_modPwr _ h id)))) h
  | .firmwareStart _ _ _ _ _ => keeps_ite (keeps_soeSystem (keeps_temperatures (keeps_openPort (keeps_lifeBoot (keeps_cmcCheck
      (keeps_vioCheck (keeps_stormCheck (keeps_exitCheck (keeps_slotCheck (keeps_startClock (keeps_bootRegs h))))))))))) h
  | .startupLanesUp => keeps_ite (keeps_mapCells _ (keeps_enterMode h)) h
  | .startupSelfcalComplete _ _ => keepsOut_execStartupSelfcalComplete h
  | .configLoadComplete _ => keepsOut_execConfigLoadComplete h
  | .armedTicksElapsed => keeps_ite (keeps_decideMode _ h) h
  | .moduleReset _ => keeps_ite (keeps_moduleReset h) h
  | .thermalTrip => keeps_ite (keeps_modPwr _ (keeps_moduleReset h) id) h
  | .thermalTripRestart => keepsOut_execThermalTripRestart h
  | .vioRangeChange _ => keepsOut_execVioRangeChange h
  | .vbatBrownout => keeps_ite h (keeps_modPwr _ h id)
  | .vbatCheck _ => keeps_ite (keeps_levelFault _ _ _ (keeps_modPwr _ h id)) h
  | .vsysSample _ => keeps_ite (keeps_inputFault (keeps_modPwr _ h id)) h
  | .powerAverageUpdate _ => keeps_ite (keeps_levelFault _ _ _ (keeps_inputFault (keeps_ite (keeps_levelFault _ _ _
      (keeps_modPwr _ h id)) (keeps_vioCheck (keeps_levelFault _ _ _ (keeps_modPwr _ h id)))))) h
  | .temperatureThreshold _ _ => keeps_ite (keeps_temperatures h) h
  | .powerStateEnter _ => keeps_ite (keeps_modPwr _ h id) h
  | .powerStateWake => keeps_wakeCore h
  | .cellPowerStateEnter _ _ => keeps_modCell _ _ h
  | .removalRequest => keepsOut_execRemovalRequest h
  | .mramFlushComplete => keeps_removalAck (keeps_flushMram h)
  | .removalCancel => keeps_ite (keeps_cancelRemoval (keeps_wakeCore (keeps_modPwr _ h id))) h
  | .tamperSample _ => keeps_ite (keeps_tamperSample h) h
  | .rtcDiscipline => keeps_ite (keeps_clockGoodSecond (keeps_modSpring _ h)) h
  | .tickMarkerLaunch _ => keeps_ite (keeps_goodCount (keeps_modSpring _ h)) h
  | .sluiceCommit _ => keeps_loadStep (keeps_sluiceCommit h)
  | .functionStart _ => keeps_ite (keeps_writeMarker (keeps_ite (keeps_condOff _ _ (keeps_modCell _ _ h))
      (keeps_modCell _ _ h))) h
  | .rateChange => keepsOut_execRateChange h
  | .localImageComplete _ => keepsOut_execLocalImageComplete h
  | .firstEvalComplete => keepsOut_firstEvalComplete h
  | .replayPassComplete => keepsOut_replayPassComplete h
  | .commitCutoff _ => keepsOut_execCommitCutoff h
  | .recordClose => keeps_ite (keeps_closeRecord h) h
  | .gooseRetransmit _ => keeps_ite (keeps_modGpub h) h
  | .ptpSyncReceived _ _ _ => keeps_ite (keeps_ite (keeps_measure (keeps_noteFreq (keeps_modSpring _ (keeps_wakeCore h))))
      (keeps_modSpring _ (keeps_wakeCore h))) h
  | .ptpSourceTimeout => keepsOut_execPtpSourceTimeout h
  | .holdoverUpdate => keeps_ite (keeps_ite (keeps_raiseFault _ _ (keeps_setSpring (keeps_modSpring _ h)))
      (keeps_modSpring _ h)) h
  | .stepApply => keepsOut_execStepApply h
  | .slewStart => keeps_ite (keeps_modSpring _ h) h
  | .slewEnd => keeps_ite (keeps_modSpring _ h) h
  | .ptpAnnounceReceived _ _ => keeps_ite (keeps_ite (keeps_takeUtc (keeps_selectMaster (h.plain rfl rfl rfl rfl)))
      (keeps_selectMaster (h.plain rfl rfl rfl rfl))) h
  | .ptpMasterTransmit => keepsOut_execPtpMasterTransmit h
  | .ptpPdelayMessage _ _ => keepsOut_execPtpPdelayMessage h
  | .leapSecondApply => keeps_modSpring _ h
  | .syncInEdge _ _ _ _ _ => keepsOut_execSyncInEdge h
  | .ppsMissing => keeps_ite (keeps_raiseFault _ _ h) h
  | .laneCommaDetected _ => keeps_ite (keeps_modLane (keeps_wakeCore h)) h
  | .laneTrainTimeout _ => keeps_ite (keeps_modLane (keeps_wakeCore h)) h
  | .laneSymbolLoss _ => keeps_laneLost (keeps_wakeCore h)
  | .laneAck _ _ => keepsOut_execLaneAck h
  | .laneNak _ _ => keeps_resend h
  | .laneAnswerTimeout _ _ => keeps_resend h
  | .resultReceived _ _ => keepsOut_execResultReceived h
  | .outFrameReceived _ _ => keeps_modCell _ _ h
  | .cfgwReceived _ _ => keeps_modCell _ _ h
  | .cfgrReceived _ _ => keeps_modCell _ _ h
  | .applyReceived _ _ => keeps_modCell _ _ h
  | .holdoverReceived _ _ => keepsOut_execHoldoverReceived h
  | .ucodeReceived _ _ _ _ => keepsOut_execUcodeReceived h
  | .cfgaReceived _ _ => keepsOut_execCfgaReceived h
  | .configWriteDeadline _ => keeps_ite (keeps_failWrite (keeps_frameFailed h)) h
  | .configWriteLaneTimeout _ => keeps_ite h (keeps_failWrites h)
  | .helloReceived _ _ => keepsOut_execHelloReceived h
  | .helloRepeat _ => keeps_ite (keeps_modLane h) h
  | .eventFrameReceived _ _ _ => keeps_ite (keeps_modCell _ _ (keeps_takeEvent (keeps_wakeCore h))) h
  | .statusReceived _ _ _ _ _ _ => keeps_ite h (keeps_modCell _ _ h)
  | .statusSend _ => keeps_modCell _ _ h
  | .cellPowerUp _ _ => keeps_ite (keeps_powerUpCell h) h
  | .cellSupplyLoss _ => keeps_ite h (keeps_modCell _ _ (keeps_cellResets h))
  | .cellReset _ _ => keeps_cellResets h
  | .wdLaneExpire _ => keeps_ite (keeps_wdExpire h) h
  | .wdSeqExpire _ => keeps_cellResets h
  | .holdoverExpire _ => keeps_ite (keeps_wdExpire h) h
  | .cellSelfcalComplete _ _ => keeps_rejoinLoaded (keeps_cellSelfcalDone h)
  | .diRawEdge _ _ _ => keeps_diRawEdge h
  | .debounceExpire _ => keeps_diDebounceExpire h
  | .chatterQuietExpire _ => keeps_ite (keeps_modCell _ _ h) h
  | .wireBreakTimeout _ _ => keeps_ite h (keeps_ite (keeps_condOff _ _ h) (keeps_ite (keeps_condOn _ _ h) h))
  | .sensorShortDetect _ _ => keeps_ite h (keeps_ite (keeps_condOff _ _ h) (keeps_ite (keeps_condOn _ _ h) h))
  | .sensorSupplyRetry _ _ => keeps_ite (keeps_modCell _ _ h) h
  | .diOverrangeTimer _ _ => keeps_ite (keeps_condSet _ _ _ h) h
  | .eventQueueSpace _ => keeps_ite (keeps_modCell _ _ h) h
  | .inputTestEnd _ _ _ _ => keepsOut_execInputTestEnd h
  | .doLimitTimeout _ => keeps_ite (keeps_swProtectiveOff (keeps_ite h (keeps_condPulse _ _ h))) (keeps_ite
      (keeps_modCell _ _ h) h)
  | .inrushWindowClose _ _ => keeps_ite (keeps_modCell _ _ h) h
  | .switchThermalShutdown _ => keeps_ite (keeps_swThermalOff h) h
  | .thermalLatchRelease _ => keeps_ite (keeps_swThermalOn h) h
  | .retryDelayExpire _ => keeps_ite (keeps_modCell _ _ h) h
  | .overvoltDetect _ _ => keeps_ite (keeps_condSet _ _ _ (keeps_modCell _ _ h)) h
  | .clampWindowEnd _ => keeps_modCell _ _ h
  | .supplyDip _ _ => keeps_ite (keeps_swSupply h) h
  | .supplyReturn _ _ => keeps_ite (keeps_swSupply h) h
  | .dipMemExpire _ => keeps_ite (keeps_condOn _ _ (keeps_modCell _ _ h)) h
  | .backfeedDetect _ => keeps_ite h (keeps_ite (keeps_condOn _ _ (keeps_swOffConds (keeps_modCell _ _ h)))
      (keeps_modCell _ _ h))
  | .doDiagTimer _ _ _ => keeps_ite h (keeps_ite (keeps_swDiagClear h) (keeps_swDiagSet h))
  | .xsdProxyUpdate _ _ => keeps_ite (keeps_ite (keeps_swThermalOff (keeps_modCell _ _ h)) (keeps_ite (keeps_swThermalOn
      (keeps_modCell _ _ h)) (keeps_modCell _ _ h))) h
  | .tcsPulseStart _ => keeps_ite (keeps_modCell _ _ h) h
  | .tcsPulseEnd _ _ => keeps_ite h (keeps_ite (keeps_condOff _ _ (keeps_modCell _ _ h)) (keeps_ite (keeps_condOn _ _
      (keeps_modCell _ _ h)) (keeps_modCell _ _ h)))
  | .shuntDisconnect _ => keeps_ite (keeps_condOn _ _ (keeps_modCell _ _ h)) h
  | .shuntReconnect _ _ => keeps_ite h (keeps_ite (keeps_ite h (keeps_condOff _ _ h)) (keeps_ite (keeps_modCell _ _ h) h))
  | .aiOverrangeTimer _ _ => keeps_ite h (keeps_ite (keeps_ite (keeps_condOn _ _ h) h) (keeps_ite (keeps_condOff _ _ h) h))
  | .refbConversion _ _ => keepsOut_execRefbConversion h
  | .replicaCycleEnd _ _ _ _ => keeps_ite h (keeps_refreshTestFail (keeps_modCell _ _ h))
  | .injTrigger _ => keeps_ite (keeps_modCell _ _ h) h
  | .injEntryResult _ _ => keeps_ite (keeps_modCell _ _ h) h
  | .injFreezeTimeout _ => keeps_ite (keeps_modCell _ _ h) h
  | .aoThermalLimit _ => keeps_ite (keeps_aoThermalCut (keeps_condOn _ _ (keeps_modCell _ _ h))) h
  | .aoThermalRelease _ => keeps_ite (keeps_condOff _ _ (keeps_modCell _ _ h)) h
  | .complianceTimer _ _ => keeps_ite (keeps_condSet _ _ _ h) h
  | .aoaOpenDetect _ _ => keepsOut_execAoaOpenDetect h
  | .aoaExtVoltage _ _ => keeps_ite h (keeps_ite (keeps_modCell _ _ h) (keeps_condOn _ _ (keeps_modCell _ _ h)))
  | .aoaLowSupply _ _ => keeps_ite (keeps_condSet _ _ _ h) h
  | .aopStepDown _ _ => keeps_ite (keeps_hartShed (keeps_modCell _ _ h)) h
  | .aopLoopPowerUp _ => keeps_ite (keeps_powerUpCell h) h
  | .hartQuietElapsed _ => keeps_ite h (keeps_ite (keeps_hartEnd h) (keeps_hartShed (keeps_hartPhase h)))
  | .hartTxEnd _ => keeps_ite (keeps_hartShed (keeps_hartPhase h)) h
  | .hartReplyTimeout _ => keeps_ite (keeps_hartEnd h) h
  | .hartFrameReceived _ _ _ _ _ => keepsOut_execHartFrameReceived h
  | .hsrFrameForward _ => keepsOut_execHsrFrameForward h
  | .dupEntryExpire _ => keeps_dropDup h
  | .gooseFrameReceived _ => keepsOut_execGooseFrameReceived h
  | .mirrorFrameReceived _ => keepsOut_execMirrorFrameReceived h
  | .subFreshnessExpire _ => keeps_expireSub h
  | .localFrameReceived _ _ _ => keeps_ite (keeps_ite (keeps_countFcs (keeps_countRx (keeps_wakeCore h))) (keeps_ite
      (keeps_prpHeard (keeps_countRx (keeps_wakeCore h))) (keeps_rateLimit (fun _ hv => hv) (keeps_prpHeard (keeps_countRx
      (keeps_wakeCore h)))))) h
  | .portLinkDown _ => keeps_ite (keeps_refreshLoss (keeps_ite (keeps_selectMaster (keeps_modPort h)) (keeps_raiseFault _ _
      (keeps_selectMaster (keeps_modPort h))))) h
  | .portLinkUp _ _ _ => keeps_ite (keeps_ite (keeps_ite (keeps_selectMaster (keeps_modPort h)) h) (keeps_refreshLoss
      (keeps_selectMaster (keeps_clearFault _ (keeps_modPort (keeps_drawFree h)))))) h
  | .portsRestarted => keeps_finishOpt _ _ _ _ (h.plain rfl rfl rfl rfl)
  | .redundancySupervisionSend => keeps_ite (keeps_sendOn (h.plain rfl rfl rfl rfl)) h
  | .supervisionMissing _ => keeps_ite (keeps_ite (keeps_modPort h) (keeps_raiseFault _ _ (keeps_modPort h))) h
  | .udpHandshakeMsg1 _ => keeps_mgmtFrame (fun _ hv => keeps_takeMessage1 hv) h
  | .udpHandshakeMsg3 _ _ => keeps_mgmtFrame (fun _ hv => keeps_takeMessage3 hv) h
  | .handshakeTimeout => keeps_ite (keeps_failHandshake h) h
  | .udpDataDatagram _ _ _ _ => keepsOut_execUdpDataDatagram h
  | .sessionExpire _ => keeps_ite (keeps_closeSession h) h
  | .arpIcmpRequest _ _ => keeps_ite (keeps_rateLimit (fun _ hv => keeps_sendOn hv) (keeps_countRx (keeps_wakeCore h))) h
  | .casTrainingComplete _ => keeps_ite h (keeps_ite (keeps_ite (keeps_modCas _ (keeps_modCas _ h)) (keeps_raiseFault _ _
      (keeps_modCas _ (keeps_modCas _ h)))) (keeps_clearFault _ (keeps_modCas _ (keeps_modCas _ h))))
  | .casTickSymbol _ _ => keeps_ite (keeps_modCas _ h) (keeps_ite h (keeps_ite (keeps_modCas _ h) (keeps_casWell
      (keeps_modCas _ h))))
  | .casFlywheelTick => keeps_ite h (keeps_raiseFault _ _ (keeps_modCas _ h))
  | .casReclaimHandover => keepsOut_execCasReclaimHandover h
  | .casImageReceived _ _ _ => keepsOut_execCasImageReceived h
  | .casLinkBreak _ => keeps_ite (keeps_refreshLoss (keeps_raiseFault _ _ (keeps_modCas _ h))) h
  | .casRingHealed => keeps_refreshLoss (keeps_casWell (keeps_modCas _ h))
  | .casServiceFrame _ _ _ _ => keeps_ite h (keeps_ite (keeps_modCas _ h) (keeps_ite (keeps_groupDatagram (keeps_wakeCore h))
      (keeps_forwardService h)))
  | .groupDatagramReceived _ => keeps_mgmtFrame (fun _ hv => keeps_groupDatagram hv) h
  | .groupWorkerTimeout _ => keeps_workerAnswers h
  | .coordActivation => keepsOut_execCoordActivation h
  | .staggerBatchLimit => keepsOut_execStaggerBatchLimit h
  | .workerSummarySend => keeps_ite (keeps_sendUp (keeps_flushGroup h)) h
  | .workerSummaryMissing _ => keeps_ite (keeps_ite (keeps_modWorker h) (keeps_raiseFault _ _ (keeps_modWorker h))) h
  | .hpFrameNop _ => keepsOut_ite trivial (keeps_hostFrame h)
  | .hpFrameRegRead _ => keepsOut_ite trivial (keeps_hostFrame h)
  | .hpFrameRegWrite _ => keepsOut_ite trivial (keeps_hostFrame h)
  | .hpFramePkt _ => keepsOut_ite trivial (keeps_hostFrame h)
  | .hpFrameRsp _ => keepsOut_ite trivial (keeps_hostFrame h)
  | .hrdyStretchLimit _ => keeps_stretchFrame h
  | .rsPairLoRead _ => keeps_latchHi h
  | .injValRead _ => keeps_modCell _ _ h
  | .injStatRead _ => keeps_modCell _ _ h
  | .tiLock => keeps_tiLockOn h
  | .tiUnlock => keeps_tiLockOff h
  | .evtPendClear _ _ => keeps_evtPendClear h
  | .evtSysClear _ => keeps_evtSysClear h
  | .cellCauseClear _ _ => keeps_causeClear h
  | .errAck _ => keeps_errAckWrite h
  | .hpCtlClr => keeps_hpClear h
  | .secCtlClearTamper _ => keeps_secCtlWrite h
  | .cuIn8 _ _ => keeps_cuIn h
  | .cuIn16 _ _ => keeps_cuIn h
  | .cuIn32 _ _ => keeps_cuIn h
  | .cuRestart _ _ => keeps_cuRestart h
  | .cuCheck _ _ => keeps_cuCheck h
  | .cuAliveFold _ _ => keeps_cuFold h
  | .cuAliveSetExpect _ _ => keeps_cuExpect h
  | .cuValWrite _ _ => keeps_cuValWrite h
  | .cuStatClear _ _ => keeps_cuStatClear h
  | .registerWrite _ _ => keeps_regWrite h
  | .serviceFrame _ => keepsOut_ite h (keepsOut_ite (keeps_svcLenErr h) (keepsOut_ite trivial (keeps_runPacket h)))
  | .serviceFrameGap => keeps_ite (keeps_svcLenErr h) h
  | .svcEnNHigh => keeps_dropPart (h.update rfl id id rfl)
  | .factoryKeyPresented => keeps_ite (keeps_decideMode _ h) h
  | .partialRecordDiscard _ _ => keeps_dropPart h
  | .lockstepMismatch => keeps_whenCore (fun _ hv => keeps_raiseFault _ _ (keeps_modMd _ hv)) h
  | .processorWatchdogExpire => keeps_whenCore (fun _ hv => keeps_raiseFault _ _ (keeps_modMd _ hv)) h
  | .memoryEccError _ _ _ => keeps_whenCore (fun _ hv => keeps_memoryError hv) h
  | .memoryScrubPass _ _ => keeps_whenCore (fun _ hv => keeps_scrubPass hv) h
  | .crossingTimeout _ _ _ => keeps_whenCore (fun _ hv => keeps_crossingTimeout hv) h
  | .crossingProbe _ _ => keeps_whenCore (fun _ hv => keeps_ite (keeps_modXing hv) hv) h
  | .crossingPulseSaturate _ => keeps_whenCore (fun _ hv => keeps_pulseSaturate hv) h
  | .settleWindowClose _ => keeps_whenCore (fun _ hv => keeps_closeWindow _ hv) h
  | .errHoldExpire _ => keeps_endHold _ (keeps_modSrc _ _ h (fun _ => ⟨id, rfl, rfl⟩))
  | .errDynToggle => keeps_whenCore (fun _ hv => keeps_dynToggle hv) h
  | .lifeCounterSave => keeps_whenCore (fun _ hv => keeps_lifeSave hv) h
  | .lifeCellCopy => keeps_mapCells _ h
  | .selfcalComplete => keepsOut_execSelfcalComplete h
  | .calStoreWriteComplete _ _ => keepsOut_execCalStoreWriteComplete h
  | .aoTrimTimeout _ => keepsOut_execAoTrimTimeout h
  | .lpStageComplete _ => keepsOut_execLpStageComplete h
  | .imgVerifyComplete _ => keepsOut_execImgVerifyComplete h
  | .attestComplete => keepsOut_execAttestComplete h
  | .getInfo _ _ => keeps_opGetInfo (keeps_acceptPacket _ h)
  | .setMode _ _ => keeps_opSetMode (keeps_acceptPacket _ h)
  | .getStatus _ _ => keeps_opGetStatus (keeps_acceptPacket _ h)
  | .abort _ _ => keeps_opAbort (keeps_acceptPacket _ h)
  | .reset _ _ => keeps_opReset (keeps_acceptPacket _ h)
  | .quiesce _ _ => keeps_opQuiesce (keeps_acceptPacket _ h)
  | .setTick _ _ => keeps_opSetTick (keeps_acceptPacket _ h)
  | .sysConfig _ _ => keeps_opSysConfig (keeps_acceptPacket _ h)
  | .chConfig _ _ => keeps_opChConfig (keeps_acceptPacket _ h)
  | .chReadConfig _ _ => keeps_opChReadConfig (keeps_acceptPacket _ h)
  | .chSetFailsafe _ _ => keeps_opChSetFailsafe (keeps_acceptPacket _ h)
  | .chForce _ _ => keeps_opChForce (keeps_acceptPacket _ h)
  | .chClearLatch _ _ => keeps_opChClearLatch (keeps_acceptPacket _ h)
  | .inputTest _ _ => keeps_opInputTest (keeps_acceptPacket _ h)
  | .injSeqConfig _ _ => keeps_opInjSeqConfig (keeps_acceptPacket _ h)
  | .hartTx _ _ => keeps_opHartTx (keeps_acceptPacket _ h)
  | .hartRx _ _ => keeps_opHartRx (keeps_acceptPacket _ h)
  | .selfcal _ _ => keeps_opSelfcal (keeps_acceptPacket _ h)
  | .calWrite _ _ => keeps_opCalWrite (keeps_acceptPacket _ h)
  | .calExport _ _ => keeps_opCalExport (keeps_acceptPacket _ h)
  | .aoTrim _ _ => keeps_opAoTrim (keeps_acceptPacket _ h)
  | .calRestore _ _ _ => keeps_opCalRestore (keeps_acceptPacket _ h)
  | .lpStage _ _ => keeps_opLpStage (keeps_acceptPacket _ h)
  | .lpActivate _ _ => keeps_opLpActivate (keeps_acceptPacket _ h)
  | .lpStats _ _ => keeps_opLpStats (keeps_acceptPacket _ h)
  | .lpReadVar _ _ => keeps_opLpReadVar (keeps_acceptPacket _ h)
  | .netConfig _ _ => keeps_opNetConfig (keeps_acceptPacket _ h)
  | .ptpConfig _ _ => keeps_opPtpConfig (keeps_acceptPacket _ h)
  | .frameDef _ _ => keeps_opFrameDef (keeps_acceptPacket _ h)
  | .netStats _ _ => keeps_opNetStats (keeps_acceptPacket _ h)
  | .casConfig _ _ => keeps_opCasConfig (keeps_acceptPacket _ h)
  | .groupConfig _ _ => keeps_opGroupConfig (keeps_acceptPacket _ h)
  | .groupForward _ _ => keeps_opGroupForward (keeps_acceptPacket _ h)
  | .recConfig _ _ => keeps_opRecConfig (keeps_acceptPacket _ h)
  | .recTrigger _ _ => keeps_opRecTrigger (keeps_acceptPacket _ h)
  | .recRead _ _ => keeps_opRecRead (keeps_acceptPacket _ h)
  | .soeRead _ _ => keeps_opSoeRead (keeps_acceptPacket _ h)
  | .lifeRead _ _ => keeps_opLifeRead (keeps_acceptPacket _ h)
  | .clockSet _ _ => keeps_opClockSet (keeps_acceptPacket _ h)
  | .fltConfig _ _ => keeps_opFltConfig (keeps_acceptPacket _ h)
  | .fltRead _ _ => keeps_opFltRead (keeps_acceptPacket _ h)
  | .fltClear _ _ => keeps_opFltClear (keeps_acceptPacket _ h)
  | .imgBegin _ _ => keeps_opImgBegin (keeps_acceptPacket _ h)
  | .imgBlock _ _ => keeps_opImgBlock (keeps_acceptPacket _ h)
  | .imgVerify _ _ => keeps_opImgVerify (keeps_acceptPacket _ h)
  | .imgActivate _ _ => keeps_opImgActivate (keeps_acceptPacket _ h)
  | .attest _ _ => keeps_opAttest (keeps_acceptPacket _ h)
  | .ownerEnrol _ _ _ => keeps_opOwnerEnrol (keeps_acceptPacket _ h)
  | .factoryCommand _ _ => keepsOut_execFactoryCommand h
  | .oscillatorMonitorFail _ => keeps_ite (keeps_ite (keeps_clearFault _ (keeps_modSpring _ h)) (keeps_modSpring _ h))
      (keeps_ite (keeps_modSrc _ _ (keeps_modSpring _ h) (fun _ => ⟨id, rfl, rfl⟩)) (keeps_raiseFault _ _ (keeps_modSrc _ _
      (keeps_modSpring _ h) (fun _ => ⟨id, rfl, rfl⟩))))
  | .couplerDriverSupplyFault _ => keeps_whenCore (fun _ hv => keeps_driverSupply hv) h
  | .holdupStoreFailure => keeps_modPwr _ h id
  | .announceReceiptTimeout _ => keepsOut_execAnnounceReceiptTimeout h
  | .svcEnNLow => h.update rfl id id rfl
  | .hpFrameMalformed _ => keepsOut_ite trivial (keeps_hostFrame h)
  | .seHealthTestFail trng => keepsOut_execSeHealthTestFail (trng := trng) h
  | .wetPulseEnd _ _ => keeps_ite h (keeps_ite (keeps_modCell _ _ h) (keeps_modCell _ _ h))

/-- A step runs the command at the front of the queue, or passes one idle cycle. -/
theorem keeps_step {s t : State} (hstep : step s = .next t) : Keeps s t := by
  have out : KeepsOut s (step s) := by
    unfold step
    split
    · exact keeps_idleCycle (Keeps.refl s)
    · refine keepsOut_exec ?_ _
      exact (Keeps.refl s).plain rfl rfl rfl rfl
  rw [hstep] at out
  exact out

end

/-- Settles O58: what every step keeps holds of the invariant's four parts. -/
theorem stepKeepsInvariant : Obligations.StepKeepsInvariant := fun _ _ hs hstep => (keeps_step hstep).inv hs

/-- Settles O59: identity words are those of before, and a counter only ever takes a larger value. -/
theorem identityAndRollback : Obligations.IdentityAndRollback := fun _ _ hstep => (keeps_step hstep).unit

end Sys2Proof.Machine
end

section
/-! PROOF. A step at the two forms of the queue; and what a reset of the module leaves of the fault sources. -/

namespace Sys2Proof.Machine

open Sys2Proof

/-! ### The front of the queue -/

/-- One idle cycle is the clock's 8 ns and whatever the spring then shows. -/
theorem idleCycle_eq (s : State) : idleCycle s = { s with clk := s.clk + 8, spring := (idleCycle s).spring } := by
  unfold idleCycle
  extract_lets s1
  split <;> rfl

/-- Settles O56: the queue's front is what `step` matches on. -/
theorem stepRunsFront : Obligations.StepRunsFront := by
  refine ⟨fun _ _ _ => rfl, fun s hidle => ⟨idleCycle s, ?_, ?_, idleCycle_eq s⟩⟩
  · unfold step
    rw [hidle]
  · rw [idleCycle_eq]

/-! ### What a reset leaves of the sources (R417, R435) -/

/-- Every source of `t` is cleared and has its history of `s`, or the saved one where histories are saved. -/
def SrcsReset (s t : State) : Prop :=
  ∀ n : Fin 96, (t.fsrc n).present = false ∧ (t.fsrc n).severe = false ∧ (t.fsrc n).weir = [] ∧
    (s.flt.saved = [] → (t.fsrc n).hist = (s.fsrc n).hist) ∧
    (s.flt.saved ≠ [] → (t.fsrc n).hist = s.flt.saved.getD n.val {})

theorem SrcsReset.congr {s s' t t' : State} (h : SrcsReset s t) (hsrcs : s'.srcs = s.srcs) (hflt : s'.flt = s.flt)
    (ht : t'.srcs = t.srcs) : SrcsReset s' t' := by
  unfold SrcsReset State.fsrc
  rw [hsrcs, hflt, ht]
  exact h

theorem defaultSrc_cleared (i : Nat) :
    (defaultSrc i).present = false ∧ (defaultSrc i).severe = false ∧ (defaultSrc i).weir = [] := by
  unfold defaultSrc
  repeat (split; · exact ⟨rfl, rfl, rfl⟩)
  exact ⟨rfl, rfl, rfl⟩

theorem coreReset_fsrc (s : State) (n : Fin 96) : (coreReset s).fsrc n = coreSrc n.val (s.fsrc n) :=
  Vector.getElem_ofFn n.isLt

theorem restoreHists_of_none {s : State} (h : s.flt.saved = []) : restoreHists s = s := by
  unfold restoreHists
  rw [h]
  rfl

theorem restoreHists_fsrc {s : State} (h : s.flt.saved ≠ []) (n : Fin 96) :
    (restoreHists s).fsrc n = { s.fsrc n with hist := s.flt.saved.getD n.val {} } := by
  have hne : ¬s.flt.saved.isEmpty := by simpa using h
  unfold restoreHists State.fsrc
  rw [if_neg hne]
  exact Vector.getElem_ofFn n.isLt

/-- The core starts again and the saved histories, where there are any, are restored. -/
theorem srcsReset_restoreHists_coreReset (s : State) : SrcsReset s (restoreHists (coreReset s)) := by
  intro n
  obtain ⟨hpresent, hsevere, hweir⟩ := defaultSrc_cleared n.val
  by_cases hsaved : s.flt.saved = []
  · rw [restoreHists_of_none (s := coreReset s) hsaved, coreReset_fsrc]
    exact ⟨hpresent, hsevere, hweir, fun _ => rfl, fun hne => absurd hsaved hne⟩
  · rw [restoreHists_fsrc (s := coreReset s) hsaved, coreReset_fsrc]
    exact ⟨hpresent, hsevere, hweir, fun hnone => absurd hnone hsaved, fun _ => rfl⟩

theorem ctrAdd_srcs (i n : Nat) (s : State) : (ctrAdd i n s).srcs = s.srcs := by
  unfold ctrAdd
  split <;> rfl

theorem ctrAdd_flt (i n : Nat) (s : State) : (ctrAdd i n s).flt = s.flt := by
  unfold ctrAdd
  split <;> rfl

theorem lifeSave_srcs (s : State) : (lifeSave s).srcs = s.srcs := by simp [lifeSave, lifeCount, ctrAdd_srcs]

theorem lifeSave_flt (s : State) : (lifeSave s).flt = s.flt := by simp [lifeSave, lifeCount, ctrAdd_flt]

theorem couplersOff_srcs (s : State) : (couplersOff s).srcs = s.srcs := by simp [couplersOff]

/-- After the core has started again a module reset touches no source. -/
theorem srcsReset_moduleReset (r : RstReq) (s : State) : SrcsReset s (moduleReset r s) := by
  refine (srcsReset_restoreHists_coreReset (lifeSave s)).congr (lifeSave_srcs s).symm (lifeSave_flt s).symm ?_
  unfold moduleReset
  split <;> split <;> simp [couplersOff_srcs]

theorem srcsReset_powerOnReset (cause : Nat) (s : State) : SrcsReset s (powerOnReset cause s) := by
  refine (srcsReset_restoreHists_coreReset s).congr rfl rfl ?_
  simp [powerOnReset, couplersOff_srcs]

theorem vsysBack_srcs (s : State) : (vsysBack s).srcs = s.srcs := by
  unfold vsysBack leapAfter
  split <;> rfl

theorem vsysBack_flt (s : State) : (vsysBack s).flt = s.flt := by
  unfold vsysBack leapAfter
  split <;> rfl

/-- Settles O26: both resets start the core again and restore the saved histories; nothing else of them touches a source. -/
theorem resetKeepsHistories : Obligations.ResetKeepsHistories := by
  intro s
  refine ⟨fun hon hvalid hnofail r => ⟨moduleReset (s.md.rstDue.getD r) s, ?_, srcsReset_moduleReset _ s⟩,
    fun mv hmv hinvalid hnofail => ⟨powerOnReset 0 (vsysBack s), ?_, ?_⟩⟩
  · unfold exec execModuleReset
    simp [hon, hvalid, hnofail]
  · exact execVsysValid_boots hinvalid hmv hnofail
  · exact (srcsReset_powerOnReset 0 _).congr (vsysBack_srcs s).symm (vsysBack_flt s).symm rfl

end Sys2Proof.Machine
end

section
/-! PROOF. The engine's frame: first evaluation, replay pass and commit (chapter 12). -/

namespace Sys2Proof.Machine

open Sys2Proof

/-! ### The copy to V and the values held meanwhile (R276, R279) -/

section
variable {e : Engine} {p : Program}

/-- Without a speculative value in use the working copies become V. -/
theorem copyV_of_noneSpeculative (h : noneSpeculative e = true) : (copyV e).memV = e.memW ∧ (copyV e).blkV = e.blkW ∧
    (copyV e).haveV = true ∧ (copyV e).vIsLast = true := by
  unfold copyV
  rw [if_pos h]
  exact ⟨rfl, rfl, rfl, rfl⟩

/-- With one, V stays and is no longer the last result. -/
theorem copyV_of_speculative (h : noneSpeculative e = false) : (copyV e).memV = e.memV ∧ (copyV e).haveV = e.haveV ∧
    (copyV e).vIsLast = false := by
  unfold copyV
  rw [h]
  exact ⟨rfl, rfl, rfl⟩

theorem copyV_memC : (copyV e).memC = e.memC := by unfold copyV; split <;> rfl
theorem copyV_memW : (copyV e).memW = e.memW := by unfold copyV; split <;> rfl
theorem copyV_pass : (copyV e).pass = e.pass := by unfold copyV; split <;> rfl
theorem copyV_dirty : (copyV e).dirty = e.dirty := by unfold copyV; split <;> rfl

/-- The copy leaves what a remote input has and what it uses. -/
theorem copyV_rems (h : ∀ r ∈ e.rems, r.want = r.use) : ∀ r ∈ (copyV e).rems, r.want = r.use := by
  unfold copyV
  split
  · intro r hr
    obtain ⟨q, hq, rfl⟩ := List.mem_map.mp hr
    exact h q hq
  · exact h

/-- With every value in use, nothing recorded is left to apply. -/
theorem applyHeld'_settled (h : ∀ r ∈ e.rems, r.want = r.use) : applyHeld' p e = e :=
  List.foldlRecOn (motive := fun e' => e' = e) e.rems _ rfl fun _ he r hr => by rw [if_pos (h r hr), he]

end

/-! ### The events of the frame before C_k -/

section
variable {s : State} {p : Program}

theorem execFirstEvalComplete_applies (hp : s.eng.active = some p) (hw : s.eng.window = true)
    (hf : s.eng.firstDone = false) (hc : afterCutoff s = false) : execFirstEvalComplete s =
      .next { s with eng := applyHeld' p (copyV { s.eng with firstDone := true, curEnd := workEnd s }) } := by
  simp [execFirstEvalComplete, hp, hw, hf, hc]

theorem execReplayPassComplete_applies (hp : s.eng.active = some p) (hw : s.eng.window = true)
    (hf : s.eng.firstDone = true) (hpass : s.eng.pass = true) (hc : afterCutoff s = false) : execReplayPassComplete s =
      .next { s with eng := applyHeld' p (copyV { takeEval (runReplay p s.eng.dirty (evalState s.eng)) s.eng with
        dirty := [], pass := false, curPass := satAdd 8 s.eng.curPass 1, curEnd := workEnd s }) } := by
  simp [execReplayPassComplete, hp, hw, hf, hpass, hc, takeEval]

/-- Outside its conditions the first evaluation does nothing. -/
theorem execFirstEvalComplete_idle (h : s.eng.active = none ∨ s.eng.window = false ∨ s.eng.firstDone = true ∨
    afterCutoff s = true) : execFirstEvalComplete s = .next s := by
  unfold execFirstEvalComplete
  cases hp : s.eng.active with
  | none => rfl
  | some p => rcases h with h | h | h | h <;> simp_all

/-- Outside its conditions a pass does nothing. -/
theorem execReplayPassComplete_idle (h : s.eng.active = none ∨ s.eng.window = false ∨ s.eng.firstDone = false ∨
    s.eng.pass = false ∨ afterCutoff s = true) : execReplayPassComplete s = .next s := by
  unfold execReplayPassComplete
  cases hp : s.eng.active with
  | none => rfl
  | some p => rcases h with h | h | h | h | h <;> simp_all

end

/-! ### The commit cutoff (R280 to R283, R440) -/

/-- What the frame does at C_k, by whether the engine runs and has a result. -/
def cutoffFrame (x : CutoffIn) (s : State) : State :=
  if !modeEngineRuns s.md.mode || startedMidFrame s then stoppedFrame x s
  else match s.eng.active with
    | some p => if canCommit s then commitFrame p x s else emptyFrame s
    | none => emptyFrame s

section
variable {s : State} {p : Program} {x : CutoffIn}

theorem execCommitCutoff_ticking (h : ticking s = true) : execCommitCutoff x s =
    .next (sendTickSymbol (sendService (flushGroup (goodCount 37 1000 (!x.outMissed) (cutoffFrame x s))))) :=
  congrArg Host.Outcome.next (if_pos h)

theorem cutoffFrame_stopped (h : modeEngineRuns s.md.mode = false ∨ startedMidFrame s = true) :
    cutoffFrame x s = stoppedFrame x s := if_pos (by rcases h with h | h <;> simp [h])

theorem startedMidFrame_of_window (h : s.eng.window = true) : startedMidFrame s = false := by simp [startedMidFrame, h]

theorem cutoffFrame_commits (hm : modeEngineRuns s.md.mode = true) (hp : s.eng.active = some p)
    (hr : s.eng.running = true) (hw : s.eng.window = true) (hv : s.eng.haveV = true) (hecc : s.eng.eccBad = false) :
    cutoffFrame x s = commitFrame p x s := by
  simp [cutoffFrame, canCommit, hm, startedMidFrame_of_window hw, hp, hr, hw, hv, hecc]

theorem cutoffFrame_empty (hm : modeEngineRuns s.md.mode = true) (hmid : startedMidFrame s = false)
    (hc : canCommit s = false) : cutoffFrame x s = emptyFrame s := by
  unfold cutoffFrame
  rw [hm, hmid, hc]
  cases s.eng.active <;> rfl

end

/-! ### The whole frame -/

section
variable (s : State)

theorem firstEval_frame (p : Program) (hp : s.eng.active = some p) (hw : s.eng.window = true)
    (hf : s.eng.firstDone = false) (hc : afterCutoff s = false) :
    let e := copyV { s.eng with firstDone := true, curEnd := workEnd s }
    exec .firstEvalComplete s = .next { s with eng := applyHeld' p e } ∧
    (noneSpeculative s.eng = true → e.memV = s.eng.memW ∧ e.blkV = s.eng.blkW ∧ e.haveV = true ∧ e.vIsLast = true) ∧
    (noneSpeculative s.eng = false → e.memV = s.eng.memV ∧ e.haveV = s.eng.haveV ∧ e.vIsLast = false) ∧
    e.memC = s.eng.memC ∧ e.pass = s.eng.pass ∧ ((∀ r ∈ s.eng.rems, r.want = r.use) → applyHeld' p e = e) := by
  refine ⟨execFirstEvalComplete_applies hp hw hf hc, fun hn => ?_, fun hn => ?_, copyV_memC, copyV_pass,
    fun hs => applyHeld'_settled (copyV_rems hs)⟩
  · exact copyV_of_noneSpeculative hn
  · exact copyV_of_speculative hn

theorem replayPass_frame (p : Program) (hp : s.eng.active = some p) (hw : s.eng.window = true)
    (hf : s.eng.firstDone = true) (hpass : s.eng.pass = true) (hc : afterCutoff s = false) :
    let r := takeEval (runReplay p s.eng.dirty (evalState s.eng)) s.eng
    let e := copyV { r with dirty := [], pass := false, curPass := satAdd 8 s.eng.curPass 1, curEnd := workEnd s }
    exec .replayPassComplete s = .next { s with eng := applyHeld' p e } ∧
    e.memW = (runReplay p s.eng.dirty (evalState s.eng)).mem ∧ e.memC = s.eng.memC ∧ e.dirty = [] ∧ e.pass = false ∧
    (noneSpeculative s.eng = true → e.memV = e.memW ∧ e.haveV = true ∧ e.vIsLast = true) ∧
    (noneSpeculative s.eng = false → e.memV = s.eng.memV ∧ e.haveV = s.eng.haveV ∧ e.vIsLast = false) ∧
    ((∀ r ∈ s.eng.rems, r.want = r.use) → applyHeld' p e = e) := by
  refine ⟨execReplayPassComplete_applies hp hw hf hpass hc, copyV_memW, copyV_memC, copyV_dirty, copyV_pass,
    fun hn => ?_, fun hn => ?_, fun hs => applyHeld'_settled (copyV_rems hs)⟩
  · obtain ⟨hmem, -, hhave, hlast⟩ := copyV_of_noneSpeculative
      (e := { takeEval (runReplay p s.eng.dirty (evalState s.eng)) s.eng with
        dirty := [], pass := false, curPass := satAdd 8 s.eng.curPass 1, curEnd := workEnd s }) hn
    exact ⟨hmem.trans copyV_memW.symm, hhave, hlast⟩
  · exact copyV_of_speculative hn

end

/-- Settles O46: each event by the equation for its branch, and V, C and the registers by the copy and the commit. -/
theorem engineAndCommit : Obligations.EngineAndCommit := by
  intro s
  refine ⟨firstEval_frame s, replayPass_frame s, fun h => ⟨execFirstEvalComplete_idle ?_, execReplayPassComplete_idle ?_⟩,
    fun h => execFirstEvalComplete_idle (.inr (.inr (.inl h))), fun h => execReplayPassComplete_idle ?_,
    fun ht x => ⟨cutoffFrame x s, execCommitCutoff_ticking ht, cutoffFrame_stopped,
      fun hm p hp => cutoffFrame_commits hm hp, cutoffFrame_empty⟩,
    fun late => ⟨rfl, rfl, rfl, rfl, rfl, rfl, rfl, rfl, ?_, rfl, rfl, rfl⟩⟩
  · rcases h with h | h | h <;> simp [h]
  · rcases h with h | h | h <;> simp [h]
  · rcases h with h | h <;> simp [h]
  · unfold closeWindowLe commitV
    cases s.eng.vIsLast <;> rfl

end Sys2Proof.Machine
end

section
/-! PROOF. Images, the owner key and the attestation report (chapter 20). -/

namespace Sys2Proof.Machine

open Sys2Proof

/-! ### Slots -/

theorem slotOf_congr {s t : State} (hs : t.fw.slots = s.fw.slots) (hp : t.fw.patch = s.fw.patch) (i : Nat) :
    slotOf t i = slotOf s i := by
  unfold slotOf
  rw [hs, hp]

theorem slotDigest_congr {s t : State} (hs : t.fw.slots = s.fw.slots) (hp : t.fw.patch = s.fw.patch) (i : Nat) :
    slotDigest t i = slotDigest s i := by
  unfold slotDigest
  rw [slotOf_congr hs hp]

theorem slotOf_modSlot (i : Nat) (f : Slot → Slot) (s : State) : slotOf (modSlot i f s) i = f (slotOf s i) := by
  unfold slotOf modSlot
  split <;> simp

section
variable {s : State} {c : Ctx}

/-- What an answer delivers leaves the images alone. -/
theorem startOp_slots (o : LongOp) : (startOp c o s).fw.slots = s.fw.slots := by
  unfold startOp answer deliver
  cases c.src <;> rfl

theorem startOp_patch (o : LongOp) : (startOp c o s).fw.patch = s.fw.patch := by
  unfold startOp answer deliver
  cases c.src <;> rfl

theorem slotDigest_startOp (o : LongOp) (i : Nat) : slotDigest (startOp c o s) i = slotDigest s i :=
  slotDigest_congr (startOp_slots o) (startOp_patch o) i

end

theorem flashErase_cells (region n : Nat) (s : State) : (flashErase region n s).cells = s.cells := by
  simp only [flashErase, ctrAdd]
  repeat' split
  all_goals rfl

theorem flashErase_eng (region n : Nat) (s : State) : (flashErase region n s).eng = s.eng := by
  simp only [flashErase, ctrAdd]
  repeat' split
  all_goals rfl

/-! ### IMG_BEGIN (R464) -/

/-- The state in which IMG_BEGIN answers OK: the target is erased, the transfer open and no part of a block kept. -/
def transferOpened (c : Ctx) (ty blocks : Nat) (s : State) : State :=
  let i := transferTarget s ty
  let s1 := modSlot i (fun _ => {}) (flashErase i (slotBlocks ty) s)
  dropPart c.src 0x91 { s1 with fw := { s1.fw with xfer := some ⟨ty, i, blocks, []⟩ } }

section
variable {s : State} {c : Ctx} {ws : List Word}

/-- No new core firmware is on trial. -/
theorem not_onTrial {ty : Nat} (h : ty ≠ 0 ∨ s.fw.trial = false ∨ s.fw.bootCfw ≠ s.fw.actCfw) :
    ¬(ty = 0 ∧ s.fw.trial = true ∧ s.fw.bootCfw = s.fw.actCfw) := by
  rintro ⟨hty, htrial, hboot⟩
  simp [hty, htrial, hboot] at h

section
variable (hm : imgModes s c.src [9] (field (par ws 1) 0 2) = true) (hres : reservedBad (par ws 1) 3#32 = false)
  (hlen : ws.length = 2) (halign : (par ws 2).toNat % 4096 = 0)
include hm hres hlen halign

theorem opImgBegin_otherPort (hsrc : c.src ≠ .service) : opImgBegin c ws s = answer c stDenied [] s := by
  simp [opImgBegin, inModes, hm, hres, hlen, halign, hsrc]

theorem opImgBegin_trial (hsrc : c.src = .service) (hty : field (par ws 1) 0 2 = 0) (htrial : s.fw.trial = true)
    (hboot : s.fw.bootCfw = s.fw.actCfw) : opImgBegin c ws s = answer c stDenied [] s := by
  rw [hsrc] at hm
  rw [hty] at hm
  simp [opImgBegin, inModes, hm, hres, hlen, halign, hsrc, hty, htrial, hboot]

section
variable (hsrc : c.src = .service) (hfree : field (par ws 1) 0 2 ≠ 0 ∨ s.fw.trial = false ∨ s.fw.bootCfw ≠ s.fw.actCfw)
include hsrc hfree

theorem opImgBegin_tooLong (hlong : slotBlocks (field (par ws 1) 0 2) < (par ws 2).toNat / 4096) :
    opImgBegin c ws s = answer c stResource [] s := by
  rw [hsrc] at hm
  simp [opImgBegin, inModes, hm, hres, hlen, halign, hsrc, not_onTrial hfree, hlong]

theorem opImgBegin_opens (hfits : (par ws 2).toNat / 4096 ≤ slotBlocks (field (par ws 1) 0 2)) :
    opImgBegin c ws s = answer c stOk [] (transferOpened c (field (par ws 1) 0 2) ((par ws 2).toNat / 4096) s) := by
  rw [hsrc] at hm
  simp [opImgBegin, inModes, hm, hres, hlen, halign, hsrc, not_onTrial hfree, Nat.not_lt.mpr hfits, transferOpened]

end

end

theorem transferOpened_slot (ty n : Nat) : slotOf (transferOpened c ty n s) (transferTarget s ty) = {} :=
  slotOf_modSlot (transferTarget s ty) (fun _ => {}) (flashErase (transferTarget s ty) (slotBlocks ty) s)

theorem transferOpened_cells (ty n : Nat) : (transferOpened c ty n s).cells = s.cells :=
  (modSlot_cells _ _ _).trans (flashErase_cells _ _ s)

theorem transferOpened_eng (ty n : Nat) : (transferOpened c ty n s).eng = s.eng :=
  (modSlot_eng _ _ _).trans (flashErase_eng _ _ s)

/-! ### IMG_BLOCK (R465) -/

section
variable (hm : imgModes s c.src [9] ((s.fw.xfer.map fun x => x.ty).getD 0) = true)
include hm

theorem opImgBlock_otherPort (hsrc : c.src ≠ .service) : opImgBlock c ws s = answer c stDenied [] s := by
  simp [opImgBlock, inModes, hm, hsrc]

theorem opImgBlock_noTransfer (hsrc : c.src = .service) (hx : s.fw.xfer = none) :
    opImgBlock c ws s = answer c stBadParam [] s := by
  rw [hsrc, hx] at hm
  simp at hm
  simp [opImgBlock, inModes, hm, hsrc, hx]

theorem opImgBlock_takes (hsrc : c.src = .service) {x : Xfer} (hx : s.fw.xfer = some x)
    (hn : (par ws 1).toNat < x.blocks) (hres : reservedBad (par ws 2) 0xFFFFFF#32 = false) :
    opImgBlock c ws s = takePart c 0x91 (par ws 1).toNat (field (par ws 2) 0 16) (field (par ws 2) 16 8)
      (ws.drop 2) (fun _ => some 1024) (writeBlock c (par ws 1).toNat x) s := by
  rw [hsrc, hx] at hm
  simp at hm
  simp [opImgBlock, inModes, hm, hsrc, hx, Nat.not_le.mpr hn, hres, parFrom]

end

/-! ### IMG_VERIFY and IMG_ACTIVATE (R466, R467) -/

theorem opImgVerify_starts (hm : imgModes s c.src modesNo8 (field (par ws 1) 0 2) = true)
    (hres : reservedBad (par ws 1) 0x103#32 = false) (hlen : ws.length = 1) (hrun : opRuns s [0x92, 0x93] = false)
    (hfull : opsFull s c = false) : opImgVerify c ws s = startOp c (newOp c 0x92 0 (par ws 1)) s := by
  simp [opImgVerify, inModes, hm, hres, hlen, hrun, hfull]

theorem execImgVerifyComplete_runs {o : LongOp} (h : opByCode s 0x92 = some o) (v : VerifyResult) :
    execImgVerifyComplete v s = .next (finishVerify o v s) := by simp [execImgVerifyComplete, h]

theorem execImgVerifyComplete_idle (h : opByCode s 0x92 = none) (v : VerifyResult) :
    execImgVerifyComplete v s = .next s := by simp [execImgVerifyComplete, h]

section
variable (hm : imgModes s c.src [3, 7, 9] (field (par ws 1) 0 2) = true) (hres : reservedBad (par ws 1) 0x103#32 = false)
  (hlen : ws.length = 5) (hrun : opRuns s [0x92, 0x93] = false) (hfull : opsFull s c = false)
include hm hres hlen hrun hfull

theorem opImgActivate_unverified
    (hv : slotVerified (slotOf s (2 * field (par ws 1) 0 2 + field (par ws 1) 8 1)) = false) :
    opImgActivate c ws s = answer c stDenied [] s := by simp [opImgActivate, inModes, hm, hres, hlen, hrun, hfull, hv]

/-- With a verified slot the digest decides, in the state in which the operation runs. -/
theorem opImgActivate_verified
    (hv : slotVerified (slotOf s (2 * field (par ws 1) 0 2 + field (par ws 1) 8 1)) = true) :
    opImgActivate c ws s = finishActivate (ctxRef c 0x93) (field (par ws 1) 0 2) (field (par ws 1) 8 1) (ws.drop 1)
      (startOp c (newOp c 0x93 0 (par ws 1)) s) := by
  simp [opImgActivate, inModes, hm, hres, hlen, hrun, hfull, hv, parFrom]

end

end

section
variable {r : CmdRef} {ty slot : Nat} {dig : List Word} {s : State}

theorem finishActivate_mismatch (h : (slotDigest s (2 * ty + slot)).take 4 ≠ dig) : finishActivate r ty slot dig s =
    finishOp r stFault rcDigest [] (noteUpdate stFault rcDigest ty slot s) := if_pos h

section
variable (h : (slotDigest s (2 * ty + slot)).take 4 = dig)
include h

theorem finishActivate_logic (hty : ty = 1) : finishActivate r ty slot dig s =
    finishOp r stOk 0 [] (noteUpdate stOk 0 ty slot (activate ty slot s)) :=
  (if_neg (not_not_intro h)).trans (if_pos hty)

theorem finishActivate_resets (hty : ty ≠ 1) :
    let s2 := finishOp r stOk 0 [] (noteUpdate stOk 0 ty slot (activate ty slot s))
    finishActivate r ty slot dig s = { s2 with md := { s2.md with rstDue := s2.md.rstDue <|> some ⟨6, false, 0xFF⟩ } } :=
  (if_neg (not_not_intro h)).trans (if_neg hty)

end

end

/-! ### OWNER_ENROL and ATTEST (R474, R479) -/

section
variable {s : State} {c : Ctx} {ws : List Word}

section
variable (hm : inModeList s [9] = true) (hres : reservedBad (par ws 1) 0xFFFFFF#32 = false) (sig : Bool)
include hm hres

theorem opOwnerEnrol_otherPort (hsrc : c.src ≠ .service) : opOwnerEnrol c ws sig s = answer c stDenied [] s := by
  simp [opOwnerEnrol, modeGate_of_inModeList _ _ hm, hres, hsrc]

theorem opOwnerEnrol_takes (hsrc : c.src = .service) : opOwnerEnrol c ws sig s =
    takePart c 0x95 0 (field (par ws 1) 0 16) (field (par ws 1) 16 8) (ws.drop 1)
      (fun l => l.head?.map fun w => field w 0 16) (enrol c sig) s := by
  simp [opOwnerEnrol, modeGate_of_inModeList _ _ hm, hres, hsrc, parFrom]

end

section
variable (hm : inModeList s modesAll = true)
include hm

theorem opAttest_busy (hr : s.fw.reportCtx.isSome = true) : opAttest c ws s = answer c stBusy [] s := by
  simp [opAttest, modeGate_of_inModeList _ _ hm, hr]

variable (hr : s.fw.reportCtx.isSome = false) (hres : reservedBad (par ws 1) 1#32 = false)
include hr hres

theorem opAttest_starts (hnonce : bitOf (par ws 1) 0 = false) (hlen : ws.length = 9) (hfull : opsFull s c = false) :
    opAttest c ws s = startOp c (newOp c 0x94 0 0)
      { s with fw := { s.fw with reportCtx := some (ctxRef c 0x94), reportNonce := ws.drop 1 } } := by
  have hnone : s.fw.reportCtx = none := by simpa using hr
  simp [opAttest, modeGate_of_inModeList _ _ hm, hnone, hres, hnonce, hlen, hfull, parFrom]

theorem opAttest_rereads {r : List Word} (hreread : bitOf (par ws 1) 0 = true) (hlen : ws.length = 3)
    (hrep : s.fw.report = some r) (hmin : 1 ≤ (par ws 3).toNat) (hmax : (par ws 3).toNat ≤ 240)
    (hoff : (par ws 2).toNat < r.length) : opAttest c ws s = answer c stOk
      (BitVec.ofNat 32 r.length :: par ws 2 :: (r.drop (par ws 2).toNat).take (par ws 3).toNat) s := by
  have hnone : s.fw.reportCtx = none := by simpa using hr
  have hinside : ¬(((par ws 3).toNat = 0 ∨ 240 < (par ws 3).toNat) ∨ r.length ≤ (par ws 2).toNat) := by omega
  simp [opAttest, modeGate_of_inModeList _ _ hm, hnone, hres, hreread, hlen, hrep, hinside]

end

theorem execAttestComplete_idle (h : s.fw.reportCtx = none) : execAttestComplete s = .next s := by
  simp [execAttestComplete, h]

end

/-! ### The statement -/

section
variable (s : State) (c : Ctx) (ws : List Word)

theorem imgBegin_clauses (hm : imgModes s c.src [9] (field (par ws 1) 0 2) = true) (hres : reservedBad (par ws 1) 3#32 = false)
    (hlen : ws.length = 2) (halign : (par ws 2).toNat % 4096 = 0) :
    let p := acceptPacket c s
    let ty := field (par ws 1) 0 2
    (c.src ≠ .service → exec (.imgBegin c ws) s = .next (answer c stDenied [] p)) ∧
    (c.src = .service → ty = 0 → s.fw.trial = true → s.fw.bootCfw = s.fw.actCfw →
      exec (.imgBegin c ws) s = .next (answer c stDenied [] p)) ∧
    (c.src = .service → (ty ≠ 0 ∨ s.fw.trial = false ∨ s.fw.bootCfw ≠ s.fw.actCfw) →
      (slotBlocks ty < (par ws 2).toNat / 4096 → exec (.imgBegin c ws) s = .next (answer c stResource [] p)) ∧
      ((par ws 2).toNat / 4096 ≤ slotBlocks ty → ∃ s1, exec (.imgBegin c ws) s = .next (answer c stOk [] s1) ∧
        s1.fw.xfer = some ⟨ty, transferTarget s ty, (par ws 2).toNat / 4096, []⟩ ∧
        slotOf s1 (transferTarget s ty) = {} ∧ s1.cells = s.cells ∧ s1.eng = s.eng)) :=
  let p := acceptPacket c s
  ⟨fun hsrc => congrArg _ (opImgBegin_otherPort (s := p) hm hres hlen halign hsrc),
    fun hsrc hty htrial hboot => congrArg _ (opImgBegin_trial (s := p) hm hres hlen halign hsrc hty htrial hboot),
    fun hsrc hfree =>
      ⟨fun hlong => congrArg _ (opImgBegin_tooLong (s := p) hm hres hlen halign hsrc hfree hlong),
        fun hfits => ⟨transferOpened c _ _ p,
          congrArg _ (opImgBegin_opens (s := p) hm hres hlen halign hsrc hfree hfits), rfl,
          transferOpened_slot (s := p) _ _, transferOpened_cells (s := p) _ _, transferOpened_eng (s := p) _ _⟩⟩⟩

theorem imgActivate_clauses (hm : imgModes s c.src [3, 7, 9] (field (par ws 1) 0 2) = true)
    (hres : reservedBad (par ws 1) 0x103#32 = false) (hlen : ws.length = 5) (hrun : opRuns s [0x92, 0x93] = false)
    (hfull : opsFull s c = false) :
    let p := acceptPacket c s
    let ty := field (par ws 1) 0 2
    let slot := field (par ws 1) 8 1
    let s1 := startOp c (newOp c 0x93 0 (par ws 1)) p
    (slotVerified (slotOf s (2 * ty + slot)) = false → exec (.imgActivate c ws) s = .next (answer c stDenied [] p)) ∧
    (slotVerified (slotOf s (2 * ty + slot)) = true → (slotDigest s (2 * ty + slot)).take 4 ≠ ws.drop 1 →
      exec (.imgActivate c ws) s =
        .next (finishOp (ctxRef c 0x93) stFault rcDigest [] (noteUpdate stFault rcDigest ty slot s1))) ∧
    (slotVerified (slotOf s (2 * ty + slot)) = true → (slotDigest s (2 * ty + slot)).take 4 = ws.drop 1 →
      let s2 := finishOp (ctxRef c 0x93) stOk 0 [] (noteUpdate stOk 0 ty slot (activate ty slot s1))
      (ty = 1 → exec (.imgActivate c ws) s = .next s2) ∧
      (ty ≠ 1 → exec (.imgActivate c ws) s =
        .next { s2 with md := { s2.md with rstDue := s2.md.rstDue <|> some ⟨6, false, 0xFF⟩ } })) := by
  intro p ty slot s1
  have hdig : slotDigest s1 (2 * ty + slot) = slotDigest s (2 * ty + slot) :=
    (slotDigest_startOp _ _).trans (slotDigest_congr rfl rfl _)
  refine ⟨fun hv => congrArg _ (opImgActivate_unverified (s := p) hm hres hlen hrun hfull hv), fun hv hd => ?_, fun hv hd => ?_⟩
  all_goals rw [← hdig] at hd
  · exact congrArg _ ((opImgActivate_verified (s := p) hm hres hlen hrun hfull hv).trans (finishActivate_mismatch hd))
  · exact ⟨fun hty => congrArg _ ((opImgActivate_verified (s := p) hm hres hlen hrun hfull hv).trans
        (finishActivate_logic hd hty)),
      fun hty => congrArg _ ((opImgActivate_verified (s := p) hm hres hlen hrun hfull hv).trans
        (finishActivate_resets hd hty))⟩

end

/-- Settles O48: each command by the equation for its case, in the state that the accepted packet leaves. -/
theorem firmwareImagesAndOwner : Obligations.FirmwareImagesAndOwner := by
  refine ⟨fun s c ws => ?_, fun s c ws => ?_⟩
  · exact ⟨imgBegin_clauses s c ws,
      fun hm => ⟨fun hsrc => congrArg _ (opImgBlock_otherPort (s := acceptPacket c s) hm hsrc),
        fun hsrc hx => congrArg _ (opImgBlock_noTransfer (s := acceptPacket c s) hm hsrc hx),
        fun hsrc _ hx hn hres => congrArg _ (opImgBlock_takes (s := acceptPacket c s) hm hsrc hx hn hres)⟩,
      fun hm hres hlen hrun hfull => congrArg _ (opImgVerify_starts (s := acceptPacket c s) hm hres hlen hrun hfull),
      fun _ ho v => execImgVerifyComplete_runs ho v, fun ho v => execImgVerifyComplete_idle ho v, imgActivate_clauses s c ws⟩
  · exact ⟨fun hm hres sig =>
        ⟨fun hsrc => congrArg _ (opOwnerEnrol_otherPort (s := acceptPacket c s) hm hres sig hsrc),
          fun hsrc => congrArg _ (opOwnerEnrol_takes (s := acceptPacket c s) hm hres sig hsrc)⟩,
      fun hm => ⟨fun hr => congrArg _ (opAttest_busy (s := acceptPacket c s) hm hr), fun hr hres =>
        ⟨fun hnonce hlen hfull => congrArg _ (opAttest_starts (s := acceptPacket c s) hm hr hres hnonce hlen hfull),
          fun _ hreread hlen hrep hmin hmax hoff =>
            congrArg _ (opAttest_rereads (s := acceptPacket c s) hm hr hres hreread hlen hrep hmin hmax hoff)⟩⟩,
      fun r hr => ⟨_, by unfold exec execAttestComplete; rw [hr], rfl, rfl⟩, execAttestComplete_idle⟩

end Sys2Proof.Machine
end

section
/-! PROOF. The packet commands of logic programs (R272, R284, R285, R287, R288). -/

namespace Sys2Proof.Machine

open Sys2Proof

section
variable {s : State} {c : Ctx} {w : Word}

/-! ### LP_STAGE (R272, R284) -/

section
variable (hm : inModeList s modesNo8 = true) (hres : reservedBad w 1#32 = false)
include hm hres

theorem opLpStage_busy (h : opRuns s [0x40, 0x41] = true ∨ opsFull s c = true) :
    opLpStage c [w] s = answer c stBusy [] s := by
  rcases h with h | h <;> simp [opLpStage, modeGate_of_inModeList _ _ hm, par, hres, h]

section
variable (hrun : opRuns s [0x40, 0x41] = false) (hfull : opsFull s c = false)
include hrun hfull

theorem opLpStage_unverified (hv : slotVerified (slotOf s (2 + field w 0 1)) = false) :
    opLpStage c [w] s = answer c stDenied [] s := by
  simp [opLpStage, modeGate_of_inModeList _ _ hm, par, hres, hrun, hfull, hv]

theorem opLpStage_starts (hv : slotVerified (slotOf s (2 + field w 0 1)) = true) :
    opLpStage c [w] s = startOp c (newOp c 0x40 0 w) { s with eng := { s.eng with staged := none } } := by
  simp [opLpStage, modeGate_of_inModeList _ _ hm, par, hres, hrun, hfull, hv]

end

end

/-- The load ends with the program the slot holds, where it passes the load check. -/
theorem finishStage_loaded (o : LongOp) : finishStage o true s =
    match slotProgram s (2 + field o.arg 0 1) with
    | some q => if programOk s q then finishOp o.ref stOk 0 [] { s with eng := { s.eng with staged := some q } }
      else finishOp o.ref stResource 0 [] s
    | none => finishOp o.ref stResource 0 [] s := by
  unfold finishStage
  rw [if_neg (by decide)]
  cases slotProgram s (2 + field o.arg 0 1) with
  | none => rfl
  | some q => cases hok : programOk s q <;> simp only [Option.filter, hok] <;> rfl

theorem execLpStageComplete_runs {o : LongOp} (h : opByCode s 0x40 = some o) (b : Bool) :
    execLpStageComplete b s = .next (finishStage o b s) := by simp [execLpStageComplete, h]

theorem execLpStageComplete_idle (h : opByCode s 0x40 = none) (b : Bool) : execLpStageComplete b s = .next s := by
  simp [execLpStageComplete, h]

/-! ### LP_ACTIVATE (R285) -/

section
variable (hm : inModeList s [3, 4, 7] = true ∨ (inModeList s [5, 6, 10] = true ∧ bitOf w 0 = true))
  (hres : reservedBad w 1#32 = false) (hrun : opRuns s [0x40, 0x41] = false) (hfull : opsFull s c = false)
include hm hres hrun hfull

theorem opLpActivate_unstaged (hst : s.eng.staged = none) : opLpActivate c [w] s = answer c stResource [] s := by
  rcases hm with hm | ⟨hm, hon⟩
  · simp [opLpActivate, inModes, hm, par, hres, hrun, hfull, hst]
  · simp [opLpActivate, inModes, hm, hon, par, hres, hrun, hfull, hst]

/-- With a staged program the packet is carried out, or refused by the mode or by the second check of the program. -/
theorem opLpActivate_staged {q : Program} (hst : s.eng.staged = some q) : opLpActivate c [w] s =
    if !onlineOk s (bitOf w 0) q then answer c stWrongMode [] s
    else if q.code ≠ s.spring.code ∨ recheckOk s q = false then answer c stResource [] s
    else
      let s1 := startOp c (newOp c 0x41 0 w) s
      if s.eng.running then { s1 with eng := { s1.eng with actPend := some ⟨ctxRef c 0x41, bitOf w 0⟩ } }
      else activateNow (ctxRef c 0x41) (bitOf w 0) s1 := by
  rcases hm with hm | ⟨hm, hon⟩
  · simp [opLpActivate, inModes, hm, par, hres, hrun, hfull, hst]
  · simp [opLpActivate, inModes, hm, hon, par, hres, hrun, hfull, hst]

section
variable {q : Program} (hst : s.eng.staged = some q)
include hst

theorem opLpActivate_offline (hoff : onlineOk s (bitOf w 0) q = false) :
    opLpActivate c [w] s = answer c stWrongMode [] s := by
  rw [opLpActivate_staged hm hres hrun hfull hst]
  simp [hoff]

variable (hon : onlineOk s (bitOf w 0) q = true)
include hon

theorem opLpActivate_unfit (hbad : q.code ≠ s.spring.code ∨ recheckOk s q = false) :
    opLpActivate c [w] s = answer c stResource [] s := by
  rw [opLpActivate_staged hm hres hrun hfull hst, if_neg (by simp [hon]), if_pos hbad]

variable (hcode : q.code = s.spring.code) (hcheck : recheckOk s q = true)
include hcode hcheck

theorem opLpActivate_now (hstop : s.eng.running = false) : opLpActivate c [w] s =
    activateNow (ctxRef c 0x41) (bitOf w 0) (startOp c (newOp c 0x41 0 w) s) := by
  rw [opLpActivate_staged hm hres hrun hfull hst]
  simp [hon, hcode, hcheck, hstop]

/-- With the engine running the activation waits for the frame start. -/
theorem opLpActivate_waits (hgo : s.eng.running = true) : opLpActivate c [w] s =
    { startOp c (newOp c 0x41 0 w) s with eng := { s.eng with actPend := some ⟨ctxRef c 0x41, bitOf w 0⟩ } } := by
  rw [opLpActivate_staged hm hres hrun hfull hst]
  simp [hon, hcode, hcheck, hgo]

end

end

/-! ### LP_STATS and LP_READ_VAR (R287, R288) -/

theorem opLpStats_answers (hm : inModeList s [1, 2, 3, 4, 5, 6, 7, 8, 9, 10] = true) (hres : reservedBad w 1#32 = false) :
    opLpStats c [w] s =
      answer c stOk (lpStatsWords s) (if bitOf w 0 then { s with eng := clearCounters s.eng } else s) := by
  simp [opLpStats, modeGate_of_inModeList _ _ hm, refuseIf, par, hres]

section
variable (hm : inModeList s modesAll = true) (hact : s.eng.active.isSome = true) (hres : reservedBad w 0x1FFF0003#32 = false)
  {n : Word}
include hm hact hres

theorem opLpReadVar_answers {l : List Word} (h : varValues s (field w 0 2) (field w 16 13) n.toNat = some l) :
    opLpReadVar c [w, n] s = answer c stOk (lo32 s.eng.frameCnt :: hi32 s.eng.frameCnt :: l) s := by
  simp [opLpReadVar, inModes, hm, hact, par, hres, h]

theorem opLpReadVar_outside (h : varValues s (field w 0 2) (field w 16 13) n.toNat = none) :
    opLpReadVar c [w, n] s = answer c stBadParam [] s := by
  simp [opLpReadVar, inModes, hm, hact, par, hres, h]

end

end

/-- Settles O47: each command by the equation for its case, in the state that the accepted packet leaves. -/
theorem logicPrograms : Obligations.LogicPrograms := fun s c _ =>
  ⟨fun hm hres =>
      ⟨fun h => congrArg _ (opLpStage_busy (s := acceptPacket c s) hm hres h), fun hrun hfull =>
        ⟨fun hv => congrArg _ (opLpStage_unverified (s := acceptPacket c s) hm hres hrun hfull hv),
          fun hv => congrArg _ (opLpStage_starts (s := acceptPacket c s) hm hres hrun hfull hv)⟩⟩,
    fun o ho => ⟨execLpStageComplete_runs ho false,
      (execLpStageComplete_runs ho true).trans (congrArg _ (finishStage_loaded o))⟩, execLpStageComplete_idle,
    fun hm hres hrun hfull =>
      ⟨fun hst => congrArg _ (opLpActivate_unstaged (s := acceptPacket c s) hm hres hrun hfull hst),
        fun _ hst => ⟨fun hoff => congrArg _ (opLpActivate_offline (s := acceptPacket c s) hm hres hrun hfull hst hoff),
          fun hon hbad => congrArg _ (opLpActivate_unfit (s := acceptPacket c s) hm hres hrun hfull hst hon hbad),
          fun hon hcode hcheck =>
            ⟨fun hstop => congrArg _
                (opLpActivate_now (s := acceptPacket c s) hm hres hrun hfull hst hon hcode hcheck hstop),
              fun hgo => ⟨_, congrArg Host.Outcome.next
                (opLpActivate_waits (s := acceptPacket c s) hm hres hrun hfull hst hon hcode hcheck hgo), rfl, rfl⟩⟩⟩⟩,
    fun hm hres => congrArg _ (opLpStats_answers (s := acceptPacket c s) hm hres),
    fun hm hact hres _ => ⟨fun _ h => congrArg _ (opLpReadVar_answers (s := acceptPacket c s) hm hact hres h),
      fun h => congrArg _ (opLpReadVar_outside (s := acceptPacket c s) hm hact hres h)⟩⟩

end Sys2Proof.Machine
end

section
/-! PROOF. The ports of the station network, definitions and statistics (chapter 13). -/

namespace Sys2Proof.Machine

open Sys2Proof

section
variable {s : State} {c : Ctx} {ws : List Word} {p : NetPort}

/-! ### NET_CONFIG (R293, R398) -/

/-- The values of a NET_CONFIG in force. -/
def netConfigured (cfg : List (Nat × Int)) (s : State) : State := { s with net := { s.net with cfg := cfg, applied := true } }

/-- The command of a NET_CONFIG runs and the ports restart. -/
def netConfigRuns (c : Ctx) (ws : List Word) (s : State) : State :=
  let s2 := startOp c (newOp c 0x50 0 (par ws 1)) (noteBudget (noteConfig c.src s))
  restartPorts { s2 with net := { s2.net with restart := some (ctxRef c 0x50) } }

theorem opNetConfig_good {cfg : List (Nat × Int)} (hm : inModeList s [3] = true)
    (hcfg : pairsApply netParams netOk s.net.cfg ws 0 = some cfg) (hrun : opRuns s [0x50] = false) (hfull : opsFull s c = false) :
    opNetConfig c ws s = if !loadOk (netConfigured cfg s) then answer c stResource [] s
      else netConfigRuns c ws (netConfigured cfg s) := by
  rw [opNetConfig, modeGate_of_inModeList _ _ hm, hcfg]
  exact if_neg (by simp [hrun, hfull])

/-! ### Links (R295) -/

theorem execPortLinkDown_used (h : portUsed s p = true) : execPortLinkDown p s = .next (refreshLoss
    (let s1 := selectMaster (modPort p (fun q => { linkDown s.clk q with lost := true }) s)
     if (s.fsrc (linkFs p)).present then s1 else raiseFault (linkFs p) 0 s1)) := congrArg _ (if_pos h)

theorem execPortLinkDown_unused (h : portUsed s p = false) : execPortLinkDown p s = .next s := by
  simp [execPortLinkDown, h]

theorem execPortLinkUp_unused (h : portUsed s p = false) (fd an : Bool) : execPortLinkUp p fd an s = .next s := by
  simp [execPortLinkUp, h]

/-- Whether the port comes up with pre-emption: only where it is configured, and as the verify procedure ends. -/
def preempts (s : State) : Bool := netSet s 0x000D0207 == 1 && Config.free s.free % 2 == 1

theorem preempts_of_notConfigured (h : netSet s 0x000D0207 ≠ 1) : preempts s = false := by simp [preempts, h]

section
variable (hu : portUsed s p = true)
include hu

theorem execPortLinkUp_up {fd : Bool} (h : (portOf s.net p).sgmii = false ∨ fd = true) (an : Bool) :
    execPortLinkUp p fd an s = .next (refreshLoss (selectMaster (clearFault (linkFs p) (modPort p (fun q => { q with
      link := true, lost := false, anDone := an || !anOn s p, preempt := preempts s
      changed := if q.link then q.changed else s.clk }) s.drawFree)))) := by
  have hgood : ((portOf s.net p).sgmii && !fd) = false := by rcases h with h | h <;> simp [h]
  unfold execPortLinkUp
  rw [if_pos hu, hgood]
  rfl

/-- On SGMII a link that is not 1000 Mbit/s full duplex counts as down. -/
theorem execPortLinkUp_slow (hsgmii : (portOf s.net p).sgmii = true) (an : Bool) : execPortLinkUp p false an s =
    .next (if (portOf s.net p).link then selectMaster (modPort p (linkDown s.clk) s) else s) := by
  unfold execPortLinkUp
  rw [if_pos hu, hsgmii]
  rfl

end

/-! ### Frames at a port (R330, R333) -/

theorem execLocalFrameReceived_off (h : portUp s p = false) (ok k : Bool) : execLocalFrameReceived p ok k s = .next s := by
  simp [execLocalFrameReceived, h]

theorem execLocalFrameReceived_up (h : portUp s p = true) (ok k : Bool) : execLocalFrameReceived p ok k s =
    .next (if !ok then countFcs p (countRx p s.wakeCore) else if k then prpHeard p (countRx p s.wakeCore)
      else rateLimit id (prpHeard p (countRx p s.wakeCore))) := congrArg _ (if_pos h)

/-! ### FRAME_DEF (R311, R312) -/

/-- A first part that is the whole record, its length as the header states, is carried out. -/
theorem takePart_whole {opcode key : Nat} {data : List Word} {lenOf : List Word → Option Nat} {whole : List Word → State → State}
    (hnone : findPart s opcode = none) (hpos : data ≠ []) (hmax : data.length ≤ 240) (hlen : lenOf data = some data.length) :
    takePart c opcode key 0 data.length data lenOf whole s = whole data (dropPart c.src opcode s) := by
  have hfew : ¬ 240 < data.length := Nat.not_lt.2 hmax
  rw [takePart, hnone]
  simp [hpos, hfew, hlen]

section
variable {w : Word} (hm : inModeList s [3] = true) (hres : reservedBad w 0x13F07#32 = false) (hkind : field w 0 3 ≤ 4)
  (hrun : opRuns s [0x50] = false) (hidx : field w 8 6 < kindCount (field w 0 3))
include hm hres hkind hrun hidx

theorem opFrameDef_deletes (hdel : bitOf w 16 = true) :
    opFrameDef c [w] s = defineFrame c (field w 0 3) (field w 8 6) none s := by
  simp [opFrameDef, modeGate_of_inModeList _ _ hm, par, hres, Nat.not_lt.2 hkind, hrun, Nat.not_le.2 hidx, hdel]

/-- Any other packet brings a part of a record. -/
theorem opFrameDef_part (hdel : bitOf w 16 = false) {w2 : Word} {l : List Word} (hres2 : reservedBad w2 0xFFFFFF#32 = false)
    (hoff : field w2 0 16 = 0) (hlen : l.length = field w2 16 8) : opFrameDef c (w :: w2 :: l) s =
      takePart c 0x52 (64 * field w 0 3 + field w 8 6) 0 l.length l (fun l => l.head?.map fun w => field w 0 16)
        (fun rec s => if defOk s ⟨field w 0 3, rec⟩ (field w 8 6) then
            defineFrame c (field w 0 3) (field w 8 6) (some ⟨field w 0 3, rec⟩) s
          else answer c stBadParam [] s) s := by
  simp [opFrameDef, modeGate_of_inModeList _ _ hm, par, parFrom, hres, Nat.not_lt.2 hkind, hrun, Nat.not_le.2 hidx, hdel, hres2,
    hoff, hlen]

end

/-! ### NET_STATS and the GOOSE retransmission (R319, R333) -/

theorem opNetStats_answers {w : Word} (hm : inModeList s modesAll = true) (hres : reservedBad w 1#32 = false) :
    opNetStats c [w] s =
      answer c stOk ((List.range 19).map (fun i => netRead s (4 * i)) ++ portCounters s.net.a ++ portCounters s.net.b)
        (if bitOf w 0 then { s with net := { s.net with
          cFcs := 0, cStomp := 0, cDup := 0, cAuth := 0, cHs := 0, cRate := 0, early := 0
          a := clearPort s.net.a, b := clearPort s.net.b } } else s) := by
  simp [opNetStats, modeGate_of_inModeList _ _ hm, par, hres]

section
variable {i : Fin 16}

theorem execGooseRetransmit_due (hm : modePublishes s.md.mode = true) (hd : s.net.gpub[i].defn.isSome = true)
    (hf : s.net.gpub[i].first = false) : execGooseRetransmit i s = .next { s with net := { s.net with
      gpub := s.net.gpub.set i { s.net.gpub[i] with due := true } } } := by
  unfold execGooseRetransmit
  rw [hm, hd, hf]
  rfl

theorem execGooseRetransmit_idle (h : modePublishes s.md.mode = false ∨ s.net.gpub[i].defn = none ∨ s.net.gpub[i].first = true) :
    execGooseRetransmit i s = .next s := by
  refine congrArg _ (if_neg ?_)
  rcases h with h | h | h <;> simp [-Fin.getElem_fin, h]

end

end

/-! ### The statement -/

section
variable (s : State)

theorem frameDef_clauses (c : Ctx) (w : Word) (hm : inModeList s [3] = true) (hres : reservedBad w 0x13F07#32 = false)
    (hkind : field w 0 3 ≤ 4) (hrun : opRuns s [0x50] = false) (hidx : field w 8 6 < kindCount (field w 0 3))
    (hdel : bitOf w 16 = false) (hnone : findPart s 0x52 = none) (w2 h : Word) (r : List Word)
    (hres2 : reservedBad w2 0xFFFFFF#32 = false) (hoff : field w2 0 16 = 0) (hlen : (h :: r).length = field w2 16 8)
    (hmax : (h :: r).length ≤ 240) :
    let p := acceptPacket c s
    let d : FrameDef := ⟨field w 0 3, h :: r⟩
    (field h 0 16 = (h :: r).length →
      (defOk (dropPart c.src 0x52 p) d (field w 8 6) = true → exec (.frameDef c (w :: w2 :: h :: r)) s =
        .next (defineFrame c (field w 0 3) (field w 8 6) (some d) (dropPart c.src 0x52 p))) ∧
      (defOk (dropPart c.src 0x52 p) d (field w 8 6) = false → exec (.frameDef c (w :: w2 :: h :: r)) s =
        .next (answer c stBadParam [] (dropPart c.src 0x52 p)))) ∧
    ((h :: r).length < field h 0 16 → exec (.frameDef c (w :: w2 :: h :: r)) s =
      .next (answer c stOk [] { dropPart c.src 0x52 p with
        parts := ⟨c.src, 0x52, 64 * field w 0 3 + field w 8 6, h :: r, s.clk⟩ :: (dropPart c.src 0x52 p).parts })) := by
  intro p d
  have part := opFrameDef_part (s := p) (c := c) hm hres hkind hrun hidx hdel hres2 hoff hlen
  refine ⟨fun hwhole => ?_, fun hfirst => congrArg _ (part.trans (takePart_first hnone (List.cons_ne_nil h r) hmax ?_))⟩
  · have whole := part.trans (takePart_whole hnone (List.cons_ne_nil h r) hmax (congrArg some hwhole))
    exact ⟨fun hok => congrArg _ (whole.trans (if_pos hok)),
      fun hbad => congrArg _ (whole.trans (if_neg (ne_true_of_eq_false hbad)))⟩
  · rintro l ⟨⟩
    exact hfirst

theorem netConfig_clauses (c : Ctx) (ws : List Word) (cfg : List (Nat × Int)) (hm : inModeList s [3] = true)
    (hcfg : pairsApply netParams netOk s.net.cfg ws 0 = some cfg) (hrun : opRuns s [0x50] = false)
    (hfull : opsFull s c = false) :
    let s1 := { acceptPacket c s with net := { s.net with cfg := cfg, applied := true } }
    (loadOk s1 = false → exec (.netConfig c ws) s = .next (answer c stResource [] (acceptPacket c s))) ∧
    (loadOk s1 = true → ∃ t, exec (.netConfig c ws) s = .next t ∧
      t = (let s2 := startOp c (newOp c 0x50 0 (par ws 1)) (noteBudget (noteConfig c.src s1))
           restartPorts { s2 with net := { s2.net with restart := some (ctxRef c 0x50) } })) :=
  let p := acceptPacket c s
  have op := opNetConfig_good (s := p) (c := c) hm hcfg hrun hfull
  ⟨fun hload => congrArg _ (op.trans (if_pos ((Bool.not_eq_true' _).mpr hload))),
    fun hload => ⟨_, congrArg Host.Outcome.next (op.trans (if_neg fun h =>
      Bool.false_ne_true (((Bool.not_eq_true' _).mp h).symm.trans hload))), rfl⟩⟩

end

/-- Settles O33: each event by the equation for its branch, each packet in the state that its acceptance leaves. -/
theorem networkPortsAndDefinitions : Obligations.NetworkPortsAndDefinitions := by
  refine ⟨fun s => ⟨netConfig_clauses s, rfl, fun _ => execPortLinkDown_used,
      fun p fd an hu hfd => ⟨preempts s, execPortLinkUp_up hu hfd an, preempts_of_notConfigured⟩,
      fun p an hu hsgmii => ⟨fun hl => ?_, fun hl => ?_⟩,
      fun p fd an hu => ⟨execPortLinkUp_unused hu fd an, execPortLinkDown_unused hu⟩,
      fun p hup => ⟨execLocalFrameReceived_up hup true true, fun k => execLocalFrameReceived_up hup false k,
        execLocalFrameReceived_up hup true false⟩, fun p ok k hup => execLocalFrameReceived_off hup ok k⟩,
    fun s c w => ⟨fun hm hres hkind hrun hidx =>
        ⟨fun hdel => congrArg _ (opFrameDef_deletes (s := acceptPacket c s) hm hres hkind hrun hidx hdel),
          frameDef_clauses s c w hm hres hkind hrun hidx⟩,
      fun hm hres => ⟨fun hw => ?_, fun hw => ?_⟩,
      fun i => ⟨execGooseRetransmit_due, execGooseRetransmit_idle⟩⟩⟩
  · exact (execPortLinkUp_slow hu hsgmii an).trans (congrArg _ (if_pos hl))
  · exact (execPortLinkUp_slow hu hsgmii an).trans (congrArg _ (if_neg (ne_true_of_eq_false hl)))
  · have op := opNetStats_answers (s := acceptPacket c s) (c := c) hm hres
    rw [hw] at op
    exact congrArg _ op
  · have op := opNetStats_answers (s := acceptPacket c s) (c := c) hm hres
    rw [hw] at op
    exact congrArg _ op

end Sys2Proof.Machine
end

section
/-! PROOF. Redundancy, ring forwarding, subscriptions and the management port (chapter 13). -/

namespace Sys2Proof.Machine

open Sys2Proof

/-! ### Supervision and the duplicate table (R296, R297, R305) -/

section
variable {s : State} {p : NetPort}

theorem execRedundancySupervisionSend_sends (hr : redundant s = true) (hn : s.net.restarting = false) :
    execRedundancySupervisionSend s = .next (sendOn bothPorts (.supervision s.net.supSeq)
      { s with net := { s.net with supSeq := (s.net.supSeq + 1) % 65536 } }) := by
  simp [execRedundancySupervisionSend, hr, hn]

theorem execRedundancySupervisionSend_idle (h : redundant s = false ∨ s.net.restarting = true) :
    execRedundancySupervisionSend s = .next s := by
  rcases h with h | h <;> simp [execRedundancySupervisionSend, h]

theorem execSupervisionMissing_redundant (hr : redundant s = true) : execSupervisionMissing p s =
    .next (if (s.fsrc 58).present then modPort p (fun q => { q with supMiss := true }) s
      else raiseFault 58 0 (modPort p (fun q => { q with supMiss := true }) s)) := congrArg _ (if_pos hr)

theorem execSupervisionMissing_idle (hr : redundant s = false) : execSupervisionMissing p s = .next s :=
  congrArg _ (if_neg (ne_true_of_eq_false hr))

theorem findDup_dropDup (key : BitVec 64) : findDup (dropDup key s) key = none := by
  unfold findDup dropDup
  split
  · simp
  · rfl

/-! ### Ring forwarding (R298, R300, R301, R304) -/

/-- A ring frame as it is counted, whole or failed. -/
def ringCounted (f : RingFrame) (s : State) : State :=
  if f.fcsOk || f.linkFail then countRx f.port s else countFcs f.port (countRx f.port s)

theorem ringCounted_eq (f : RingFrame) : ringCounted f s =
    if f.fcsOk = true ∨ f.linkFail = true then countRx f.port s else countFcs f.port (countRx f.port s) := by
  simp [ringCounted]

/-- A keyed frame entered in the table and, unless it is for this module alone, forwarded by the other port where that is up. -/
def ringPassed (f : RingFrame) (key : Option (BitVec 64)) (s : State) : State :=
  let s3 := enterDup key f.port s
  if f.toUs || !portUp s3 (otherPort f.port) then s3 else forwardCopy f s3

theorem ringPassed_kept {f : RingFrame} {key : Option (BitVec 64)}
    (h : f.toUs = true ∨ portUp (enterDup key f.port s) (otherPort f.port) = false) :
    ringPassed f key s = enterDup key f.port s := by
  rcases h with h | h <;> simp [ringPassed, h]

theorem ringPassed_forwarded {f : RingFrame} {key : Option (BitVec 64)} (hus : f.toUs = false)
    (hup : portUp (enterDup key f.port s) (otherPort f.port) = true) :
    ringPassed f key s = forwardCopy f (enterDup key f.port s) := by
  simp [ringPassed, hus, hup]

theorem execHsrFrameForward_off {f : RingFrame} (h : netMode s ≠ some 2 ∨ portUp s f.port = false) :
    execHsrFrameForward f s = .next s := by
  rcases h with h | h <;> simp [execHsrFrameForward, h]

section
variable {f : RingFrame} (hm : netMode s = some 2) (hup : portUp s f.port = true)
include hm hup

/-- On a port of the ring a frame is the module's own, a copy of one verified, or a new one. -/
theorem execHsrFrameForward_ring :
    let key : Option (BitVec 64) := some (BitVec.append f.src f.seq)
    execHsrFrameForward f s = .next (
      if f.src.toNat = s.fw.mac then (if f.fcsOk then portHeard f.port (ringCounted f s) else ringCounted f s)
      else if isDup (ringCounted f s) key f.port (fun e => e.fwd) then countDup f.port (touchDup key (ringCounted f s))
      else if f.fcsOk then verifyDup key f.port (fun e => { e with fwd := true }) (ringPassed f key (ringCounted f s))
      else failDup key f.port (ringPassed f key (ringCounted f s))) := congrArg _ (if_pos ⟨hm, hup⟩)

end

end

section
variable (s : State)

theorem supervisionMissing_clauses (p : NetPort) :
    (redundant s = true →
      ((s.fsrc 58).present = true → exec (.supervisionMissing p) s = .next (modPort p (fun q => { q with supMiss := true }) s)) ∧
      ((s.fsrc 58).present = false →
        exec (.supervisionMissing p) s = .next (raiseFault 58 0 (modPort p (fun q => { q with supMiss := true }) s)))) ∧
    (redundant s = false → exec (.supervisionMissing p) s = .next s) :=
  ⟨fun hr => ⟨fun hp => (execSupervisionMissing_redundant hr).trans (congrArg _ (if_pos hp)),
      fun hp => (execSupervisionMissing_redundant hr).trans (congrArg _ (if_neg (ne_true_of_eq_false hp)))⟩,
    execSupervisionMissing_idle⟩

theorem ringFrame_clauses (f : RingFrame) (hm : netMode s = some 2) (hup : portUp s f.port = true) :
    let key : Option (BitVec 64) := some (BitVec.append f.src f.seq)
    let s1 := ringCounted f s
    (f.src.toNat = s.fw.mac →
      (f.fcsOk = true → exec (.hsrFrameForward f) s = .next (portHeard f.port s1)) ∧
      (f.fcsOk = false → exec (.hsrFrameForward f) s = .next s1)) ∧
    (f.src.toNat ≠ s.fw.mac → isDup s1 key f.port (fun e => e.fwd) = true →
      exec (.hsrFrameForward f) s = .next (countDup f.port (touchDup key s1))) ∧
    (f.src.toNat ≠ s.fw.mac → isDup s1 key f.port (fun e => e.fwd) = false →
      ∃ s2, (f.toUs = true ∨ portUp (enterDup key f.port s1) (otherPort f.port) = false → s2 = enterDup key f.port s1) ∧
        (f.toUs = false → portUp (enterDup key f.port s1) (otherPort f.port) = true →
          s2 = forwardCopy f (enterDup key f.port s1)) ∧
        (f.fcsOk = true →
          exec (.hsrFrameForward f) s = .next (verifyDup key f.port (fun e => { e with fwd := true }) s2)) ∧
        (f.fcsOk = false → exec (.hsrFrameForward f) s = .next (failDup key f.port s2))) := by
  intro key s1
  have ring : exec (.hsrFrameForward f) s = _ := execHsrFrameForward_ring hm hup
  refine ⟨fun hown => ⟨fun hok => ?_, fun hbad => ?_⟩, fun hother hdup => ?_,
    fun hother hnew => ⟨ringPassed f key s1, ringPassed_kept, ringPassed_forwarded, fun hok => ?_, fun hbad => ?_⟩⟩
  · rw [ring, if_pos hown, if_pos hok]
  · rw [ring, if_pos hown, if_neg (ne_true_of_eq_false hbad)]
  · rw [ring, if_neg hother, if_pos hdup]
  · rw [ring, if_neg hother, if_neg (ne_true_of_eq_false hnew), if_pos hok]
  · rw [ring, if_neg hother, if_neg (ne_true_of_eq_false hnew), if_neg (ne_true_of_eq_false hbad)]

end

/-- Settles O34: each event by the equation for its branch. -/
theorem redundancyAndForwarding : Obligations.RedundancyAndForwarding := by
  intro s
  refine ⟨execRedundancySupervisionSend_sends, execRedundancySupervisionSend_idle, supervisionMissing_clauses s,
    fun key => ⟨dropDup key s, rfl, findDup_dropDup key, rfl⟩, fun f hm hup => ?_, fun f => execHsrFrameForward_off⟩
  rw [← ringCounted_eq]
  exact ringFrame_clauses s f hm hup

/-! ### Subscriptions (R302 to R304, R314, R315, R323) -/

section
variable {s : State}

section
variable {f : GooseFrame}

theorem execGooseFrameReceived_off (hup : portUp s f.port = false) : execGooseFrameReceived f s = .next s := by
  simp [execGooseFrameReceived, hup]

theorem execGooseFrameReceived_words (hup : portUp s f.port = true) (hp : f.phase = .words) : execGooseFrameReceived f s =
    .next (if isDup s.wakeCore f.key f.port (fun e => e.loc) then s.wakeCore
      else (List.finRange 64).foldl (gooseWords f) (enterDup f.key f.port s.wakeCore)) := by
  simp [execGooseFrameReceived, hup, hp]

theorem execGooseFrameReceived_check {ok : Bool} (hup : portUp s f.port = true) (hp : f.phase = .check ok) :
    execGooseFrameReceived f s = .next (subHealth (gooseEnd f ok s.wakeCore)) := by
  simp [execGooseFrameReceived, hup, hp]

end

section
variable {f : MirrorFrame}

theorem execMirrorFrameReceived_off (hup : portUp s f.port = false) : execMirrorFrameReceived f s = .next s := by
  simp [execMirrorFrameReceived, hup]

theorem execMirrorFrameReceived_words (hup : portUp s f.port = true) (hp : f.phase = .words) : execMirrorFrameReceived f s =
    .next (if isDup s.wakeCore f.key f.port (fun e => e.loc) then s.wakeCore
      else (List.finRange 16).foldl (mirrorWords f) (enterDup f.key f.port s.wakeCore)) := by
  simp [execMirrorFrameReceived, hup, hp]

theorem execMirrorFrameReceived_check {ok : Bool} (hup : portUp s f.port = true) (hp : f.phase = .check ok) :
    execMirrorFrameReceived f s = .next (subHealth (mirrorEnd f ok s.wakeCore)) := by
  simp [execMirrorFrameReceived, hup, hp]

end

section
variable {k : SubRef}

theorem expireSub_expired (hv : (subOf s k).valid = true) (hl : (subOf s k).limit < s.spring.tk) :
    expireSub s k = raiseFault (subFs k) 0 (modSub k (fun g => { g with valid := false }) s) := by
  simp [expireSub, hv, hl]

theorem expireSub_fresh (h : (subOf s k).valid = false ∨ s.spring.tk ≤ (subOf s k).limit) : expireSub s k = s := by
  rcases h with h | h
  · simp [expireSub, h]
  · simp [expireSub, Nat.not_lt.mpr h]

end

end

/-- Settles O35: a frame on a port that is up by its phase, a subscription by its freshness. -/
theorem subscriptions : Obligations.Subscriptions := fun _ =>
  ⟨fun _ hup hp => ⟨fun hn => (execGooseFrameReceived_words hup hp).trans (congrArg _ (if_neg (ne_true_of_eq_false hn))),
      fun hd => (execGooseFrameReceived_words hup hp).trans (congrArg _ (if_pos hd))⟩,
    fun _ _ => execGooseFrameReceived_check, fun _ => execGooseFrameReceived_off,
    fun _ hup hp => ⟨fun hn => (execMirrorFrameReceived_words hup hp).trans (congrArg _ (if_neg (ne_true_of_eq_false hn))),
      fun hd => (execMirrorFrameReceived_words hup hp).trans (congrArg _ (if_pos hd))⟩,
    fun _ _ => execMirrorFrameReceived_check, fun _ => execMirrorFrameReceived_off,
    fun _ => ⟨fun hv hl => congrArg _ (expireSub_expired hv hl), fun h => congrArg _ (expireSub_fresh h)⟩⟩

/-! ### The management port (R325 to R330, R478) -/

section
variable {s : State} {part : HsPart}

theorem execArpIcmpRequest_taken {p : NetPort} (h : mgmtPort s p = true) (icmp : Bool) : execArpIcmpRequest p icmp s =
    .next (rateLimit (fun x => sendOn (portsFor x p) (if icmp then .icmp else .arp) x) (countRx p s.wakeCore)) :=
  congrArg _ (if_pos h)

theorem execArpIcmpRequest_off {p : NetPort} (h : mgmtPort s p = false) (icmp : Bool) :
    execArpIcmpRequest p icmp s = .next s := congrArg _ (if_neg (ne_true_of_eq_false h))

theorem mgmtFrame_up (h : mgmtUp s = true) (k : State → State) : mgmtFrame k s = rateLimit k s.wakeCore := if_pos h

theorem mgmtFrame_off (h : mgmtUp s = false) (k : State → State) : mgmtFrame k s = s := if_neg (ne_true_of_eq_false h)

theorem handshakesTaken_iff : handshakesTaken s = true ↔ s.fw.owner ≠ none ∧ s.fw.loopOpen = false := by
  simp [handshakesTaken, Option.isSome_iff_ne_none]

/-- The instants of the handshakes of the last second. -/
def recentHandshakes (s : State) : List Nat := s.net.hsTimes.filter fun t => decide (s.clk < t + 1000000000)

theorem takeMessage1_starts (howner : s.fw.owner.isSome = true) (hloop : s.fw.loopOpen = false) (hi : part.idx = 0)
    (hc : part.count = 1) (hs : part.session = 0#32) (hfew : (recentHandshakes s).length < 8) : takeMessage1 part s =
      (List.range 4).foldl (fun x n => sendOn (bothPorts.filter (mgmtPort x)) (.message2 (BitVec.ofNat 32 (Config.free s.free)) n) x)
        { s.drawFree with net := { s.net with
          hsTimes := s.clk :: recentHandshakes s, hs := some ⟨BitVec.ofNat 32 (Config.free s.free), s.clk, []⟩ } } := by
  have htaken : handshakesTaken s = true := handshakesTaken_iff.mpr ⟨Option.isSome_iff_ne_none.mp howner, hloop⟩
  refine if_pos ?_
  rw [htaken, hi, hc, hs]
  exact decide_eq_true hfew

theorem takeMessage1_ignored (h : s.fw.owner = none ∨ s.fw.loopOpen = true ∨ part.idx ≠ 0 ∨ part.count ≠ 1 ∨
    part.session ≠ 0 ∨ 8 ≤ (recentHandshakes s).length) :
    takeMessage1 part s = { s with net := { s.net with hsTimes := recentHandshakes s } } := by
  refine if_neg fun hall => ?_
  simp only [Bool.and_eq_true, handshakesTaken_iff, beq_iff_eq, decide_eq_true_eq] at hall
  obtain ⟨⟨⟨⟨⟨howner, hloop⟩, hi⟩, hc⟩, hs⟩, hfew⟩ := hall
  rcases h with h | h | h | h | h | h
  · exact howner h
  · exact ne_true_of_eq_false hloop h
  · exact h hi
  · exact h hc
  · exact h hs
  · exact Nat.not_lt.mpr h hfew

section
variable {h : HsState} (hh : s.net.hs = some h) (hs : part.session = h.session) (hc : part.count = 3) (hi : part.idx < 3)
  (howner : s.fw.owner ≠ none) (hloop : s.fw.loopOpen = false) (htime : s.clk < h.since + 2000000000)
  (hnew : h.parts.contains part.idx = false)
include hh hs hc hi howner hloop htime hnew

/-- A new part of message 3 that comes in time is kept, and the last one ends the handshake. -/
theorem takeMessage3_part (ok : Bool) : takeMessage3 part ok s =
    if h.parts.length + 1 < 3 then { s with net := { s.net with
      hs := some { h with parts := part.idx :: h.parts, since := if h.parts = [] then s.clk else h.since } } }
    else if ok then openSession h.session s else failHandshake s := by
  have htaken : handshakesTaken s = true := handshakesTaken_iff.mpr ⟨howner, hloop⟩
  have hgood : ¬(part.session ≠ h.session ∨ part.count ≠ 3 ∨ 3 ≤ part.idx ∨ handshakesTaken s = false) := by
    simp [hs, hc, htaken, hi]
  unfold takeMessage3
  rw [hh]
  simp only [hnew]
  exact (if_neg (Nat.not_le.mpr htime)).trans (if_neg hgood)

end

theorem execHandshakeTimeout_running (h : s.net.hs.isSome = true) : execHandshakeTimeout s = .next (failHandshake s) :=
  congrArg _ (if_pos h)

theorem execHandshakeTimeout_idle (h : s.net.hs = none) : execHandshakeTimeout s = .next s := by
  simp [execHandshakeTimeout, h]

/-! ### The end of a session (R328) -/

theorem closeSession_sessions (id : Nat) : ∀ x ∈ (closeSession id s).net.sessions, x.id ≠ id := by
  intro x hx
  simpa using (List.mem_filter.mp hx).2

theorem closeSession_alives (id : Nat) : ∀ a ∈ (closeSession id s).alives, a.1 ≠ .udp id := by
  intro a ha
  simpa using (List.mem_filter.mp ha).2

theorem execSessionExpire_over {id : BitVec 32} (h : ∃ x ∈ s.net.sessions, x.id = id.toNat ∧ sessionOver s.clk x = true) :
    execSessionExpire id s = .next (closeSession id.toNat s) := by
  refine congrArg _ (if_pos ?_)
  simpa using h

theorem execSessionExpire_alive {id : BitVec 32} (h : ∀ x ∈ s.net.sessions, x.id = id.toNat → sessionOver s.clk x = false) :
    execSessionExpire id s = .next s := by
  refine congrArg _ (if_neg ?_)
  simpa using h

end

section
variable (s : State) (h : HsState) (part : HsPart) (hh : s.net.hs = some h) (hs : part.session = h.session)
  (hc : part.count = 3) (hi : part.idx < 3) (howner : s.fw.owner ≠ none) (hloop : s.fw.loopOpen = false)
  (htime : s.clk < h.since + 2000000000) (hnew : h.parts.contains part.idx = false)
include hh hs hc hi howner hloop htime hnew

theorem message3_clauses (ok : Bool) :
    (h.parts.length < 2 → takeMessage3 part ok s = { s with net := { s.net with
      hs := some { h with parts := part.idx :: h.parts, since := if h.parts = [] then s.clk else h.since } } }) ∧
    (h.parts.length = 2 → takeMessage3 part true s = openSession h.session s ∧ takeMessage3 part false s = failHandshake s) := by
  have take := fun b => takeMessage3_part hh hs hc hi howner hloop htime hnew b
  refine ⟨fun hfew => (take ok).trans (if_pos (by omega)), fun hlast => ?_⟩
  have hfull : ¬h.parts.length + 1 < 3 := by omega
  exact ⟨(take true).trans (if_neg hfull), (take false).trans (if_neg hfull)⟩

end

/-- Settles O36: each event by the equation for its branch, the handshake by its two messages. -/
theorem managementAccess : Obligations.ManagementAccess := fun s =>
  ⟨fun _ icmp => ⟨fun h => execArpIcmpRequest_taken h icmp, fun h => execArpIcmpRequest_off h icmp⟩,
    fun _ _ => ⟨fun h => ⟨congrArg _ (mgmtFrame_off h _), congrArg _ (mgmtFrame_off h _)⟩,
      fun h => ⟨congrArg _ (mgmtFrame_up h _), congrArg _ (mgmtFrame_up h _)⟩⟩,
    fun _ => ⟨fun howner hloop hi hc hs hfew => ⟨_, takeMessage1_starts howner hloop hi hc hs hfew⟩, takeMessage1_ignored⟩,
    fun h part ok hh hs hc hi howner hloop htime hnew => message3_clauses s h part hh hs hc hi howner hloop htime hnew ok,
    ⟨execHandshakeTimeout_running, execHandshakeTimeout_idle⟩,
    fun _ => ⟨fun h => ⟨_, execSessionExpire_over h, closeSession_sessions _, closeSession_alives _, rfl, rfl⟩,
      execSessionExpire_alive⟩⟩

end Sys2Proof.Machine
end

section
/-! PROOF. The culvert: training, mastership, breaks, configuration and tick images (chapter 14). -/

namespace Sys2Proof.Machine

open Sys2Proof

/-! ### Training (R335, R341) -/

section
variable {s : State}

theorem execCasTrainingComplete_off (h : casOn s = false) (r : CasTraining) : execCasTrainingComplete r s = .next s := by
  simp [execCasTrainingComplete, h]

/-- The culvert in CONFLICT, with the peers the training saw. -/
def casConflicted (r : CasTraining) (s : State) : State :=
  modCas (fun c => { seePeers r.peers c with
    ring := r.peers.map fun p => p.idx, localT := false, symNum := none, state := 3, role := 3, noBkp := false, doubleM := false }) s

/-- The culvert UP, with the peers the training saw and the master they report. -/
def casTrained (r : CasTraining) (s : State) : State :=
  let m := (((ownReport s :: r.peers).find? fun p => p.master).map fun p => p.idx.val).getD 0
  modCas (fun c => { seePeers r.peers c with
    ring := r.peers.map fun p => p.idx, localT := false, symNum := none
    state := 2, role := if casDefined s && !s.cas.doubleM then 1 else 0, noBkp := m == 1, master := if c.doubleM then c.master else m
    brkA := false, brkB := false, doubleM := false }) s

section
variable {r : CasTraining} (hon : casOn s = true)
include hon

theorem execCasTrainingComplete_conflict (h : casConflict (ownReport s :: r.peers) s.spring.code = true) :
    execCasTrainingComplete r s =
      .next (if (s.fsrc 73).present then casConflicted r s else raiseFault 73 0 (casConflicted r s)) :=
  congrArg _ ((if_neg (by simp [hon])).trans (if_pos h))

theorem execCasTrainingComplete_up (h : casConflict (ownReport s :: r.peers) s.spring.code = false) :
    execCasTrainingComplete r s = .next (clearFault 73 (casTrained r s)) :=
  congrArg _ ((if_neg (by simp [hon])).trans (if_neg (ne_true_of_eq_false h)))

end

/-! ### Mastership (R337 to R342) -/

section
variable (n : Nat) (i : Fin 8)

theorem execCasTickSymbol_training (h : s.cas.state = 1) : execCasTickSymbol n i s =
    .next { s with cas := { s.cas with doubleM := true, master := i.val } } := congrArg _ (if_pos h)

theorem execCasTickSymbol_off (h1 : s.cas.state ≠ 1) (h2 : s.cas.state ≠ 2) : execCasTickSymbol n i s = .next s :=
  congrArg _ ((if_neg h1).trans (if_pos h2))

theorem execCasTickSymbol_acting (hup : s.cas.state = 2) (hr : s.cas.role = 1) : execCasTickSymbol n i s =
    .next { s with cas := { s.cas with doubleM := decide (casIdx s < i.val) } } := by
  simp [execCasTickSymbol, modCas, hup, hr]

theorem execCasTickSymbol_follows (hup : s.cas.state = 2) (hr : s.cas.role ≠ 1) : execCasTickSymbol n i s =
    .next (casWell { s with cas := { s.cas with
      role := 0, master := i.val, localT := false, symNum := some n, symOut := some n } }) := by
  simp [execCasTickSymbol, modCas, hup, hr]

end

theorem execCasFlywheelTick_idle (h : s.cas.state ≠ 2 ∨ s.cas.role = 1) : execCasFlywheelTick s = .next s :=
  congrArg _ (if_pos h)

section
variable (hup : s.cas.state = 2) (hr : s.cas.role ≠ 1)
include hup hr

/-- The backup, where there is one, takes over. -/
theorem execCasFlywheelTick_takes (h : casIdx s = 1 ∧ s.cas.noBkp = false) : execCasFlywheelTick s =
    .next (raiseFault 72 0 { s with cas := { s.cas with
      localT := true, symNum := none, fly := satAdd 16 s.cas.fly 1, role := 1, master := 1 } }) := by
  obtain ⟨hidx, hbkp⟩ := h
  simp [execCasFlywheelTick, modCas, hup, hr, hidx, hbkp]

theorem execCasFlywheelTick_counts (h : casIdx s ≠ 1 ∨ s.cas.noBkp = true) : execCasFlywheelTick s =
    .next (raiseFault 72 0 { s with cas := { s.cas with
      localT := true, symNum := none, fly := satAdd 16 s.cas.fly 1, role := if s.cas.localT then 2 else s.cas.role } }) := by
  rcases h with h | h <;> simp [execCasFlywheelTick, modCas, hup, hr, h]

end

theorem execCasReclaimHandover_completes {r : CmdRef} (h : s.cas.reclaim = some r) : execCasReclaimHandover s =
    .next (finishOp r stOk 0 []
      { s with cas := { s.cas with reclaim := none, role := 1, master := casIdx s, localT := false } }) := by
  simp [execCasReclaimHandover, modCas, h]

section
variable (hno : s.cas.reclaim = none)
include hno

theorem execCasReclaimHandover_yields (hr : s.cas.role = 1) (h : s.cas.doubleM = true ∨ casDefined s = false) :
    execCasReclaimHandover s = .next { s with cas := { s.cas with role := 0, doubleM := false } } := by
  simp [execCasReclaimHandover, modCas, hno, hr, h]

theorem execCasReclaimHandover_keeps (h : s.cas.role ≠ 1 ∨ (s.cas.doubleM = false ∧ casDefined s = true)) :
    execCasReclaimHandover s = .next s := by
  rcases h with h | ⟨hone, hdef⟩
  · simp [execCasReclaimHandover, hno, h]
  · simp [execCasReclaimHandover, hno, hone, hdef]

end

/-! ### Breaks (R347) -/

theorem execCasLinkBreak_on (h : casOn s = true) (b : Bool) : execCasLinkBreak b s =
    .next (refreshLoss (raiseFault 72 0 { s with cas := { s.cas with
      lost := true, brkA := s.cas.brkA || !b, brkB := s.cas.brkB || b } })) := congrArg _ (if_pos h)

theorem execCasLinkBreak_off (h : casOn s = false) (b : Bool) : execCasLinkBreak b s = .next s :=
  congrArg _ (if_neg (ne_true_of_eq_false h))

end

theorem casTraining_clauses (s : State) (r : CasTraining) (hon : casOn s = true) :
    let bad := casConflict (ownReport s :: r.peers) s.spring.code
    (bad = true → (s.fsrc 73).present = true → ∃ t, exec (.casTrainingComplete r) s = .next t ∧
      t.cas.state = 3 ∧ t.cas.role = 3 ∧ t = { s with cas := t.cas }) ∧
    (bad = true → (s.fsrc 73).present = false → ∃ s1, exec (.casTrainingComplete r) s = .next (raiseFault 73 0 s1) ∧
      s1.cas.state = 3 ∧ s1.cas.role = 3 ∧ s1 = { s with cas := s1.cas }) ∧
    (bad = false → ∃ s1, exec (.casTrainingComplete r) s = .next (clearFault 73 s1) ∧ s1.cas.state = 2 ∧
      s1.cas.role = (if casDefined s && !s.cas.doubleM then 1 else 0) ∧ s1.cas.brkA = false ∧ s1.cas.brkB = false ∧
      s1 = { s with cas := s1.cas }) :=
  ⟨fun hbad hp => ⟨casConflicted r s, (execCasTrainingComplete_conflict hon hbad).trans (congrArg _ (if_pos hp)), rfl, rfl, rfl⟩,
    fun hbad hp => ⟨casConflicted r s,
      (execCasTrainingComplete_conflict hon hbad).trans (congrArg _ (if_neg (ne_true_of_eq_false hp))), rfl, rfl, rfl⟩,
    fun hgood => ⟨casTrained r s, execCasTrainingComplete_up hon hgood, rfl, rfl, rfl, rfl, rfl⟩⟩

/-- Settles O37: each event by the equation for its branch. -/
theorem culvertTrainingAndMastership : Obligations.CulvertTrainingAndMastership :=
  ⟨fun s r => ⟨fun h => execCasTrainingComplete_off h r, casTraining_clauses s r⟩,
    fun _ => ⟨fun n i => ⟨execCasTickSymbol_follows n i, execCasTickSymbol_acting n i, execCasTickSymbol_training n i,
        execCasTickSymbol_off n i⟩,
      fun hup hr => ⟨execCasFlywheelTick_takes hup hr, execCasFlywheelTick_counts hup hr⟩, execCasFlywheelTick_idle,
      fun _ => execCasReclaimHandover_completes,
      fun hno => ⟨execCasReclaimHandover_yields hno, execCasReclaimHandover_keeps hno⟩,
      execCasLinkBreak_on, execCasLinkBreak_off, rfl⟩⟩

/-! ### CAS_CONFIG (R336, R342, R408) -/

section
variable {s : State} {c : Ctx} {ws : List Word}

theorem opCasConfig_reclaim {w : Word} (hm : inModeList s modesAll = true) (hrec : bitOf w 31 = true)
    (hres : reservedBad w 0x80000000#32 = false) : opCasConfig c [w] s = reclaim c s := by
  simp [opCasConfig, modeGate_of_inModeList _ _ hm, refuseIf, par, hrec, hres]

/-- The pairs of a CAS_CONFIG that enter the map. -/
def isMapPair (x : Nat × Word) : Bool := x.1 == 0x000E0104

/-- The map that a CAS_CONFIG gives, where it gives one. -/
def mapOfPairs (pairs : List (Nat × Word)) : Option (List Word) :=
  if pairs.any isMapPair then some ((pairs.filter isMapPair).map Prod.snd) else none

section
variable (hm : inModeList s [3] = true) (hrec : bitOf (par ws 1) 31 = false)
include hm hrec

theorem opCasConfig_values {l : List (Nat × Int)} (hfit : pairsFit ws 0 = true)
    (hl : checkPairs casParams ((pairsOf (ws.drop 1)).filter fun x => !isMapPair x) = some l) :
    opCasConfig c ws s = if !mapOk s ((mapOfPairs (pairsOf (ws.drop 1))).getD s.cas.map) then answer c stBadParam [] s
      else applyCas c (applyPairs s.cas.cfg l) (mapOfPairs (pairsOf (ws.drop 1))) s := by
  unfold isMapPair at hl
  rw [opCasConfig, hrec, modeGate_of_inModeList _ _ hm, hfit]
  dsimp only
  rw [if_pos rfl, hl]
  rfl

theorem opCasConfig_badValues (h : pairsFit ws 0 = false ∨
    checkPairs casParams ((pairsOf (ws.drop 1)).filter fun x => !isMapPair x) = none) :
    opCasConfig c ws s = answer c stBadParam [] s := by
  unfold isMapPair at h
  rw [opCasConfig, hrec, modeGate_of_inModeList _ _ hm]
  dsimp only
  rcases h with h | h
  · rw [h]
    rfl
  · rw [h, ite_self]
    rfl

end

end

section
variable (s : State) (c : Ctx) (ws : List Word)

theorem casConfig_clauses (hm : inModeList s [3] = true) (hrec : bitOf (par ws 1) 31 = false) (l : List (Nat × Int))
    (hfit : pairsFit ws 0 = true)
    (hl : checkPairs casParams ((pairsOf (ws.drop 1)).filter fun x => !isMapPair x) = some l) :
    let pairs := pairsOf (ws.drop 1)
    let p := acceptPacket c s
    (pairs.any isMapPair = false → mapOk s s.cas.map = true →
      exec (.casConfig c ws) s = .next (applyCas c (applyPairs s.cas.cfg l) none p)) ∧
    (pairs.any isMapPair = true → mapOk s ((pairs.filter isMapPair).map Prod.snd) = true → exec (.casConfig c ws) s =
      .next (applyCas c (applyPairs s.cas.cfg l) (some ((pairs.filter isMapPair).map Prod.snd)) p)) ∧
    (pairs.any isMapPair = true → mapOk s ((pairs.filter isMapPair).map Prod.snd) = false →
      exec (.casConfig c ws) s = .next (answer c stBadParam [] p)) := by
  intro pairs p
  have op := opCasConfig_values (s := p) (c := c) hm hrec hfit hl
  have notBad : ∀ {m : List Word}, mapOk p m = true → ¬(!mapOk p m) = true := fun h => by simp [h]
  refine ⟨fun hno hok => ?_, fun hmap hok => ?_, fun hmap hbad => ?_⟩
  · rw [show mapOfPairs (pairsOf (ws.drop 1)) = none from if_neg (ne_true_of_eq_false hno)] at op
    exact congrArg _ (op.trans (if_neg (notBad hok)))
  · rw [show mapOfPairs (pairsOf (ws.drop 1)) = _ from if_pos hmap] at op
    exact congrArg _ (op.trans (if_neg (notBad hok)))
  · rw [show mapOfPairs (pairsOf (ws.drop 1)) = _ from if_pos hmap] at op
    exact congrArg _ (op.trans (if_pos ((Bool.not_eq_true' _).mpr hbad)))

end

/-! ### Tick images (R343 to R345, Table 14-4) -/

section
variable {s : State} {b k : Bool} {img : CasImage}

theorem execCasImageReceived_down (h : s.cas.state ≠ 2) : execCasImageReceived b img k s = .next s := congrArg _ (if_pos h)

section
variable (hup : s.cas.state = 2) {i : Fin 8} (hi : i.val = imgSender img)
include hup hi

theorem execCasImageReceived_words (hp : img.phase = .words) :
    execCasImageReceived b img k s = .next (imageWords b img i (modCas (forwardImage b i.val) s)) := by
  obtain rfl : i = ⟨imgSender img, Nat.mod_lt _ (by decide)⟩ := Fin.ext hi
  simp [execCasImageReceived, hup, hp]

/-- The end of an image; one at another TICK code that passed its checks raises FS73 once. -/
theorem execCasImageReceived_end {ok : Bool} (hp : img.phase = .check ok) : execCasImageReceived b img k s =
    .next (if (ok && k && imgCode img != s.spring.code) && !(s.fsrc 73).present then
        raiseFault 73 0 (imageEnd b img (ok && k) i (modCas (forwardImage b i.val) s))
      else imageEnd b img (ok && k) i (modCas (forwardImage b i.val) s)) := by
  obtain rfl : i = ⟨imgSender img, Nat.mod_lt _ (by decide)⟩ := Fin.ext hi
  simp [execCasImageReceived, hup, hp]

end

end

theorem casImage_clauses (s : State) (b : Bool) (img : CasImage) (k : Bool) (hup : s.cas.state = 2) (i : Fin 8)
    (hi : i.val = imgSender img) :
    let s1 := modCas (forwardImage b i.val) s
    (img.phase = .words → exec (.casImageReceived b img k) s = .next (imageWords b img i s1)) ∧
    (∀ ok, img.phase = .check ok → (ok && k) = false →
      exec (.casImageReceived b img k) s = .next (imageEnd b img false i s1)) ∧
    (img.phase = .check true → k = true →
      (imgCode img = s.spring.code → exec (.casImageReceived b img k) s = .next (imageEnd b img true i s1)) ∧
      (imgCode img ≠ s.spring.code → (s.fsrc 73).present = false →
        exec (.casImageReceived b img k) s = .next (raiseFault 73 0 (imageEnd b img true i s1))) ∧
      (imgCode img ≠ s.spring.code → (s.fsrc 73).present = true →
        exec (.casImageReceived b img k) s = .next (imageEnd b img true i s1))) := by
  intro s1
  refine ⟨execCasImageReceived_words hup hi, fun ok hp hbad => ?_, ?_⟩
  · have ended := execCasImageReceived_end (b := b) (k := k) hup hi hp
    rw [hbad, if_neg (by simp)] at ended
    exact ended
  · rintro hp rfl
    have ended := execCasImageReceived_end (b := b) (k := true) hup hi hp
    refine ⟨fun hcode => ended.trans (congrArg _ (if_neg ?_)), fun hcode hnew => ended.trans (congrArg _ (if_pos ?_)),
      fun hcode hold => ended.trans (congrArg _ (if_neg ?_))⟩
    · simp [hcode]
    · simp [hcode, hnew]
    · simp [hold]

/-- Settles O38: a configuration by its pairs and its map, an image by its phase. -/
theorem culvertConfigurationAndImages : Obligations.CulvertConfigurationAndImages := fun s =>
  ⟨fun c _ hm hrec hres => congrArg _ (opCasConfig_reclaim (s := acceptPacket c s) hm hrec hres),
    fun c ws hm hrec => ⟨casConfig_clauses s c ws hm hrec,
      fun h => congrArg _ (opCasConfig_badValues (s := acceptPacket c s) hm hrec h)⟩,
    fun _ _ _ => execCasImageReceived_down, casImage_clauses s⟩

end Sys2Proof.Machine
end

section
/-! PROOF. Groups: the worker list, forwarding, timeouts and summaries (chapter 14). -/

namespace Sys2Proof.Machine

open Sys2Proof

section
variable {s : State} {c : Ctx} {ws : List Word}

/-! ### GROUP_CONFIG (R348, R408) -/

section
variable (hm : inModeList s [3] = true) (hres : reservedBad (par ws 1) 0x103#32 = false)
include hm hres

theorem opGroupConfig_workers (hk : field (par ws 1) 0 2 = 0) {l : List Worker} (hl : workersOf (ws.drop 1) = some l)
    (hrep : noRepeat (((if bitOf (par ws 1) 8 then s.grp.workers else []) ++ l).map fun w => w.num) = true) :
    opGroupConfig c ws s = answer c stOk [] (groupWell (noteConfig c.src { s with grp := { s.grp with
      workers := ((if bitOf (par ws 1) 8 then s.grp.workers else []) ++ l).foldr insertWorker [] } })) := by
  simp only [opGroupConfig, modeGate_of_inModeList _ _ hm, hk, hl, hrep]
  exact if_neg (ne_true_of_eq_false hres)

theorem opGroupConfig_manager (hk : field (par ws 1) 0 2 = 1) (hlen : ws.length = 11) (hbit : bitOf (par ws 1) 8 = false) :
    opGroupConfig c ws s = answer c stOk [] (noteConfig c.src { s with grp := { s.grp with
      managed := true, mgr := (par ws 3).toNat * 2 ^ 32 + (par ws 2).toNat, key := parFrom ws 4, rxSeq := 0, txSeq := 0 } }) := by
  simp [opGroupConfig, modeGate_of_inModeList _ _ hm, hres, hk, hlen, hbit]

theorem opGroupConfig_ends (hk : field (par ws 1) 0 2 = 2) (hlen : ws.length = 1) (hbit : bitOf (par ws 1) 8 = false) :
    opGroupConfig c ws s = answer c stOk [] (noteConfig c.src { s with
      grp := { s.grp with managed := false, key := [], coord := none } }) := by
  simp [opGroupConfig, modeGate_of_inModeList _ _ hm, hres, hk, hlen, hbit]

end

/-! ### GROUP_FORWARD (R351, R353, R354, R409) -/

/-- The opcodes that a group does not forward. -/
def forwardDenied (op : Nat) : Bool := [0x90, 0x91, 0x95, 0x61].contains op || decide (0xF0 ≤ op)

section
variable {coord stag : Bool} {op lead : Nat}

theorem coordOpcode_permitted (h : coord = true → op = 0x02 ∨ op = 0x93) :
    (coord && op != 0x02 && op != 0x93) = false := by
  cases coord with
  | false => rfl
  | true => rcases h rfl with rfl | rfl <;> rfl

theorem staggerOpcode_permitted (h : stag = true → op = 0x93 ∧ coord = true) :
    (stag && (op != 0x93 || !coord)) = false := by
  cases stag with
  | false => rfl
  | true => simp [h rfl]

theorem lead_permitted (h : coord = true → 50 ≤ lead ∧ lead ≤ 10000) :
    (coord && (decide (lead < 50) || decide (10000 < lead))) = false := by
  cases coord with
  | false => rfl
  | true =>
    obtain ⟨hmin, hmax⟩ := h rfl
    simp [Nat.not_lt.mpr hmin, Nat.not_lt.mpr hmax]

end

section
variable {a b w3 w4 : Word} {packet : List Word} (hm : inModeList s modesNo8 = true)
include hm

theorem opGroupForward_denied (hop : forwardDenied (field (packet.headD 0) 24 8) = true) :
    opGroupForward c (a :: b :: w3 :: w4 :: packet) s = answer c stDenied [] s := by
  rw [opGroupForward, modeGate_of_inModeList _ _ hm]
  exact if_pos hop

/-- A forward whose checks pass starts, or is BUSY with an action that runs or without a place for its operation. -/
theorem opGroupForward_good (hop : forwardDenied (field (packet.headD 0) 24 8) = false) (hb : bitOf b 31 = false)
    (hres : reservedBad w3 3 = false) (hcar : carriedOk packet = true) (hnamed : namedWorkers a b ≠ [])
    (hall : ∀ n ∈ namedWorkers a b, (findWorker s n).isSome = true)
    (hcoord : bitOf w3 0 = true →
      (field (packet.headD 0) 24 8 = 0x02 ∨ field (packet.headD 0) 24 8 = 0x93) ∧ 50 ≤ w4.toNat ∧ w4.toNat ≤ 10000)
    (hstag : bitOf w3 1 = true → field (packet.headD 0) 24 8 = 0x93 ∧ bitOf w3 0 = true) :
    opGroupForward c (a :: b :: w3 :: w4 :: packet) s =
      if s.grp.act.isSome || opsFull s c then answer c stBusy [] s
      else startForward c (namedWorkers a b) (bitOf w3 0) (bitOf w3 1) w4.toNat packet s := by
  have hfound : (namedWorkers a b).any (fun n => (findWorker s n).isNone) = false := by
    simpa [List.any_eq_false, Option.isSome_iff_ne_none] using hall
  have hopcode := coordOpcode_permitted fun h => (hcoord h).1
  have hstagger := staggerOpcode_permitted hstag
  have hlead := lead_permitted fun h => (hcoord h).2
  have hempty : (namedWorkers a b).isEmpty = false := by simpa using hnamed
  rw [opGroupForward, modeGate_of_inModeList _ _ hm]
  refine (if_neg (ne_true_of_eq_false hop)).trans (if_neg (ne_true_of_eq_false ?_))
  change (bitOf b 31 || reservedBad w3 3 || !carriedOk packet || (namedWorkers a b).isEmpty
    || (namedWorkers a b).any (fun n => (findWorker s n).isNone)
    || (bitOf w3 0 && field (packet.headD 0) 24 8 != 0x02 && field (packet.headD 0) 24 8 != 0x93)
    || (bitOf w3 1 && (field (packet.headD 0) 24 8 != 0x93 || !bitOf w3 0))
    || (bitOf w3 0 && (decide (w4.toNat < 50) || decide (10000 < w4.toNat)))) = false
  simp only [hb, hres, hcar, hempty, hfound, hopcode, hstagger, hlead, Bool.or_self, Bool.not_true]

end

/-! ### Timeouts and summaries (R351, R352, R354) -/

theorem execStaggerBatchLimit_action {a : GroupAct} (h : s.grp.act = some a) : execStaggerBatchLimit s =
    .next (if a.step = .commit then failAction a a.wait s else s) := by
  simp [execStaggerBatchLimit, h]

theorem execStaggerBatchLimit_idle (h : s.grp.act = none) : execStaggerBatchLimit s = .next s := by
  simp [execStaggerBatchLimit, h]

theorem execWorkerSummarySend_managed (h : s.grp.managed = true) :
    execWorkerSummarySend s = .next (sendUp s.grp.via (flushGroup s) (groupSummary s)) := congrArg _ (if_pos h)

theorem execWorkerSummarySend_idle (h : s.grp.managed = false) : execWorkerSummarySend s = .next s :=
  congrArg _ (if_neg (ne_true_of_eq_false h))

section
variable {n : Fin 63}

theorem execWorkerSummaryMissing_listed (h : (findWorker s n.val).isSome = true) : execWorkerSummaryMissing n s =
    .next (if (s.fsrc 74).present then modWorker n.val (fun w => { w with ok := false, missing := 3 }) s
      else raiseFault 74 0 (modWorker n.val (fun w => { w with ok := false, missing := 3 }) s)) := congrArg _ (if_pos h)

theorem execWorkerSummaryMissing_unlisted (h : findWorker s n.val = none) : execWorkerSummaryMissing n s = .next s := by
  simp [execWorkerSummaryMissing, h]

end

end

/-! ### The statement -/

section
variable (s : State)

theorem groupConfig_clauses (c : Ctx) (ws : List Word) (hm : inModeList s [3] = true)
    (hres : reservedBad (par ws 1) 0x103#32 = false) :
    (field (par ws 1) 0 2 = 0 → ∀ l, workersOf (ws.drop 1) = some l →
      let all := (if bitOf (par ws 1) 8 then s.grp.workers else []) ++ l
      noRepeat (all.map fun w => w.num) = true → exec (.groupConfig c ws) s = .next (answer c stOk [] (groupWell
        (noteConfig c.src { acceptPacket c s with grp := { s.grp with workers := all.foldr insertWorker [] } })))) ∧
    (field (par ws 1) 0 2 = 1 → ws.length = 11 → bitOf (par ws 1) 8 = false → exec (.groupConfig c ws) s =
      .next (answer c stOk [] (noteConfig c.src { acceptPacket c s with grp := { s.grp with
        managed := true, mgr := (par ws 3).toNat * 2 ^ 32 + (par ws 2).toNat, key := parFrom ws 4, rxSeq := 0, txSeq := 0 } }))) ∧
    (field (par ws 1) 0 2 = 2 → ws.length = 1 → bitOf (par ws 1) 8 = false → exec (.groupConfig c ws) s =
      .next (answer c stOk [] (noteConfig c.src { acceptPacket c s with
        grp := { s.grp with managed := false, key := [], coord := none } }))) :=
  let p := acceptPacket c s
  ⟨fun hk _ hl hrep => congrArg _ (opGroupConfig_workers (s := p) hm hres hk hl hrep),
    fun hk hlen hbit => congrArg _ (opGroupConfig_manager (s := p) hm hres hk hlen hbit),
    fun hk hlen hbit => congrArg _ (opGroupConfig_ends (s := p) hm hres hk hlen hbit)⟩

theorem summaryMissing_clauses (n : Fin 63) :
    ((findWorker s n.val).isSome = true →
      ((s.fsrc 74).present = true →
        exec (.workerSummaryMissing n) s = .next (modWorker n.val (fun w => { w with ok := false, missing := 3 }) s)) ∧
      ((s.fsrc 74).present = false → exec (.workerSummaryMissing n) s =
        .next (raiseFault 74 0 (modWorker n.val (fun w => { w with ok := false, missing := 3 }) s)))) ∧
    (findWorker s n.val = none → exec (.workerSummaryMissing n) s = .next s) :=
  ⟨fun h => ⟨fun hp => (execWorkerSummaryMissing_listed h).trans (congrArg _ (if_pos hp)),
      fun hp => (execWorkerSummaryMissing_listed h).trans (congrArg _ (if_neg (ne_true_of_eq_false hp)))⟩,
    execWorkerSummaryMissing_unlisted⟩

end

/-- Settles O39: GROUP_CONFIG by its kind, GROUP_FORWARD by its checks, each event by the equation for its branch. -/
theorem groupActions : Obligations.GroupActions := by
  intro s
  refine ⟨groupConfig_clauses s, fun c a b w3 w4 packet hm => ⟨fun hop => ?_, fun hop hb hres hcar hnamed hall hcoord hstag => ?_⟩,
    fun _ => rfl, fun a ha => ⟨fun hstep => (execStaggerBatchLimit_action ha).trans (congrArg _ (if_pos hstep)),
      fun hstep => (execStaggerBatchLimit_action ha).trans (congrArg _ (if_neg hstep))⟩,
    execStaggerBatchLimit_idle, execWorkerSummarySend_managed, execWorkerSummarySend_idle, summaryMissing_clauses s⟩
  · exact congrArg _ (opGroupForward_denied (s := acceptPacket c s) hm hop)
  · have op := opGroupForward_good (s := acceptPacket c s) (c := c) hm hop hb hres hcar hnamed hall hcoord hstag
    refine ⟨fun hidle hfull => congrArg _ (op.trans (if_neg ?_)), fun hact => congrArg _ (op.trans (if_pos ?_))⟩
    · have hroom : opsFull (acceptPacket c s) c = false := hfull
      simp [hidle, hroom]
    · simp [Option.isSome_iff_ne_none.mpr hact]

end Sys2Proof.Machine
end

section
/-! PROOF. The paths of packets beside the host port: service port, datagrams, groups and the culvert (chapters 13, 14 and 20). -/

namespace Sys2Proof.Machine

open Sys2Proof

section
variable {s : State}

/-! ### The service port (R461, R462) -/

section
variable {ws : List Word}

theorem execServiceFrame_off (h : svcPortUp s = false) (ws : List Word) : execServiceFrame ws s = .next s := by
  simp [execServiceFrame, h]

section
variable (hup : svcPortUp s = true)
include hup

theorem execServiceFrame_badLength (h : pktFits ws = false) :
    execServiceFrame ws s = .next (svcLenErr (pktCtx .service ws).alive (pktCtx .service ws).tag s) := by
  simp [execServiceFrame, hup, h]

theorem execServiceFrame_runs (hfit : pktFits ws = true) (h : runsFactory .service ws s = false) :
    execServiceFrame ws s = .next (runPacket .service ws s) := by simp [execServiceFrame, hup, hfit, h]

theorem execServiceFrame_factory (hfit : pktFits ws = true) (h : runsFactory .service ws s = true) :
    execServiceFrame ws s = .refused .factoryOpcodeNotDescribed := by simp [execServiceFrame, hup, hfit, h]

theorem execServiceFrameGap_up : execServiceFrameGap s = .next (svcLenErr 0 0 s) := congrArg _ (if_pos hup)

end

theorem execServiceFrameGap_off (h : svcPortUp s = false) : execServiceFrameGap s = .next s :=
  congrArg _ (if_neg (ne_true_of_eq_false h))

end

/-! ### Management datagrams (R328, R330) -/

section
variable {id : BitVec 32} {q : BitVec 64} {tag : Bool} {ws : List Word}

theorem execUdpDataDatagram_off (h : mgmtUp s = false) : execUdpDataDatagram id q tag ws s = .next s := by
  simp [execUdpDataDatagram, h]

section
variable (hup : mgmtUp s = true)
include hup

theorem execUdpDataDatagram_noSession (h : ∀ y ∈ s.net.sessions, y.id = id.toNat → sessionOver s.clk y = true) :
    execUdpDataDatagram id q tag ws s = .next (rateLimit (fun t => t) s.wakeCore) := by
  have hnone : (s.net.sessions.find? fun y => y.id == id.toNat && !sessionOver s.clk y) = none := by
    simpa [List.find?_eq_none] using h
  simp only [execUdpDataDatagram, hup, hnone]
  rfl

theorem execUdpDataDatagram_session {x : Session}
    (h : (s.net.sessions.find? fun y => y.id == id.toNat && !sessionOver s.clk y) = some x) :
    execUdpDataDatagram id q tag ws s = .next (sessionDatagram x q.toNat tag ws s.wakeCore) := by
  simp only [execUdpDataDatagram, hup, h]
  rfl

end

theorem sessionDatagram_accepted {x : Session} {n : Nat} (h : x.count = 0 ∨ x.seq < n) :
    sessionDatagram x n true ws s = closeFull x.id (datagramPacket x.id ws (takeDatagram x.id n s)) := by
  rcases h with h | h
  · simp [sessionDatagram, h]
  · simp [sessionDatagram, Nat.not_le.mpr h]

theorem sessionDatagram_dropped {x : Session} {n : Nat} (h : tag = false ∨ (x.count ≠ 0 ∧ n ≤ x.seq)) :
    sessionDatagram x n tag ws s = authDrop s := by
  rcases h with rfl | ⟨hcount, hseq⟩
  · rfl
  · simp [sessionDatagram, Nat.pos_of_ne_zero hcount, hseq]

end

/-! ### Group datagrams (R349, R350, R353) -/

section
variable {via : Option (Fin 8)} {g : GroupMsg}

theorem groupDatagram_badTag (h : g.tagOk = false) : groupDatagram via g s = raiseFault 75 0 (authDrop s) := by
  simp [groupDatagram, h]

section
variable (ht : g.tagOk = true)
include ht

theorem groupDatagram_worker (hw : forWorker g.body = true) : groupDatagram via g s = workerTakes via g s := by
  simp [groupDatagram, ht, hw]

section
variable (hw : forWorker g.body = false)
include hw

theorem groupDatagram_listed {w : Worker} (h : (s.grp.workers.find? fun x => x.serial == g.serial) = some w) :
    groupDatagram via g s = managerTakes w g s := by simp [groupDatagram, ht, hw, h]

theorem groupDatagram_unlisted (h : (s.grp.workers.find? fun x => x.serial == g.serial) = none) :
    groupDatagram via g s = raiseFault 75 0 (authDrop s) := by simp [groupDatagram, ht, hw, h]

end

end

theorem workerTakes_denied (h : s.grp.managed = false ∨ g.serial ≠ s.grp.mgr) :
    workerTakes via g s = workerDenied via (bodyPacket g.body) s := if_pos h

section
variable (hm : s.grp.managed = true) (hg : g.serial = s.grp.mgr)
include hm hg

theorem workerTakes_obeys (h : s.grp.rxSeq ≤ g.seq) : workerTakes via g s =
    flushGroup (obeyManager g.body { s with grp := { s.grp with rxSeq := g.seq + 1, via := via } }) := by
  simp [workerTakes, hm, hg, Nat.not_lt.mpr h]

theorem workerTakes_old (h : g.seq < s.grp.rxSeq) : workerTakes via g s = raiseFault 75 0 (authDrop s) := by
  simp [workerTakes, hm, hg, h]

end

end

/-! ### Culvert service frames and coordinated actions (R350, R353) -/

section
variable {b : Bool} {f : SvcFrame} {g : GroupMsg}

theorem execCasServiceFrame_down (h : s.cas.state ≠ 2) (k : Bool) : execCasServiceFrame b f k g s = .next s :=
  congrArg _ (if_pos h)

section
variable (hup : s.cas.state = 2)
include hup

theorem execCasServiceFrame_failed : execCasServiceFrame b f false g s =
    .next { s with cas := { s.cas with errs := satAdd 16 s.cas.errs 1 } } := congrArg _ (if_neg (not_not_intro hup))

theorem execCasServiceFrame_good : execCasServiceFrame b f true g s =
    .next (if f.dst.val = casIdx s then groupDatagram (some f.src) g s.wakeCore else forwardService b f s) :=
  congrArg _ (if_neg (not_not_intro hup))

end

end

theorem execCoordActivation_timed {pkt : List Word} {t : Nat} (h : s.grp.coord = some ⟨pkt, some t⟩) :
    execCoordActivation s = .next (if t ≤ s.now then coordAct pkt s else s) := by simp [execCoordActivation, h]

theorem execCoordActivation_prepared {pkt : List Word} (h : s.grp.coord = some ⟨pkt, none⟩) :
    execCoordActivation s = .next s := by simp [execCoordActivation, h]

theorem execCoordActivation_idle (h : s.grp.coord = none) : execCoordActivation s = .next s := by
  simp [execCoordActivation, h]

end

/-! ### The statement -/

section
variable (s : State)

theorem datagram_clauses (id : BitVec 32) (q : BitVec 64) (tag : Bool) (ws : List Word) :
    (mgmtUp s = false → exec (.udpDataDatagram id q tag ws) s = .next s) ∧
    (mgmtUp s = true → (∀ y ∈ s.net.sessions, y.id = id.toNat → sessionOver s.clk y = true) →
      exec (.udpDataDatagram id q tag ws) s = .next (rateLimit (fun t => t) s.wakeCore)) ∧
    (mgmtUp s = true → ∀ x, (s.net.sessions.find? fun y => y.id == id.toNat && !sessionOver s.clk y) = some x →
      (tag = true → (x.count = 0 ∨ x.seq < q.toNat) → exec (.udpDataDatagram id q tag ws) s =
        .next (closeFull x.id (datagramPacket x.id ws (takeDatagram x.id q.toNat s.wakeCore)))) ∧
      (tag = false ∨ (x.count ≠ 0 ∧ q.toNat ≤ x.seq) →
        exec (.udpDataDatagram id q tag ws) s = .next (authDrop s.wakeCore))) := by
  refine ⟨execUdpDataDatagram_off, execUdpDataDatagram_noSession, fun hup x hx => ⟨?_, fun h => ?_⟩⟩
  · rintro rfl h
    exact (execUdpDataDatagram_session hup hx).trans (congrArg _ (sessionDatagram_accepted h))
  · exact (execUdpDataDatagram_session hup hx).trans (congrArg _ (sessionDatagram_dropped h))

theorem groupDatagram_clauses (via : Option (Fin 8)) (g : GroupMsg) :
    (g.tagOk = false → groupDatagram via g s = raiseFault 75 0 (authDrop s)) ∧
    (g.tagOk = true → forWorker g.body = true → s.grp.managed = true → g.serial = s.grp.mgr →
      (s.grp.rxSeq ≤ g.seq → groupDatagram via g s =
        flushGroup (obeyManager g.body { s with grp := { s.grp with rxSeq := g.seq + 1, via := via } })) ∧
      (g.seq < s.grp.rxSeq → groupDatagram via g s = raiseFault 75 0 (authDrop s))) ∧
    (g.tagOk = true → forWorker g.body = true → s.grp.managed = false ∨ g.serial ≠ s.grp.mgr →
      groupDatagram via g s = workerDenied via (bodyPacket g.body) s) ∧
    (g.tagOk = true → forWorker g.body = false →
      (∀ w, (s.grp.workers.find? fun x => x.serial == g.serial) = some w → groupDatagram via g s = managerTakes w g s) ∧
      ((s.grp.workers.find? fun x => x.serial == g.serial) = none →
        groupDatagram via g s = raiseFault 75 0 (authDrop s))) :=
  ⟨groupDatagram_badTag,
    fun ht hw hm hg => ⟨fun h => (groupDatagram_worker ht hw).trans (workerTakes_obeys hm hg h),
      fun h => (groupDatagram_worker ht hw).trans (workerTakes_old hm hg h)⟩,
    fun ht hw h => (groupDatagram_worker ht hw).trans (workerTakes_denied h),
    fun ht hw => ⟨fun _ => groupDatagram_listed ht hw, groupDatagram_unlisted ht hw⟩⟩

end

/-- Settles O54: each path by the equation for its case. -/
theorem otherTransports : Obligations.OtherTransports := fun s =>
  ⟨fun _ hup hfit => ⟨execServiceFrame_runs hup hfit, execServiceFrame_factory hup hfit⟩,
    fun _ hup => execServiceFrame_badLength hup, execServiceFrameGap_up,
    fun hoff => ⟨execServiceFrameGap_off hoff, execServiceFrame_off hoff⟩, datagram_clauses s,
    fun _ => ⟨fun h => congrArg _ (mgmtFrame_off h _), fun h => congrArg _ (mgmtFrame_up h _)⟩, groupDatagram_clauses s,
    fun _ _ _ => ⟨execCasServiceFrame_down, fun hup => ⟨execCasServiceFrame_failed hup,
      fun hus => (execCasServiceFrame_good hup).trans (congrArg _ (if_pos hus)),
      fun hother => (execCasServiceFrame_good hup).trans (congrArg _ (if_neg hother))⟩⟩,
    fun _ _ hc => ⟨fun h => (execCoordActivation_timed hc).trans (congrArg _ (if_pos h)),
      fun h => (execCoordActivation_timed hc).trans (congrArg _ (if_neg (Nat.not_le.mpr h)))⟩,
    fun _ => execCoordActivation_prepared, execCoordActivation_idle⟩

end Sys2Proof.Machine
end
